-- ==== Sys2Proof/Word.lean ====
section
/-! DEFINITION. The word types of the manual: bytes, 32-bit register words (R13) and 64-bit core registers (R220). -/

namespace Sys2Proof

/-- One byte. -/
abbrev Byte := BitVec 8

/-- A 32-bit register word (R13). -/
abbrev Word := BitVec 32

/-- A 64-bit prep-core register (R220). -/
abbrev DWord := BitVec 64

/-- A run of bytes, lowest address first. -/
abbrev Bytes := List Byte

end Sys2Proof
end

