-- ==== Sys2Proof/Syntax.lean ====
section
/-! DEFINITION. The commands of the sled: one constructor of Instr for each row of spec/opcode_table.json, with the
operands that its rule names. The small types before it are the operands' own. -/

namespace Sys2Proof

/-- Who writes or reads a register through the management plane: the SOURCE codes of R394. -/
inductive Src where
  | pf0
  | i3c
  | boot
  | sv (i : Fin 8)
  deriving DecidableEq, Repr

/-- A register's place: an offset of PF0 BAR0 (R42) or of one virtual function's BAR0 (R349). -/
inductive RegAddr where
  | pf0 (off : BitVec 32)
  | vf (v : Fin 64) (off : BitVec 16)
  deriving DecidableEq, Repr

/-- A PCI function: PF0 or virtual function v (R347). -/
inductive Fn where
  | pf
  | vf (v : Fin 64)
  deriving DecidableEq, Repr

/-- The requester ports of the fabric, in the order of R101. -/
inductive Port where
  | host
  | tether (n : Fin 8)
  | srmt
  | dma (e : Fin 16)
  | cluster (c : Fin 16)
  | checkpoint
  | scrub
  deriving DecidableEq, Repr

/-- Where a line request goes: a partition-relative address (R78), a device physical address made under an owner
symbol and epoch (R76, R475) or a service-region address (R73). -/
inductive LineAddr where
  | pra (p : Fin 16) (a : BitVec 64)
  | dpa (owner : Byte) (epoch : Byte) (a : BitVec 48)
  | svc (a : BitVec 64)
  deriving DecidableEq, Repr

/-- A line request: its port and its address. -/
structure LineReq where
  port : Port
  addr : LineAddr
  deriving DecidableEq, Repr

/-- The ports of a scratch bank (R113): an engine's drain write, B read and A read, a prep core, the fill port. -/
inductive ScrPort where
  | drain (e : Fin 4)
  | bRead (e : Fin 4)
  | aRead (e : Fin 4)
  | px (x : Fin 2)
  | fill
  deriving DecidableEq, Repr

/-- Who writes a cluster register or an engine queue (R117, R142, R259): the management plane or a prep core of the
cluster. -/
inductive ClWriter where
  | mgmt (s : Src)
  | px (x : Fin 2)
  deriving DecidableEq, Repr

/-- What a writer puts into an engine's command port (R140): the management plane's write of ENG_CMD[15], or a
prep-core or DMA write of some bytes. -/
inductive EngWrite where
  | mgmt (s : Src) (dw15 : Word)
  | px (x : Fin 2) (data : Bytes)
  | dma (data : Bytes)
  deriving DecidableEq, Repr

/-- The common fields of a core operation (R223). Cores 0-31 are PX0-PX31, cores 32-39 are SV0-SV7 (R292).
`s1` places a scalar operation in slot S1 instead of S0. -/
structure OpHdr where
  core : Fin 40
  s1 : Bool
  guard : Fin 16
  sense : Bool
  stop : Bool
  deriving DecidableEq, Repr

/-- The address fields of an L operation of form LS (R273, R274). -/
structure LsArg where
  mode : Fin 4
  d : Fin 64
  aa : Fin 16
  ofs : BitVec 7
  deriving DecidableEq, Repr

/-- The fields of a V operation of form V (R278). -/
structure VArg where
  lw : Fin 4
  vd : Fin 32
  va : Fin 32
  vb : Fin 32
  deriving DecidableEq, Repr

/-- The fields of an F operation (R283): the vector form and the scalar form. -/
inductive FArg where
  | fv (vd va : Fin 32) (grp : BitVec 3) (fmt : BitVec 4)
  | fs (gd ga : Fin 64)
  deriving DecidableEq, Repr

/-- The operand fields of WAIT without its condition (R289). -/
structure WaitArg where
  pd : Fin 16
  gv : Fin 64
  gl : Fin 64
  deriving DecidableEq, Repr

/-- A received Tether or pair flit as its fields (R320, R321); `crcOk` is the outcome of the CRC-32C check over the
256 bytes and `units` are its fifteen 16-byte units. -/
structure Flit where
  crcOk : Bool
  ftype : BitVec 4
  eclipse : Bool
  seq : BitVec 12
  ack : BitVec 12
  crP : BitVec 12
  crNp : BitVec 12
  crCpl : BitVec 12
  firstHdr : BitVec 4
  units : List Bytes
  deriving DecidableEq, Repr

/-- The header of a Tether message (R326), with the two fields that R600 adds on the pair link. -/
structure MsgHdr where
  mtype : BitVec 4
  cls : BitVec 2
  ordered : Bool
  ackReq : Bool
  tag : BitVec 12
  len : BitVec 7
  last : Bool
  status : Byte
  offset : BitVec 6
  part : BitVec 4
  kind : BitVec 2
  arg : BitVec 64
  deriving DecidableEq, Repr

/-- What makes a received TLP an unsupported request (R357, R347). -/
inductive UrKind where
  | noBar
  | cfgType1
  | io
  | mrdLk
  | atomicOp
  | deferrableWrite
  | pasidOrTph
  | memDisabled
  deriving DecidableEq, Repr

/-- How a host completion for a sled-issued read arrives (R357). -/
inductive CplKind where
  | ok (data : Bytes)
  | poisoned
  deriving DecidableEq, Repr

/-- What a received frame's MAC found (R412) together with its bytes, destination address first. -/
structure Frame where
  fcsOk : Bool
  bytes : Bytes
  deriving DecidableEq, Repr

/-- What firmware does with a slow-path frame (R422). -/
inductive SlowAct where
  | answer (reply : Bytes)
  | reassemble
  | reinject
  | drop
  deriving DecidableEq, Repr

/-- A received SRMT packet: where it came in and its frame bytes from the SRMT header on (R431, R432). -/
structure SrmtPkt where
  part : Fin 16
  src : BitVec 128
  udpLen : BitVec 16
  ce : Bool
  bytes : Bytes
  deriving DecidableEq, Repr

/-- Names one SRMT queue of a virtual function. -/
structure QRef where
  vf : Fin 64
  q : Fin 64
  deriving DecidableEq, Repr

/-- An NVMe queue pair of a virtual function: 0 the admin queue, 1-16 the I/O queues (R510, R533). -/
structure NvmeQ where
  vf : Fin 64
  y : Fin 17
  deriving DecidableEq, Repr

/-- A wake cause of R369, bits as EP_WAKE_EN. -/
inductive WakeCause where
  | touch
  | eject
  | pairLoss
  | i3c
  deriving DecidableEq, Repr

/-- The outcome of a cartridge command (R527). -/
inductive CartResult where
  | ok (data : Bytes)
  | fail
  deriving DecidableEq, Repr

/-- A heartbeat's fields (R601). -/
structure Beat where
  orbit : BitVec 48
  state : Byte
  primary : BitVec 16
  synced : BitVec 16
  handover : BitVec 16
  deriving DecidableEq, Repr

/-- A Hawk event: code, partition and detail bytes (R572). -/
structure HawkEvt where
  code : BitVec 16
  part : Fin 16
  detail : Bytes
  deriving DecidableEq, Repr

/-- The commands of the sled, one constructor a row of spec/opcode_table.json. -/
inductive Instr where
  /-- REG_WRITE (R16): A write to a register field that has no row of its own, applied under its access code. -/
  | regWrite (src : Src) (a : RegAddr) (v : Word)
  /-- ORB_COUNT_LO_READ (R69): A read of ORB_COUNT_LO latches ORB_COUNT_HI and ORB_POS for the same cycle. -/
  | orbCountLoRead (src : Src)
  /-- ORBIT_MARK (R48): Cycle 0 of each orbit: the orbit counter increments and every unit performs its per-mark actions. -/
  | orbitMark
  /-- SLOT_BOUNDARY (R56): At cycle 0 of each slot, each Ephemeris row gives the slot to its owner, a borrower, housekeeping, or nobody. -/
  | slotBoundary (slot : Fin 64)
  /-- EPH_COMMIT (R60): A write of 1 to EPH_CTRL.COMMIT schedules the shadow table to become active at a later mark. -/
  | ephCommit (src : Src) (v : Word)
  /-- EPH_COMMIT_EFFECT (R60): At its mark, the shadow Ephemeris is copied into the active copy for all rows at once. -/
  | ephCommitEffect
  /-- EPH_SLOT_WRITE (R61): A write to a shadow Ephemeris entry, discarded with WRITE_DROPPED while a commit is pending. -/
  | ephSlotWrite (src : Src) (n : Fin 256) (v : Word)
  /-- EPH_MODE_WRITE (R62): A write to EPH_MODE is readable at once and is scheduled to apply at a mark. -/
  | ephModeWrite (src : Src) (v : Word)
  /-- EPH_MODE_APPLY (R62): At its mark, a pending EPH_MODE value becomes the mode in force in EPH_MODE_ACT. -/
  | ephModeApply
  /-- LINE_REQUEST_ADMIT (R74): A line request that was stalled for a tracker entry takes an entry of its package when one frees. -/
  | lineRequestAdmit (rq : LineReq)
  /-- MEM_LINE_READ (R90): A line read is translated, decoded under its owner and epoch, and completes with an R94 status. -/
  | memLineRead (rq : LineReq) (xfer : List (Fin 68 × Byte))
  /-- MEM_LINE_WRITE (R92): A full 64-byte write encodes the line afresh and updates or reseals the group's check line. -/
  | memLineWrite (rq : LineReq) (data : Bytes)
  /-- MEM_PARTIAL_WRITE (R92): A write of fewer than 64 bytes is carried out as a read-modify-write in the controller. -/
  | memPartialWrite (rq : LineReq) (data : Bytes)
  /-- REMAP_SWAP_START (R83): A channel hot for 64 consecutive orbits has its hottest frame chosen and a frame swap started. -/
  | remapSwapStart (p : Fin 16) (c : Fin 256)
  /-- SWAP_GROUP_COPY (R84): One pair of line groups of a swap is copied every four slots, and the remap entry takes effect group by group. -/
  | swapGroupCopy (p : Fin 16) (i : Fin 4)
  /-- SCRUB_GROUP (R98): Every SCRUB_PACE orbits, each active channel scrubs one line group in slot 63. -/
  | scrubGroup (ch : Fin 280)
  /-- MF_SPARE_CMD (R103): A write with GO requests spare-channel service for the named channel. -/
  | mfSpareCmd (src : Src) (v : Word)
  /-- SPARE_COPY_PAGE (R104): One page of two line groups of the failing channel is copied to the spare in slot 63. -/
  | spareCopyPage
  /-- SPARE_SWITCH (R105): At the first mark after the copy ends, the channel table maps the logical channel to the spare. -/
  | spareSwitch
  /-- MF_HASH_KEY_WRITE (R80): A hash key word is written, taking effect only while MAP_LOCKED reads 0. -/
  | mfHashKeyWrite (src : Src) (n : Fin 4) (v : Word)
  /-- MF_INIT_CMD (R107): A write starts initialisation of the named partitions' packages. -/
  | mfInitCmd (src : Src) (v : Word)
  /-- PACKAGE_INIT_DONE (R107): Package initialisation ends and requests to the package no longer complete NOT_READY. -/
  | packageInitDone (pkg : Fin 32)
  /-- SCR_READ (R121): A scratch read of 1 to 64 bytes within one word returns data under the bank word code. -/
  | scrRead (c : Fin 16) (port : ScrPort) (a : BitVec 24) (len : Fin 65)
  /-- SCR_FULL_WRITE (R121): A 64-byte word-aligned scratch write encodes the word afresh. -/
  | scrFullWrite (c : Fin 16) (port : ScrPort) (a : BitVec 24) (data : Bytes)
  /-- SCR_PARTIAL_WRITE (R121): A scratch write of 1 to 63 bytes reads, merges and re-encodes the word. -/
  | scrPartialWrite (c : Fin 16) (port : ScrPort) (a : BitVec 24) (data : Bytes)
  /-- SCR_ATOMIC_ADD (R122): A 32- or 64-bit scratch ADD returns the old value and stores the wrapped sum. -/
  | scrAtomicAdd (c : Fin 16) (port : ScrPort) (wide : Bool) (a : BitVec 24) (x : DWord)
  /-- SCR_ATOMIC_SWAP (R122): A 32- or 64-bit scratch SWAP returns the old value and stores the operand. -/
  | scrAtomicSwap (c : Fin 16) (port : ScrPort) (wide : Bool) (a : BitVec 24) (x : DWord)
  /-- SCR_CORRECTION_WRITEBACK (R119): In an idle bank cycle, a corrected word is written back. -/
  | scrCorrectionWriteback (c : Fin 16) (b : Fin 24)
  /-- SCR_OWN_WRITE (R116): A write of a new owner to SCR_OWN starts a bank handover. -/
  | scrOwnWrite (w : ClWriter) (c : Fin 16) (b : Fin 24) (v : Word)
  /-- SCR_HANDOVER_COMPLETE (R116): Four cycles after the handover write, PENDING clears and the new owner's requests are served. -/
  | scrHandoverComplete (c : Fin 16) (b : Fin 24)
  /-- SCR_INIT_CMD (R128): A write starts initialisation of the named clusters' scratch. -/
  | scrInitCmd (src : Src) (v : Word)
  /-- SCRATCH_INIT_DONE (R128): Scratch initialisation ends after 8,192 cycles and INIT_BUSY clears. -/
  | scratchInitDone (c : Fin 16)
  /-- ENG_ENQUEUE (R140): A descriptor enters an engine's command queue, or is discarded with CMDQ_FULL or CMD_PARTIAL. -/
  | engEnqueue (e : Fin 64) (w : EngWrite)
  /-- ENG_NOP (R147): An engine NOP runs for 4 cycles and increments its completion counter. -/
  | engNop (e : Fin 64)
  /-- ENG_MMA (R147): An MMA command starts, runs its K-steps into its accumulator bank, and drains if DRAIN_AFTER is 1. -/
  | engMma (e : Fin 64)
  /-- ENG_DRAIN (R147): A DRAIN command converts a VALID bank to OUT_FMT and writes it to scratch. -/
  | engDrain (e : Fin 64)
  /-- ENG_CLEAR (R147): A CLEAR sets its bank to zero and VALID in 24 cycles. -/
  | engClear (e : Fin 64)
  /-- ENG_SEED (R191): A SEED loads the engine's stochastic-rounding LFSR. -/
  | engSeed (e : Fin 64)
  /-- ENG_COMMAND_COMPLETE (R162): A command completes: its counter is incremented and its completion record is written to its reserved entry. -/
  | engCommandComplete (e : Fin 64)
  /-- ENG_HEAD_COMPLETE_DEFERRED (R145): A rejected or flushed command waiting for a completion FIFO entry completes in the first cycle an entry is free. -/
  | engHeadCompleteDeferred (e : Fin 64)
  /-- ENG_FLUSH (R164): A write of ENG_CTRL.FLUSH completes every queued command that has not started with FLUSHED. -/
  | engFlush (src : ClWriter) (e : Fin 64)
  /-- ENG_CPL_POP (R165): A write of CPL_POP removes the oldest completion record. -/
  | engCplPop (src : ClWriter) (e : Fin 64)
  /-- ENG_CC_WRITE (R144): A write to a completion counter; a same-cycle increment gives the written value plus 1. -/
  | engCcWrite (src : ClWriter) (e : Fin 64) (i : Fin 16) (v : Word) (inc : Bool)
  /-- TROWEL_FETCH_START (R153): The Trowel copies its table set and begins fetching the next command's stream. -/
  | trowelFetchStart (e : Fin 64)
  /-- TROWEL_LINE_RETURN (R209): A stream line returns from memory and is buffered for decoding. -/
  | trowelLineReturn (e : Fin 64)
  /-- TROWEL_BLOCK_DECODE (R211): A block whose bytes have arrived is decoded and checked, making its 32 K-steps ready. -/
  | trowelBlockDecode (e : Fin 64)
  /-- TRW_TABLE_COMMIT (R206): A write of TRW_TCTL.COMMIT checks the shadow table set and makes it active or sets REJECTED. -/
  | trwTableCommit (w : ClWriter) (c : Fin 16) (t : Fin 16) (v : Word)
  /-- CLUSTER_SUBSTITUTION (R167): At its mark, the spare cluster takes over a cluster's names and the engines and prep cores restart. -/
  | clusterSubstitution
  /-- SPR_CL_CMD (R655): A write with GO requests spare-cluster substitution of the named cluster. -/
  | sprClCmd (src : Src) (v : Word)
  /-- ADD (R271): Integer add into a general register. -/
  | add (h : OpHdr) (gd ga gb : Fin 64)
  /-- SUB (R271): Integer subtract. -/
  | sub (h : OpHdr) (gd ga gb : Fin 64)
  /-- AND (R271): Bitwise AND. -/
  | and (h : OpHdr) (gd ga gb : Fin 64)
  /-- OR (R271): Bitwise OR. -/
  | or (h : OpHdr) (gd ga gb : Fin 64)
  /-- XOR (R271): Bitwise XOR. -/
  | xor (h : OpHdr) (gd ga gb : Fin 64)
  /-- SHL (R271): Logical left shift. -/
  | shl (h : OpHdr) (gd ga gb : Fin 64)
  /-- SHR (R271): Logical right shift. -/
  | shr (h : OpHdr) (gd ga gb : Fin 64)
  /-- SAR (R271): Arithmetic right shift. -/
  | sar (h : OpHdr) (gd ga gb : Fin 64)
  /-- ROR (R271): Rotate right. -/
  | ror (h : OpHdr) (gd ga gb : Fin 64)
  /-- MIN (R271): Signed minimum. -/
  | min (h : OpHdr) (gd ga gb : Fin 64)
  /-- MAX (R271): Signed maximum. -/
  | max (h : OpHdr) (gd ga gb : Fin 64)
  /-- MINU (R271): Unsigned minimum. -/
  | minu (h : OpHdr) (gd ga gb : Fin 64)
  /-- MAXU (R271): Unsigned maximum. -/
  | maxu (h : OpHdr) (gd ga gb : Fin 64)
  /-- CLZ (R271): Count leading zeros. -/
  | clz (h : OpHdr) (gd ga : Fin 64)
  /-- POPC (R271): Count the bits set. -/
  | popc (h : OpHdr) (gd ga : Fin 64)
  /-- MUL (R271): Low 64 bits of a product, with latency 3. -/
  | mul (h : OpHdr) (gd ga gb : Fin 64)
  /-- MULHU (R271): High 64 bits of an unsigned product. -/
  | mulhu (h : OpHdr) (gd ga gb : Fin 64)
  /-- MULHS (R271): High 64 bits of a signed product. -/
  | mulhs (h : OpHdr) (gd ga gb : Fin 64)
  /-- CMP (R271): Signed compare into a predicate. -/
  | cmp (h : OpHdr) (pd : Fin 16) (cond : Fin 4) (ga gb : Fin 64)
  /-- CMPU (R271): Unsigned compare or bit test into a predicate. -/
  | cmpu (h : OpHdr) (pd : Fin 16) (cond : Fin 4) (ga gb : Fin 64)
  /-- ADDI (R271): Add a sign-extended 12-bit immediate. -/
  | addi (h : OpHdr) (gd : Fin 64) (imm : BitVec 12)
  /-- LDI (R271): Load a sign-extended 12-bit immediate. -/
  | ldi (h : OpHdr) (gd : Fin 64) (imm : BitVec 12)
  /-- INSI (R271): Shift left by 12 and insert a 12-bit immediate. -/
  | insi (h : OpHdr) (gd : Fin 64) (imm : BitVec 12)
  /-- ANDI (R271): AND with a sign-extended immediate. -/
  | andi (h : OpHdr) (gd : Fin 64) (imm : BitVec 12)
  /-- CMPI (R271): Compare with a 6-bit immediate into a predicate. -/
  | cmpi (h : OpHdr) (pd : Fin 16) (cond : Fin 4) (ga : Fin 64) (imm : BitVec 6)
  /-- PLOG (R271): Predicate logic. -/
  | plog (h : OpHdr) (pd : Fin 16) (fn : Fin 4) (pa pb : Fin 16)
  /-- MGA (R272): Move a general register to an address register. -/
  | mga (h : OpHdr) (g : Fin 64) (x : Fin 16)
  /-- MAG (R272): Move an address register to a general register. -/
  | mag (h : OpHdr) (g : Fin 64) (x : Fin 16)
  /-- MFS (R272): Move from a special register. -/
  | mfs (h : OpHdr) (g : Fin 64) (x : Fin 16)
  /-- MTS (R272): Move to a special register, trapping on reserved or read-only indices. -/
  | mts (h : OpHdr) (g : Fin 64) (x : Fin 16)
  /-- MFSEG (R272): Move from a segment register half. -/
  | mfseg (h : OpHdr) (g : Fin 64) (x : Fin 16)
  /-- MTSEG (R272): Move to a segment register half. -/
  | mtseg (h : OpHdr) (g : Fin 64) (x : Fin 16)
  /-- LD8U (R275): Load 1 byte, zero-extended. -/
  | ld8u (h : OpHdr) (a : LsArg)
  /-- LD16U (R275): Load 2 bytes, zero-extended. -/
  | ld16u (h : OpHdr) (a : LsArg)
  /-- LD32U (R275): Load 4 bytes, zero-extended. -/
  | ld32u (h : OpHdr) (a : LsArg)
  /-- LD64 (R275): Load 8 bytes. -/
  | ld64 (h : OpHdr) (a : LsArg)
  /-- LD8S (R275): Load 1 byte, sign-extended. -/
  | ld8s (h : OpHdr) (a : LsArg)
  /-- LD16S (R275): Load 2 bytes, sign-extended. -/
  | ld16s (h : OpHdr) (a : LsArg)
  /-- LD32S (R275): Load 4 bytes, sign-extended. -/
  | ld32s (h : OpHdr) (a : LsArg)
  /-- ST8 (R275): Store 1 byte. -/
  | st8 (h : OpHdr) (a : LsArg)
  /-- ST16 (R275): Store 2 bytes. -/
  | st16 (h : OpHdr) (a : LsArg)
  /-- ST32 (R275): Store 4 bytes. -/
  | st32 (h : OpHdr) (a : LsArg)
  /-- ST64 (R275): Store 8 bytes. -/
  | st64 (h : OpHdr) (a : LsArg)
  /-- VLD (R275): Load a 64-byte vector. -/
  | vld (h : OpHdr) (a : LsArg)
  /-- VST (R275): Store a 64-byte vector; a store to ENG_CMD enqueues it. -/
  | vst (h : OpHdr) (a : LsArg)
  /-- ATOM_ADD32 (R276): Scratch atomic 32-bit add returning the old value. -/
  | atomAdd32 (h : OpHdr) (gd : Fin 64) (aa : Fin 16) (ofs : BitVec 7)
  /-- ATOM_ADD64 (R276): Scratch atomic 64-bit add returning the old value. -/
  | atomAdd64 (h : OpHdr) (gd : Fin 64) (aa : Fin 16) (ofs : BitVec 7)
  /-- ATOM_SWAP32 (R276): Scratch atomic 32-bit swap returning the old value. -/
  | atomSwap32 (h : OpHdr) (gd : Fin 64) (aa : Fin 16) (ofs : BitVec 7)
  /-- ATOM_SWAP64 (R276): Scratch atomic 64-bit swap returning the old value. -/
  | atomSwap64 (h : OpHdr) (gd : Fin 64) (aa : Fin 16) (ofs : BitVec 7)
  /-- ENQ (R249): Enqueue a vector as an engine descriptor and write the outcome to a predicate. -/
  | enq (h : OpHdr) (vs : Fin 32) (aa : Fin 16) (pd : Fin 16)
  /-- FENCE (R240): Stall until earlier posted stores complete, trapping STORE_ERROR if any failed. -/
  | fence (h : OpHdr)
  /-- AADDI (R277): Add an immediate to an address register. -/
  | aaddi (h : OpHdr) (ad aa : Fin 16) (imm : Byte)
  /-- AADD (R277): Add a general register to an address register. -/
  | aadd (h : OpHdr) (ad aa : Fin 16) (g : Fin 64)
  /-- VADD (R279): Vector lane add. -/
  | vadd (h : OpHdr) (a : VArg)
  /-- VSUB (R279): Vector lane subtract. -/
  | vsub (h : OpHdr) (a : VArg)
  /-- VMIN (R279): Vector signed minimum. -/
  | vmin (h : OpHdr) (a : VArg)
  /-- VMAX (R279): Vector signed maximum. -/
  | vmax (h : OpHdr) (a : VArg)
  /-- VMINU (R279): Vector unsigned minimum. -/
  | vminu (h : OpHdr) (a : VArg)
  /-- VMAXU (R279): Vector unsigned maximum. -/
  | vmaxu (h : OpHdr) (a : VArg)
  /-- VAND (R279): Vector bitwise AND. -/
  | vand (h : OpHdr) (a : VArg)
  /-- VOR (R279): Vector bitwise OR. -/
  | vor (h : OpHdr) (a : VArg)
  /-- VXOR (R279): Vector bitwise XOR. -/
  | vxor (h : OpHdr) (a : VArg)
  /-- VSEL (R279): Vector bitwise select under vd. -/
  | vsel (h : OpHdr) (a : VArg)
  /-- VSHL (R279): Vector left shift. -/
  | vshl (h : OpHdr) (a : VArg)
  /-- VSHR (R279): Vector logical right shift. -/
  | vshr (h : OpHdr) (a : VArg)
  /-- VSAR (R279): Vector arithmetic right shift. -/
  | vsar (h : OpHdr) (a : VArg)
  /-- VCMPEQ (R279): Vector equality compare to lane masks. -/
  | vcmpeq (h : OpHdr) (a : VArg)
  /-- VCMPLT (R279): Vector signed less-than compare. -/
  | vcmplt (h : OpHdr) (a : VArg)
  /-- VCMPLTU (R279): Vector unsigned less-than compare. -/
  | vcmpltu (h : OpHdr) (a : VArg)
  /-- VBCAST (R279): Broadcast a general register to every lane. -/
  | vbcast (h : OpHdr) (lw : Fin 4) (v : Fin 32) (g : Fin 64)
  /-- VEXT (R279): Extract one lane to a general register. -/
  | vext (h : OpHdr) (lw : Fin 4) (v : Fin 32) (g : Fin 64) (lane : Fin 16)
  /-- VPERM (R279): Permute lanes by index. -/
  | vperm (h : OpHdr) (a : VArg)
  /-- VSLIDE (R279): Slide lanes down with zero fill. -/
  | vslide (h : OpHdr) (a : VArg)
  /-- VFADD (R279): FP32 lane add. -/
  | vfadd (h : OpHdr) (a : VArg)
  /-- VFSUB (R279): FP32 lane subtract. -/
  | vfsub (h : OpHdr) (a : VArg)
  /-- VFMUL (R279): FP32 lane multiply. -/
  | vfmul (h : OpHdr) (a : VArg)
  /-- VFMA (R279): FP32 fused multiply-add. -/
  | vfma (h : OpHdr) (a : VArg)
  /-- VFMIN (R280): FP32 lane minimum. -/
  | vfmin (h : OpHdr) (a : VArg)
  /-- VFMAX (R280): FP32 lane maximum. -/
  | vfmax (h : OpHdr) (a : VArg)
  /-- VFCMPLT (R279): FP32 less-than compare. -/
  | vfcmplt (h : OpHdr) (a : VArg)
  /-- VFCMPLE (R279): FP32 less-or-equal compare. -/
  | vfcmple (h : OpHdr) (a : VArg)
  /-- VREDADD (R279): Integer sum of lanes into lane 0. -/
  | vredadd (h : OpHdr) (a : VArg)
  /-- VREDMAX (R279): Signed maximum of lanes into lane 0. -/
  | vredmax (h : OpHdr) (a : VArg)
  /-- VREDMIN (R279): Signed minimum of lanes into lane 0. -/
  | vredmin (h : OpHdr) (a : VArg)
  /-- VFREDADD (R281): FP32 sum of lanes in a fixed tree. -/
  | vfredadd (h : OpHdr) (a : VArg)
  /-- VFREDMAX (R280): FP32 maximum of lanes, ignoring NaN lanes. -/
  | vfredmax (h : OpHdr) (a : VArg)
  /-- VFARGMAX (R280): FP32 maximum and its lowest lane index. -/
  | vfargmax (h : OpHdr) (a : VArg)
  /-- VFSCAN (R281): FP32 prefix sum in lane order. -/
  | vfscan (h : OpHdr) (a : VArg)
  /-- VSORTK (R280): Lane indices ranked by descending FP32 value. -/
  | vsortk (h : OpHdr) (a : VArg)
  /-- VACCEPT (R282): Accept-scan by token match. -/
  | vaccept (h : OpHdr) (a : VArg)
  /-- VACCEPTP (R282): Accept-scan by probability. -/
  | vacceptp (h : OpHdr) (a : VArg)
  /-- FEXP2 (R285): FP32 2 to the power x. -/
  | fexp2 (h : OpHdr) (a : FArg)
  /-- FLOG2 (R285): FP32 base-2 logarithm. -/
  | flog2 (h : OpHdr) (a : FArg)
  /-- FRCP (R285): FP32 reciprocal. -/
  | frcp (h : OpHdr) (a : FArg)
  /-- FRSQRT (R285): FP32 reciprocal square root. -/
  | frsqrt (h : OpHdr) (a : FArg)
  /-- CVTUP (R287): Convert 16 elements of a format to FP32, exactly. -/
  | cvtup (h : OpHdr) (a : FArg)
  /-- CVTDN (R288): Convert 16 FP32 lanes to a format, writing only one group of vd. -/
  | cvtdn (h : OpHdr) (a : FArg)
  /-- CVTSCL (R287): Convert E8M0 scale bytes to FP32. -/
  | cvtscl (h : OpHdr) (a : FArg)
  /-- CVTI2F (R284): Convert integers to FP32. -/
  | cvti2f (h : OpHdr) (a : FArg)
  /-- CVTF2I (R287): Convert FP32 to saturated integers. -/
  | cvtf2i (h : OpHdr) (a : FArg)
  /-- NOP (R290): Slot-B no-operation. -/
  | nop (h : OpHdr)
  /-- BR (R290): Branch to an absolute target after two delay bundles. -/
  | br (h : OpHdr) (tgt : BitVec 15)
  /-- BRT (R290): Branch when a predicate reads 1. -/
  | brt (h : OpHdr) (pc : Fin 16) (disp : BitVec 14)
  /-- BRF (R290): Branch when a predicate reads 0. -/
  | brf (h : OpHdr) (pc : Fin 16) (disp : BitVec 14)
  /-- BRI (R290): Branch to a register target. -/
  | bri (h : OpHdr) (ga : Fin 64)
  /-- CALL (R242): Push a return offset, spilling if full, and branch. -/
  | call (h : OpHdr) (tgt : BitVec 15)
  /-- CALLI (R242): Push a return offset and branch to a register target. -/
  | calli (h : OpHdr) (ga : Fin 64)
  /-- RET (R243): Pop a return offset, refilling if needed, and branch. -/
  | ret (h : OpHdr)
  /-- BDEC (R290): Decrement and branch when the result is not zero. -/
  | bdec (h : OpHdr) (ga : Fin 64) (disp : BitVec 12)
  /-- WAIT_COMPLETION_COUNTER (R291): Stall until an engine counter reaches a value or the limit expires. -/
  | waitCompletionCounter (h : OpHdr) (a : WaitArg)
  /-- WAIT_ORBIT_SLOT (R291): Stall until an orbit and slot are reached or the limit expires. -/
  | waitOrbitSlot (h : OpHdr) (a : WaitArg)
  /-- WAIT_DOORBELL (R291): Stall until a doorbell word is nonzero or the limit expires. -/
  | waitDoorbell (h : OpHdr) (a : WaitArg)
  /-- WAIT_END (R250): A wait's condition holds or its limit expires, its predicate is written and a trace record is made. -/
  | waitEnd (core : Fin 40) (expired : Bool)
  /-- HALT (R290): The core enters HALTED as for a HALT command. -/
  | halt (h : OpHdr)
  /-- TRAP (R290): Raise trap SOFTWARE with an 8-bit detail. -/
  | trap (h : OpHdr) (imm : Byte)
  /-- TRET (R254): Return from a trap handler, restoring any pending branch. -/
  | tret (h : OpHdr)
  /-- PX_ACCESS_ANSWER (R230): A stalled memory, control-window or port access is answered and the core advances. -/
  | pxAccessAnswer (core : Fin 40)
  /-- DEFERRED_TRAP (R252): A failing answer to a scratch or memory load arrives and the deferred trap is taken. -/
  | deferredTrap (core : Fin 40)
  /-- PX_LOAD (R257): The LOAD command starts loading a program image into a prep core. -/
  | pxLoad (w : ClWriter) (x : Fin 32) (v : Word)
  /-- PX_START (R257): The START command makes a fresh start from READY or resumes from HALTED. -/
  | pxStart (w : ClWriter) (x : Fin 32) (v : Word)
  /-- PX_RESTART (R257): The RESTART command makes a fresh start. -/
  | pxRestart (w : ClWriter) (x : Fin 32) (v : Word)
  /-- PX_HALT (R258): The HALT command stops a running core at the next bundle boundary. -/
  | pxHalt (w : ClWriter) (x : Fin 32) (v : Word)
  /-- PX_LOAD_DONE (R261): A program load ends with READY or EMPTY and PX_LOAD_STATUS set. -/
  | pxLoadDone (x : Fin 32)
  /-- PX_DBELL_WRITE (R251): A write replaces a prep-core doorbell word and may satisfy a wait. -/
  | pxDbellWrite (w : ClWriter) (x : Fin 32) (i : Fin 8) (v : Word)
  /-- FLIT_RECEIVE (R324): A Tether flit is received; a PAYLOAD flit is accepted in sequence or NAKed. -/
  | flitReceive (n : Fin 9) (f : Flit)
  /-- NAK_RECEIVE (R325): A received NAK makes the sender resend every unacknowledged flit. -/
  | nakReceive (n : Fin 9) (ack : BitVec 12)
  /-- RETRY_TIMEOUT (R325): 2 µs without ACK progress triggers a resend; the 16th resend takes the link down. -/
  | retryTimeout (n : Fin 9)
  /-- TETHER_READ (R329): A received READ message is answered with READ_DATA chunks. -/
  | tetherRead (n : Fin 8) (m : MsgHdr)
  /-- TETHER_WRITE (R330): A received WRITE message writes lines of the owner's memory. -/
  | tetherWrite (n : Fin 8) (m : MsgHdr) (data : Bytes)
  /-- WRITE_MASKED (R327): A received masked single-line write. -/
  | writeMasked (n : Fin 8) (m : MsgHdr) (mask : BitVec 64) (data : Bytes)
  /-- DOORBELL (R335): A received Tether DOORBELL writes a prep-core doorbell word. -/
  | doorbell (n : Fin 8) (m : MsgHdr)
  /-- STEP_MARK (R537): A received STEP_MARK updates the port's step count and may meet the checkpoint step target. -/
  | stepMark (n : Fin 8) (m : MsgHdr)
  /-- READ_DATA (R329): A READ_DATA chunk arrives for a sled-issued read. -/
  | readData (n : Fin 8) (m : MsgHdr) (data : Bytes)
  /-- WRITE_ACK (R330): A WRITE_ACK arrives for a sled-issued write. -/
  | writeAck (n : Fin 9) (m : MsgHdr)
  /-- PARAM (R340): A PARAM control unit is received and checked against the credit rules. -/
  | param (n : Fin 9) (u : Bytes)
  /-- TIME_REQ (R340): The sled sends a TIME_REQ every 1,024 orbits, or each orbit in TIME. -/
  | timeReq (n : Fin 9)
  /-- TIME_RSP (R341): A TIME_RSP is received and the offset and delay are computed. -/
  | timeRsp (n : Fin 9) (u : Bytes)
  /-- PARAM_SEND_TIMER (R340): In PARAM state each end sends PARAM every 1 µs. -/
  | paramSendTimer (n : Fin 9)
  /-- SIGNAL_DETECT (R339): With ENABLE at 1 and signal detected, a DOWN port enters PHY_TRAIN. -/
  | signalDetect (n : Fin 9)
  /-- PHY_TRAIN_DONE (R339): Training and FEC alignment complete on all lanes and the port enters FLIT_SYNC. -/
  | phyTrainDone (n : Fin 9)
  /-- TRAIN_TIMEOUT (R339): A port not UP 500 ms after leaving DOWN returns to DOWN. -/
  | trainTimeout (n : Fin 9)
  /-- LOSS_OF_LOCK (R342): PMA or FEC loss on a lane takes the link down. -/
  | lossOfLock (n : Fin 9)
  /-- NO_GOOD_FLIT_TIMEOUT (R342): No good flit for 1 µs takes the link down. -/
  | noGoodFlitTimeout (n : Fin 9)
  /-- TL_RETRAIN (R342): A write of TL_CTRL.RETRAIN takes the link down and retrains it. -/
  | tlRetrain (src : Src) (n : Fin 9)
  /-- ECLIPSE_LONG_TIMEOUT (R344): A peer's ECLIPSE held over 64 ms raises a service alarm. -/
  | eclipseLongTimeout (n : Fin 9)
  /-- TETHER_OWNER_SWITCH (R382): At the first mark after issued messages complete, a port switches owner and serves held messages. -/
  | tetherOwnerSwitch (n : Fin 8)
  /-- PCIE_CONFIG_REQUEST (R357): A Type 0 configuration read or write is served by the function's configuration space. -/
  | pcieConfigRequest (f : Fn) (off : BitVec 12) (wr : Option (Word × BitVec 4))
  /-- BAR0_ACCESS (R352): A memory access to PF0 or VF BAR0 is a register access, or is handled for a wrong width. -/
  | bar0Access (f : Fn) (off : BitVec 26) (len : Nat) (wr : Option Bytes)
  /-- BAR2_READ (R355): A BAR2 read is translated through the aperture and completes in RCB pieces or Completer Abort. -/
  | bar2Read (v : Fin 64) (off : BitVec 36) (len : Nat)
  /-- BAR2_WRITE (R355): A BAR2 write writes partition lines through the aperture. -/
  | bar2Write (v : Fin 64) (off : BitVec 36) (data : Bytes)
  /-- UNSUPPORTED_REQUEST (R357): A request with no BAR match, an unsupported type or a prefix is answered with UR or discarded. -/
  | unsupportedRequest (k : UrKind) (posted : Bool) (vf : Option (Fin 64))
  /-- POISONED_MEMORY_WRITE (R357): A poisoned memory write is discarded and reported in AER. -/
  | poisonedMemoryWrite (f : Fn)
  /-- SET_SLOT_POWER_LIMIT (R357): The message is recorded in Device Capabilities. -/
  | setSlotPowerLimit (v : BitVec 10)
  /-- VENDOR_DEFINED_MESSAGE (R357): Type 0 is answered UR and Type 1 is discarded. -/
  | vendorDefinedMessage (type1 : Bool)
  /-- HOST_COMPLETION (R357): A completion for a sled-issued read arrives; unexpected or poisoned completions are handled here. -/
  | hostCompletion (tag : BitVec 14) (k : CplKind)
  /-- RXQ_ADMIT (R360): A TLP waiting at the link input enters its function's receive queue when room frees. -/
  | rxqAdmit (f : Fn)
  /-- COMPLETION_TIMEOUT (R364): A host request times out and completes to its requester with HOST_TIMEOUT. -/
  | completionTimeout (tag : BitVec 14)
  /-- TAG_HOLD_EXPIRY (R364): A timed-out or squashed tag becomes reusable after 2^14 orbits. -/
  | tagHoldExpiry (tag : BitVec 14)
  /-- MSIX_UNMASK (R366): An unmasked vector with its pending bit set sends its message. -/
  | msixUnmask (f : Fn) (vec : Byte)
  /-- D3HOT_ENTRY (R367): PF0 placed in D3hot puts the sled in D3hot. -/
  | d3hotEntry
  /-- D3HOT_EXIT (R367): PF0 returned to D0 resumes the sled. -/
  | d3hotExit
  /-- PME_TURN_OFF (R368): The sled flushes the storage buffer, sends PME_TO_Ack and enters L2/L3 Ready. -/
  | pmeTurnOff
  /-- WAKE_CAUSE (R369): In D3cold, an enabled wake cause asserts WAKE# and is held in EP_WAKE_CAUSE. -/
  | wakeCause (k : WakeCause)
  /-- VF_DOORBELL_WRITE (R375): A VF BAR0 doorbell write reaches a prep-core doorbell or is discarded with DB_DISCARD. -/
  | vfDoorbellWrite (v : Fin 64) (x : Fin 32) (i : Fin 8) (w : Word)
  /-- HAWK_SUBMIT (R376): A write of SUBMIT hands a mailbox request to firmware, or is discarded while BUSY. -/
  | hawkSubmit (f : Fn) (v : Word)
  /-- FLR_INITIATE (R398): A Function Level Reset of a VF starts squashing and draining its work. -/
  | flrInitiate (v : Fin 64)
  /-- FLR_COMPLETE (R398): At the first mark after draining, the function's state is reset and the FLR completes. -/
  | flrComplete (v : Fin 64)
  /-- PT_MAP_COMMIT (R380): A write of PT_CTRL.COMMIT checks the shadow map and schedules it or rejects it. -/
  | ptMapCommit (src : Src) (v : Word)
  /-- PT_MAP_COMMIT_EFFECT (R382): At its mark, the active map changes and each changed entry resets or rebinds its resource. -/
  | ptMapCommitEffect
  /-- EPOCH_ADVANCE (R384): A write of PT_EPOCH.ADVANCE schedules an epoch increment. -/
  | epochAdvance (src : Src) (p : Fin 16) (v : Word)
  /-- EPOCH_ADVANCE_EFFECT (R385): At its mark, the epoch advances; an advance from 0xFF becomes a partition reset and an era increment. -/
  | epochAdvanceEffect (p : Fin 16)
  /-- PT_RESET (R400): A write of PT_RESET schedules partition resets. -/
  | ptReset (src : Src) (v : Word)
  /-- PARTITION_RESET (R400): At its mark, a partition's functions, clusters and engines are reset and its memory initialised. -/
  | partitionReset (p : Fin 16)
  /-- PARTITION_RESET_DONE (R400): Initialisation ends and PT_RESET_BUSY clears. -/
  | partitionResetDone (p : Fin 16)
  /-- PT_FREEZE (R402): A write of PT_FREEZE schedules a freeze. -/
  | ptFreeze (src : Src) (v : Word)
  /-- FREEZE_EFFECT (R402): At its mark, the partition's agents stop starting work. -/
  | freezeEffect (p : Fin 16)
  /-- PARTITION_AT_REST (R402): The last in-flight work of a frozen partition ends and PT_FROZEN is set. -/
  | partitionAtRest (p : Fin 16)
  /-- PT_THAW (R403): A write of PT_THAW schedules a thaw. -/
  | ptThaw (src : Src) (v : Word)
  /-- THAW_EFFECT (R403): At its mark, a frozen partition resumes. -/
  | thawEffect (p : Fin 16)
  /-- PARTITION_SAVE (R405): PT_SR_CTRL with OP 1 starts a save of a frozen partition's compute state. -/
  | partitionSave (src : Src) (v : Word)
  /-- PARTITION_RESTORE (R407): PT_SR_CTRL with OP 2 starts a restore of a saved image. -/
  | partitionRestore (src : Src) (v : Word)
  /-- SAVE_RESTORE_END (R406): A save or restore ends and RESULT is written. -/
  | saveRestoreEnd
  /-- I3C_REGISTER_WRITE (R392): A 9-byte private write performs a PF0 BAR0 register write. -/
  | i3cRegisterWrite (data : Bytes)
  /-- I3C_REGISTER_READ (R392): A 5-byte private write requests a register read, returned by the next private read. -/
  | i3cRegisterRead (data : Bytes)
  /-- I3C_WAKE (R392): The single byte 0x10 is the I3C wake command. -/
  | i3cWake
  /-- SETDASA (R391): Dynamic address assignment from the static address. -/
  | setdasa (a : BitVec 7)
  /-- ENTDAA (R391): Dynamic address assignment by arbitration. -/
  | entdaa (a : BitVec 7)
  /-- RSTDAA (R391): Reset of the dynamic address. -/
  | rstdaa
  /-- GETPID (R391): Returns the provisioned ID. -/
  | getpid
  /-- GETSTATUS (R391): Returns the target status. -/
  | getstatus
  /-- ETH_FRAME_RECEIVE (R412): A received frame is checked, extracted, assigned a partition and decided by the rules. -/
  | ethFrameReceive (n : Fin 8) (f : Frame)
  /-- ETH_APPLY (R411): A write of ETH_CTRL.APPLY retrains all ports in the new MODE. -/
  | ethApply (src : Src) (v : Word)
  /-- ETH_LINK_CHANGE (R413): A port's link goes up or down. -/
  | ethLinkChange (n : Fin 8) (up : Bool)
  /-- ETH_RULE_CTRL_WRITE (R420): A write of a rule's control word makes it live or not; other writes to a live rule are discarded. -/
  | ethRuleCtrlWrite (src : Src) (r : Fin 2048) (v : Word)
  /-- EGRESS_FRAME_START (R426): In an EGR slot, the scheduler starts an eligible frame and charges its queue's credit. -/
  | egressFrameStart (n : Fin 8)
  /-- SLOW_PATH_FRAME (R422): Firmware handles a slow-path frame: answers, reassembles, reinjects or drops it. -/
  | slowPathFrame (share : Fin 17) (act : SlowAct)
  /-- REINJECT (R423): A reinjected frame passes extraction, prefix match and rule search again. -/
  | reinject (share : Fin 17) (f : Frame)
  /-- FRAGMENT_TIMEOUT (R422): Fragments not reassembled within 1 ms are dropped. -/
  | fragmentTimeout (share : Fin 17)
  /-- SRMT_SEND_PACKET (R457): A received SEND packet is placed into its receive buffer. -/
  | srmtSendPacket (k : SrmtPkt)
  /-- SRMT_WRITE_PACKET (R456): A received WRITE packet is checked against its window and placed. -/
  | srmtWritePacket (k : SrmtPkt)
  /-- READ_REQ (R460): A received READ_REQ is answered with READ_RESP packets. -/
  | readReq (k : SrmtPkt)
  /-- READ_RESP (R460): A received READ_RESP is placed into the requester's local buffer. -/
  | readResp (k : SrmtPkt)
  /-- ACK (R462): A received ACK advances acknowledgement, may trigger fast resends and adjusts CWND. -/
  | ack (k : SrmtPkt)
  /-- CONNECT (R439): A received CONNECT may establish the connection and is answered with ACCEPT. -/
  | connect (k : SrmtPkt)
  /-- ACCEPT (R439): A received ACCEPT moves an OPENING context to ESTABLISHED. -/
  | accept (k : SrmtPkt)
  /-- CLOSE (R440): A received CLOSE flushes the receiver's entries, sends CLOSE_ACK and frees the context. -/
  | close (k : SrmtPkt)
  /-- CLOSE_ACK (R440): A received CLOSE_ACK moves a CLOSING context to FREE. -/
  | closeAck (k : SrmtPkt)
  /-- CONTEXT_FETCH_COMPLETE (R445): A fetched context becomes resident and its waiting packets are processed. -/
  | contextFetchComplete (p : Fin 16) (i : BitVec 20)
  /-- MISS_WAIT_TIMEOUT (R445): A packet held 1 ms in the miss buffer is dropped. -/
  | missWaitTimeout (p : Fin 16) (i : BitVec 20)
  /-- SRMT_SQ_DB (R447): A write sets an SQ producer index. -/
  | srmtSqDb (q : QRef) (v : Word)
  /-- SRMT_RQ_DB (R447): A write sets an RQ producer index, posting receive buffers. -/
  | srmtRqDb (q : QRef) (v : Word)
  /-- SRMT_CQ_DB (R452): A write sets a CQ consumer index and may arm its interrupt. -/
  | srmtCqDb (q : QRef) (v : Word)
  /-- SRMT_AQ_DB (R454): A write sets the admin queue producer index. -/
  | srmtAqDb (v : Fin 64) (w : Word)
  /-- SQ_NOP (R449): A send entry NOP completes. -/
  | sqNop (q : QRef)
  /-- SQ_SEND (R449): A send entry SEND sends one message. -/
  | sqSend (q : QRef)
  /-- SQ_WRITE (R449): A send entry WRITE sends remote write messages. -/
  | sqWrite (q : QRef)
  /-- SQ_READ (R449): A send entry READ sends READ_REQ messages. -/
  | sqRead (q : QRef)
  /-- SQ_ENTRY_COMPLETE (R449): An entry's last message completes and, in order, a CQ entry is written. -/
  | sqEntryComplete (q : QRef)
  /-- CREATE_CQ (R454): Admin command creating a completion queue. -/
  | createCq (v : Fin 64)
  /-- CREATE_SQ (R454): Admin command creating a send queue. -/
  | createSq (v : Fin 64)
  /-- CREATE_RQ (R454): Admin command creating a receive queue. -/
  | createRq (v : Fin 64)
  /-- DESTROY (R454): Admin command destroying a queue and flushing its unstarted entries. -/
  | destroy (v : Fin 64)
  /-- OPEN_CONN (R454): Admin command opening a connection, importing its secret and sending CONNECT. -/
  | openConn (v : Fin 64)
  /-- CLOSE_CONN (R440): Admin command closing a connection. -/
  | closeConn (v : Fin 64)
  /-- OPEN_WINDOW (R455): Admin command opening a remote window. -/
  | openWindow (v : Fin 64)
  /-- REVOKE_WINDOW (R455): Admin command revoking a window. -/
  | revokeWindow (v : Fin 64)
  /-- WINDOW_OPEN_EFFECT (R455): At the next mark the window admits packets and the command completes. -/
  | windowOpenEffect (v : Fin 64)
  /-- REVOKE_COMPLETE (R455): Earlier line writes have completed and the revoke completes. -/
  | revokeComplete (v : Fin 64)
  /-- RTO_EXPIRY (R463): The connection timer expires, resending every unacknowledged packet or ending in ERROR. -/
  | rtoExpiry (p : Fin 16) (i : BitVec 20)
  /-- ACK_TIMER (R461): 2 µs after an unacknowledged accepted packet, an ACK is sent. -/
  | ackTimer (p : Fin 16) (i : BitVec 20)
  /-- DMA_CH_CFG_WRITE (R471): A channel configuration write, discarded whole when enabled with an out-of-range size. -/
  | dmaChCfgWrite (src : Src) (e : Fin 16) (k : Fin 16) (v : Word)
  /-- DMA_POLL (R472): A write of DMA_CH_DB.POLL makes the engine read PROD at once. -/
  | dmaPoll (src : Src) (e : Fin 16) (k : Fin 16)
  /-- DMA_RESUME (R474): A change of RESUME or a write of DMA_CH_DB.RESUME releases a halted channel. -/
  | dmaResume (src : Option Src) (e : Fin 16) (k : Fin 16)
  /-- DMA_NOP (R475): A NOP descriptor completes when it starts. -/
  | dmaNop (e : Fin 16)
  /-- COPY (R478): A COPY descriptor moves bytes through the Float funnel. -/
  | copy (e : Fin 16)
  /-- ENQ_CMD (R475): An ENQ_CMD descriptor writes 64 bytes into an engine command queue. -/
  | enqCmd (e : Fin 16)
  /-- DMA_HALF_EVENT (R481): The first half of a descriptor's bytes completes and the half event is sent. -/
  | dmaHalfEvent (e : Fin 16)
  /-- DMA_DESCRIPTOR_COMPLETE (R474): A descriptor completes, CONS advances, and a record or event is written. -/
  | dmaDescriptorComplete (e : Fin 16)
  /-- CIPH_JOB_ADMIT (R488): In a CIPH slot, a free AES group or KMAC core admits the holder's next job. -/
  | ciphJobAdmit (kmac : Bool) (unit : Fin 4)
  /-- CIPH_JOB_COMPLETE (R486): A cipher job ends and its result or tag check is ready. -/
  | ciphJobComplete (kmac : Bool) (unit : Fin 4)
  /-- DRBG_RESEED (R497): Every 2^20 orbits, the DRBG is reseeded. -/
  | drbgReseed (healthy : Bool)
  /-- ATTEST_GO (R504): A write of GO to CPH_ATT_CTRL snapshots the report state and starts signing. -/
  | attestGo (src : Src) (v : Word)
  /-- ATTEST_DONE (R506): The report and its signature are written and DONE is set. -/
  | attestDone
  /-- STG_SQ_DB (R513): A write sets an NVMe submission queue tail. -/
  | stgSqDb (q : NvmeQ) (v : Word)
  /-- STG_CQ_DB (R514): A write sets an NVMe completion queue head, releasing held completions. -/
  | stgCqDb (q : NvmeQ) (v : Word)
  /-- DELETE_IO_SQ (R511): Admin command deleting an I/O SQ. -/
  | deleteIoSq (v : Fin 64)
  /-- CREATE_IO_SQ (R511): Admin command creating an I/O SQ. -/
  | createIoSq (v : Fin 64)
  /-- DELETE_IO_CQ (R511): Admin command deleting an I/O CQ. -/
  | deleteIoCq (v : Fin 64)
  /-- CREATE_IO_CQ (R511): Admin command creating an I/O CQ. -/
  | createIoCq (v : Fin 64)
  /-- IDENTIFY (R511): Admin command returning namespace, controller or active-namespace data. -/
  | identify (v : Fin 64)
  /-- GET_LOG_PAGE (R511): Admin command returning the device self-test log. -/
  | getLogPage (v : Fin 64)
  /-- DEVICE_SELF_TEST (R526): Admin command starting or aborting a short or extended self-test. -/
  | deviceSelfTest (v : Fin 64)
  /-- FLUSH (R520): I/O command completing once earlier writes and a cartridge flush are done. -/
  | flush (q : NvmeQ)
  /-- NVME_WRITE (R518): I/O write that encrypts blocks into the write buffer, or to the cartridge with FUA. -/
  | nvmeWrite (q : NvmeQ)
  /-- NVME_READ (R519): I/O read from the buffer or the cartridge. -/
  | nvmeRead (q : NvmeQ)
  /-- WRITE_ZEROES (R512): I/O command writing encrypted zeros through the buffer. -/
  | writeZeroes (q : NvmeQ)
  /-- DATASET_MANAGEMENT (R512): I/O command deallocating one range. -/
  | datasetManagement (q : NvmeQ)
  /-- RANGE_LOCK_RELEASE (R523): An earlier command completes and an overlapping waiting command proceeds. -/
  | rangeLockRelease (p : Fin 16)
  /-- BUFFER_FLUSH_WRITE (R525): The sled issues a write-buffer flush write to the cartridge by priority class. -/
  | bufferFlushWrite
  /-- CARTRIDGE_COMPLETION (R527): A cartridge command completes; repeated write failures put the namespace in FAILED. -/
  | cartridgeCompletion (id : Nat) (r : CartResult)
  /-- STG_NS_FORMAT (R517): A write of FORMAT deallocates the namespace, writes a new header and makes it READY. -/
  | stgNsFormat (src : Src) (n : Fin 64) (v : Word)
  /-- EJECT_REQUEST (R528): An eject request drains the buffer, shuts the cartridge down and unlocks the latch. -/
  | ejectRequest (src : Option Src)
  /-- SHUTDOWN_TIMEOUT (R528): 10 s without shutdown complete unlocks the latch and sets SHUTDOWN_TIMEOUT. -/
  | shutdownTimeout
  /-- CARTRIDGE_INSERT (R529): An inserted cartridge is locked, initialised and mounted. -/
  | cartridgeInsert (ok : Bool)
  /-- MOUNT_TIMEOUT (R529): A cartridge not initialised in 10 s leaves CART_STATE at FAILED. -/
  | mountTimeout
  /-- SURPRISE_REMOVAL (R530): A cartridge leaving without SAFE fails outstanding commands and discards the buffer. -/
  | surpriseRemoval
  /-- HOLDUP_LOW (R521): Bank energy below 150 J sets write-through. -/
  | holdupLow (joules : BitVec 10)
  /-- HOLDUP_RECOVER (R521): Bank energy above 170 J clears write-through. -/
  | holdupRecover (joules : BitVec 10)
  /-- CHECKPOINT_TIMER (R536): The orbit counter reaches the last cut plus CK_INTERVAL and triggers a checkpoint. -/
  | checkpointTimer (p : Fin 16)
  /-- CK_NOW (R536): A write of CK_CTRL.NOW triggers a checkpoint. -/
  | ckNow (src : Src) (p : Fin 16) (v : Word)
  /-- CK_ABORT (R553): A write of CK_CTRL.ABORT abandons the checkpoint in progress. -/
  | ckAbort (src : Src) (p : Fin 16) (v : Word)
  /-- CK_FORCE_BASE (R539): A write of FORCE_BASE sets BASE_NEXT. -/
  | ckForceBase (src : Src) (p : Fin 16) (v : Word)
  /-- CUT (R539): At the mark after a trigger, DIRTY granules become PENDING, or the cut is refused. -/
  | cut (p : Fin 16)
  /-- SKIM_SLICE (R541): At each mark of a Skim, up to SLICE pending granules are copied. -/
  | skimSlice (p : Fin 16)
  /-- COW_FORCED_COPY (R542): A write to a PENDING granule forces its copy and waits for it. -/
  | cowForcedCopy (p : Fin 16) (g : BitVec 25)
  /-- GRANULE_COPY_COMPLETE (R541): A granule's copy completes, it becomes HELD and waiting writes are released. -/
  | granuleCopyComplete (p : Fin 16) (g : BitVec 25)
  /-- CURE_START (R546): At the first mark after the Skim ends, the Cure checks free extents and begins. -/
  | cureStart (p : Fin 16)
  /-- CURE_DONE (R548): The manifest write completes, HELD granules become CLEAN and DONE is set. -/
  | cureDone (p : Fin 16)
  /-- RESTORE_CARTRIDGE (R551): CK_RST_CTRL GO with SRC 0 restores the range from the cartridge. -/
  | restoreCartridge (src : Src) (p : Fin 16) (v : Word)
  /-- RESTORE_REMOTE (R550): CK_RST_CTRL GO with SRC 1 restores the range from the remote window. -/
  | restoreRemote (src : Src) (p : Fin 16) (v : Word)
  /-- RESTORE_END (R551): A restore ends with success or NO_VALID. -/
  | restoreEnd (p : Fin 16)
  /-- WATCHDOG_EXPIRY (R562): A service core's watchdog count reaches 4 and the core restarts. -/
  | watchdogExpiry (i : Fin 8)
  /-- SV_WDOG_KICK (R562): A write of KICK clears the watchdog count. -/
  | svWdogKick (src : Src) (i : Fin 8) (v : Word)
  /-- SV_CTRL_RESTART (R564): A write of RESTART restarts a service core and clears its storm count. -/
  | svCtrlRestart (src : Src) (i : Fin 8) (v : Word)
  /-- SV_RESTART_COMPLETE (R563): The restarted core's firmware is verified and Fersa runs, or the core stays HALTED. -/
  | svRestartComplete (i : Fin 8)
  /-- HAWK_TAKE (R571): Firmware takes a submitted request when fewer than 4 are in progress, clearing BUSY. -/
  | hawkTake (f : Fn)
  /-- GET_INFO (R569): Hawk request returning the partition's resources. -/
  | getInfo (f : Fn)
  /-- PX_LOAD_REQUEST (R569): Hawk request loading prep cores. -/
  | pxLoadRequest (f : Fn)
  /-- PX_CONTROL (R569): Hawk request starting, halting or restarting prep cores. -/
  | pxControl (f : Fn)
  /-- DMA_CHANNEL (R569): Hawk request configuring a DMA channel. -/
  | dmaChannel (f : Fn)
  /-- RULE_INSTALL (R569): Hawk request installing a classifier rule. -/
  | ruleInstall (f : Fn)
  /-- RULE_REMOVE (R569): Hawk request clearing a rule's VALID. -/
  | ruleRemove (f : Fn)
  /-- CHECKPOINT_NOW (R569): Hawk request triggering a checkpoint. -/
  | checkpointNow (f : Fn)
  /-- CHECKPOINT_STATUS (R569): Hawk request returning checkpoint state. -/
  | checkpointStatus (f : Fn)
  /-- ATTEST (R568): Hawk request producing an attestation report and copying it out. -/
  | attest (f : Fn)
  /-- HAWK_RESPONSE_WRITE (R571): A completed response is written when RESP_READY reads 0, and vector 0 is signalled. -/
  | hawkResponseWrite (f : Fn)
  /-- HAWK_EVENT (R572): Firmware writes an event to a function's event ring, or counts it lost. -/
  | hawkEvent (ev : HawkEvt)
  /-- LOG_DATA_LATCH_READ (R575): A read of LOG_DATA[0] latches the selected log entry and its sequence number. -/
  | logDataLatchRead (src : Src)
  /-- LOG_DATA_ADVANCE_READ (R575): A read of LOG_DATA[15] advances LOG_RD_INDEX. -/
  | logDataAdvanceRead (src : Src)
  /-- POWER_ON (R584): P48V good after power-on or D3cold return starts a boot at FUSES. -/
  | powerOn
  /-- PERST_EDGE (R584): A high-to-low PERST# edge starts class H. -/
  | perstEdge
  /-- HOT_RESET (R370): A PCIe hot reset or unexplained link down starts class H. -/
  | hotReset
  /-- BOOT_REBOOT (R584): A write of BOOT_CTRL.REBOOT starts class H. -/
  | bootReboot (src : Src) (v : Word)
  /-- BOOT_TEST (R588): A write of BOOT_CTRL.TEST in hosted boot enters test mode. -/
  | bootTest (src : Src) (v : Word)
  /-- BOOT_STAGE_COMPLETE (R583): A boot stage ends and the sequencer runs the next stage or script entry. -/
  | bootStageComplete
  /-- BOOT_STAGE_NEXT (R587): In hosted boot, a write of NEXT runs the next stage. -/
  | bootStageNext (src : Src) (v : Word)
  /-- BOOT_SCRIPT_DELAY_EXPIRY (R586): A DELAY entry's orbits pass and the script continues. -/
  | bootScriptDelayExpiry
  /-- FUSE_ADVANCE_FW_SVN (R589): FUSE_PROG_CTRL FIELD 1 advances the fused firmware SVN. -/
  | fuseAdvanceFwSvn (src : Src) (v : Word)
  /-- FUSE_ADVANCE_IMG_SVN (R589): FIELD 2 advances the fused image SVN. -/
  | fuseAdvanceImgSvn (src : Src) (v : Word)
  /-- FUSE_PROGRAM_OWNER (R589): FIELDS 3–6 program an owner digest slot. -/
  | fuseProgramOwner (src : Src) (v : Word)
  /-- FUSE_REVOKE_OWNER (R589): FIELDS 7–10 revoke an owner digest slot. -/
  | fuseRevokeOwner (src : Src) (v : Word)
  /-- FLASH_READ (R590): FLASH_CMD READ copies a 256-byte page into FLASH_BUF. -/
  | flashRead (src : Src) (v : Word)
  /-- FLASH_PROGRAM (R590): FLASH_CMD PROGRAM stores FLASH_BUF into a page. -/
  | flashProgram (src : Src) (v : Word)
  /-- FLASH_ERASE (R590): FLASH_CMD ERASE sets a 64 KiB sector to ones. -/
  | flashErase (src : Src) (v : Word)
  /-- FLASH_CMD_DONE (R590): A flash command, or one held during IMAGE, ends and BUSY clears. -/
  | flashCmdDone
  /-- ECL_GO (R591): A write of ECL_CTRL.GO schedules an Eclipse reset. -/
  | eclGo (src : Src) (v : Word)
  /-- ECLIPSE_ENTRY (R592): At its mark, compute work stops and memory goes to self-refresh. -/
  | eclipseEntry
  /-- ECLIPSE_RESET_RELEASE (R592): 1 ms after entry, the reset is released and memory retune begins. -/
  | eclipseResetRelease
  /-- ECLIPSE_RETUNE_DONE (R592): Memory retune ends on every package. -/
  | eclipseRetuneDone
  /-- ECLIPSE_EXIT (R592): At the first mark after retune, scratch is initialised, cores restart and held work resumes. -/
  | eclipseExit
  /-- P48V_LOW (R32): P48V below 40 V for 1 ms starts the power-loss sequence. -/
  | p48vLow
  /-- POWER_LOSS_SEQUENCE (R595): The sled idles links, flushes storage and powers off within 500 ms. -/
  | powerLossSequence
  /-- POWER_OFF (R595): The power-loss sequence ends, die and memory power off, and LOSS_SEEN is set. -/
  | powerOff
  /-- THERMAL_ALARM (R35): The junction reaches 100 °C and a thermal service alarm is raised. -/
  | thermalAlarm
  /-- THERMAL_TRIP (R35): The junction reaches 110 °C; the power-loss sequence runs and the sled stays off. -/
  | thermalTrip
  /-- HEARTBEAT (R601): A pair heartbeat is received, resetting MISS and carrying state, roles and handover bits. -/
  | heartbeat (b : Beat)
  /-- HEARTBEAT_SEND (R601): The pair link sends one heartbeat per orbit in slot 63. -/
  | heartbeatSend
  /-- MIRROR_WRITE (R602): A KIND 0 message writes mirrored memory at the standby. -/
  | mirrorWrite (m : MsgHdr) (data : Bytes)
  /-- STORAGE_MIRROR_WRITE (R602): A KIND 1 message writes a mirrored namespace and is acknowledged. -/
  | storageMirrorWrite (m : MsgHdr) (data : Bytes)
  /-- RESYNC_WRITE (R605): A KIND 2 message writes a resync granule. -/
  | resyncWrite (m : MsgHdr) (data : Bytes)
  /-- MIRROR_DESC (R603): A received descriptor is compared with the sled's own; agreement starts mirroring. -/
  | mirrorDesc (u : Bytes)
  /-- MIRROR_DESC_TIMEOUT (R603): No descriptor 1 ms after UP is treated as a mismatch. -/
  | mirrorDescTimeout
  /-- MIRROR_QUEUE_TIMEOUT (R604): A write waiting 4 µs for mirror queue room puts the partition out of sync. -/
  | mirrorQueueTimeout (p : Fin 16)
  /-- RESYNC_COMPLETE (R605): The resync copy ends, the queue drains and SYNCED is set. -/
  | resyncComplete (p : Fin 16)
  /-- PAIR_ALIVE_LOW (R607): PAIR_ALIVE low for 1 µs while READY declares the partner lost. -/
  | pairAliveLow
  /-- PAIR_LOSS (R609): At the mark of loss, each mirrored partition takes over, stays standby or is fenced. -/
  | pairLoss
  /-- PAIR_HANDOVER (R610): A write of PAIR_HANDOVER starts a planned handover, or takes over when the partner is lost. -/
  | pairHandover (src : Src) (v : Word)
  /-- HANDOVER_QUEUE_DRAINED (R610): The mirror queue drains and the HANDOVER bit goes into heartbeats. -/
  | handoverQueueDrained (p : Fin 16)
  /-- RETURN_HOLD_EXPIRY (R612): 64 orbits after READY, a returning sled sets its roles. -/
  | returnHoldExpiry
  /-- SAMPLE_EXPORT (R618): Every DBG_SAMPLE_EVERY orbits, firmware exports class-4 sample records. -/
  | sampleExport
  /-- DBG_TIME_STEP (R619): A write adds nanoseconds to device time in the next cycle. -/
  | dbgTimeStep (src : Src) (v : Word)
  /-- TAIL_RESUME (R623): A write restarts Tail ring recording. -/
  | tailResume (src : Src) (v : Word)
  /-- STOP_GO (R637): A write of STOP_GO requests a global stop. -/
  | stopGo (src : Src) (v : Word)
  /-- GLOBAL_STOP (R638): At the stop mark, every unit freezes and boundary captures begin. -/
  | globalStop
  /-- DUMP_DONE (R640): The stop dump has been written and DUMP_DONE is set. -/
  | dumpDone
  /-- DEBUG_DECRYPT (R631): A write of GO to DBG_DEC_CTRL decrypts capture blocks. -/
  | debugDecrypt (src : Src) (v : Word)
  /-- RECORD_CHANGE (R642): At the mark, a change of PT_DEBUG.RECORD starts or ends input recording. -/
  | recordChange (p : Fin 16)
  /-- REPLAY_GO (R645): A write of DBG_REPLAY_CTRL GO arms replay of a frozen partition. -/
  | replayGo (src : Src) (p : Fin 16) (v : Word)
  /-- REPLAY_INJECT (R645): At the start of each slot, the recorded items of that slot are injected. -/
  | replayInject (p : Fin 16)
  /-- SHORT_TOUCH (R651): A debounced short touch starts or ends identify. -/
  | shortTouch
  /-- LONG_TOUCH (R653): A touch held 3 s requests, or cancels, safe removal. -/
  | longTouch
  /-- EJECT_PRESS (R528): A debounced eject press makes an eject request. -/
  | ejectPress
  /-- CAGE_CHANGE (R33): A debounced module insertion or removal is checked and its ports train or go down. -/
  | cageChange (k : Fin 2) (present : Bool) (powerOk : Bool)
  /-- IDENTIFY_TIMEOUT (R651): Identify ends after 60 s. -/
  | identifyTimeout
  /-- PANEL_IDENTIFY_WRITE (R651): A write of PANEL_CTRL.IDENTIFY starts or ends identify. -/
  | panelIdentifyWrite (src : Src) (v : Word)
  /-- PANEL_REMOVE (R653): A write of REMOVE requests safe removal at the next mark. -/
  | panelRemove (src : Src) (v : Word)
  /-- PANEL_CANCEL (R654): A write of CANCEL cancels a removal before step 6. -/
  | panelCancel (src : Src) (v : Word)
  /-- REMOVAL_DRAIN_EXPIRY (R653): PANEL_DRAIN_S seconds after the request, partitions still served are frozen. -/
  | removalDrainExpiry
  /-- REMOVAL_READY (R653): The cartridge, handovers and frozen partitions are settled; STATE 3 is sent and power is removed. -/
  | removalReady
  /-- COLUMN_REPLACE (R657): A column's correction count reaches the threshold and replacement starts. -/
  | columnReplace (c : Fin 16) (b : Fin 24)
  /-- COLUMN_COPY_DONE (R658): The last word is copied and the bank reads from the redundant column. -/
  | columnCopyDone (c : Fin 16) (b : Fin 24)
  /-- AGEING_PERIOD (R660): Every 2^20 orbits, the path-delay and eye-margin monitors are read. -/
  | ageingPeriod
  /-- AGEING_READ_DONE (R661): The ageing reads end and the margin planner acts on each domain and lane. -/
  | ageingReadDone (pd : List (BitVec 16)) (eye : List (BitVec 16))
  /-- GUARDBAND_STEP (R661): At the next mark, a domain's guardband rises one 5 mV step. -/
  | guardbandStep (d : Fin 4)
  /-- EYE_READAPT (R662): A lane with low eye margin has its receive equaliser re-adapted in slot 63. -/
  | eyeReadapt (l : Fin 76) (mv : BitVec 16)
  /-- P3V3_AUX_LOSS (R595): Removal of P3V3_AUX clears PWR_STATUS.LOSS_SEEN, THERM_TRIP and EP_WAKE_CAUSE, which survive every other class. -/
  | p3v3AuxLoss
  /-- PERST_DEASSERT (R584): The low-to-high edge of PERST# lets the PCIe link train once CLOCKS has ended and deasserts WAKE#. -/
  | perstDeassert
  /-- PCIE_LINK_TRAINED (R584): The host link completes training, fixing the speed, width and Flit Mode in EP_STATUS and the HOST row capacity. -/
  | pcieLinkTrained (speed : Fin 7) (width : Fin 17) (flit : Bool)
  /-- POSTED_STORE_COMPLETE (R240): A posted prep-core store to partition memory completes at its controller, becoming visible and counting in PX_CNT_STORE_ERR if it failed. -/
  | postedStoreComplete (core : Fin 40)
  /-- FUSE_PROG_DONE (R589): Fuse programming ends and FUSE_PROG_STATUS.BUSY clears. -/
  | fuseProgDone
  /-- DEBUG_DECRYPT_DONE (R631): Decryption of capture blocks ends, with RESULT written and BUSY cleared in DBG_DEC_STATUS. -/
  | debugDecryptDone
  deriving DecidableEq, Repr

end Sys2Proof
end

