-- ==== Sys2Proof/Config.lean ====
section
/-! DEFINITION. What an implementation fixes and what the spec leaves open: constants without a body. The cipher and
hash primitives are named standards of which the spec states inputs, outputs and use, not the computation; the on-die
random source is unpredictable by its purpose. No proof can see a value of any of them. -/

namespace Sys2Proof

/-- Output words of the on-die DRBG, by draw number (R80, R497). -/
opaque Config.drbg : Nat → Word

/-- AES-256-GCM encryption: key, IV, additional data, plain text to cipher text (R489). -/
opaque Config.gcmEnc : Bytes → Bytes → Bytes → Bytes → Bytes
/-- AES-256-GCM decryption: key, IV, additional data, cipher text to plain text. -/
opaque Config.gcmDec : Bytes → Bytes → Bytes → Bytes → Bytes
/-- AES-256-GCM authentication tag: key, IV, additional data, cipher text. -/
opaque Config.gcmTag : Bytes → Bytes → Bytes → Bytes → Bytes
/-- AES-256-XTS encryption of a block: key, tweak, data. -/
opaque Config.xtsEnc : Bytes → Nat → Bytes → Bytes
/-- AES-256-XTS decryption of a block: key, tweak, data. -/
opaque Config.xtsDec : Bytes → Nat → Bytes → Bytes
/-- AES-256 key wrap with padding: key, plain text. -/
opaque Config.wrapEnc : Bytes → Bytes → Bytes
/-- AES-256 key unwrap with padding: key, wrapped text; none where the integrity check fails. -/
opaque Config.wrapDec : Bytes → Bytes → Option Bytes
/-- KMAC256: key, message, output length in bytes, customisation. -/
opaque Config.kmac : Bytes → Bytes → Nat → Bytes → Bytes
/-- SHAKE256: message, output length in bytes. -/
opaque Config.shake : Bytes → Nat → Bytes
/-- SLH-DSA signature verification: public key, message, signature. -/
opaque Config.slhVerify : Bytes → Bytes → Bytes → Bool
/-- SLH-DSA signing: key seed, context string, message. -/
opaque Config.slhSign : Bytes → Bytes → Bytes → Bytes
/-- The fused 256-bit root key and the fused identity seed of the die (R493, R501). -/
opaque Config.rootKey : Bytes
opaque Config.idSeed : Bytes
/-- SLH-DSA key generation: seed to public key. -/
opaque Config.slhPublic : Bytes → Bytes

/-- FEXP2 of an FP32 input other than the special ones (R285): fixed, within one unit in the last place. -/
opaque Config.exp2 : Word → Word
/-- FLOG2 of an FP32 input other than the special ones (R285). -/
opaque Config.log2 : Word → Word
/-- FRCP of an FP32 input other than the special ones (R285). -/
opaque Config.rcp : Word → Word
/-- FRSQRT of an FP32 input other than the special ones (R285). -/
opaque Config.rsqrt : Word → Word

/-- Status code and DETAIL of an alarm's error record where the unit's chapter names none (R633): by DBG_ALARM bit and
occasion. -/
opaque Config.alarmCode : Nat → Nat → Byte
opaque Config.alarmDetail : Nat → Nat → Word

/-- Bytes of NVMe Identify structures, controller (0) and namespace (1), whose content the spec does not state (R511). -/
opaque Config.identify : Nat → Nat → Byte

/-- The link-layer address of the next hop toward an IPv6 address: the spec gives frames no rule for it (R431). -/
opaque Config.nextHop : Nat → Bytes

/-- Exactly `n` bytes: cut, or filled with zeros. -/
def fixLen (n : Nat) (b : Bytes) : Bytes := b.take n ++ List.replicate (n - b.length) 0

end Sys2Proof
end

