-- ==== Sys2Proof/Machine/Bits.lean ====
section
/-! DEFINITION. Byte strings: little-endian and big-endian numbers (R11), slices, and the two cyclic redundancy
checks that the spec names (CRC-32C for flits and the flash image, CRC-64 for tensor digests). -/

namespace Sys2Proof.Machine

/-- A byte from a number, modulo 256. -/
def byte (n : Nat) : Byte := BitVec.ofNat 8 n

/-- A number as `k` bytes, least significant first. -/
def le : Nat → Nat → Bytes
  | 0, _ => []
  | k + 1, n => byte n :: le k (n / 256)

/-- The number that bytes spell, least significant first. -/
def leVal : Bytes → Nat
  | [] => 0
  | b :: t => b.toNat + 256 * leVal t

/-- A number as `k` bytes, most significant first. -/
def be (k n : Nat) : Bytes := (le k n).reverse

/-- The number that bytes spell, most significant first. -/
def beVal (b : Bytes) : Nat := leVal b.reverse

/-- `n` bytes from an offset; bytes past the end read as zero. -/
def slice (b : Bytes) (off n : Nat) : Bytes :=
  let t := (b.drop off).take n
  t ++ List.replicate (n - t.length) 0

/-- The little-endian number in `n` bytes at an offset. -/
def leAt (b : Bytes) (off n : Nat) : Nat := leVal (slice b off n)

/-- The big-endian number in `n` bytes at an offset. -/
def beAt (b : Bytes) (off n : Nat) : Nat := beVal (slice b off n)

/-- A byte at an offset; zero past the end. -/
def byteAt (b : Bytes) (off : Nat) : Nat := (b.getD off 0).toNat

/-- The bytes with `d` laid over them at an offset, never longer than before. -/
def overlay (b : Bytes) (off : Nat) (d : Bytes) : Bytes :=
  (b.take off ++ d ++ b.drop (off + d.length)).take b.length

/-- `n` zero bytes. -/
def zeros (n : Nat) : Bytes := List.replicate n 0

/-- Bytes filled with zeros up to a length. -/
def padTo (n : Nat) (b : Bytes) : Bytes := b ++ zeros (n - b.length)

/-- The bits [hi:lo] of a number. -/
def bitsOf (n lo w : Nat) : Nat := n / 2 ^ lo % 2 ^ w

/-- The signed value of the low `w` bits of a number. -/
def sext (w n : Nat) : Int :=
  let m := n % 2 ^ w
  if 2 * m < 2 ^ w then (m : Int) else (m : Int) - (2 ^ w : Nat)

/-- The low `w` bits of an integer. -/
def trunc (w : Nat) (i : Int) : Nat := (i % (2 ^ w : Nat)).toNat

/-- One bit step of a reflected 32-bit CRC. -/
def crcBit (poly x : BitVec 32) : BitVec 32 := if x.getLsbD 0 then (x >>> 1) ^^^ poly else x >>> 1

/-- One byte step of CRC-32C. -/
def crc32cByte (x : BitVec 32) (b : Byte) : BitVec 32 :=
  Nat.repeat (crcBit 0x82F63B78) 8 (x ^^^ b.setWidth 32)

/-- CRC-32C (Castagnoli) of a byte string. -/
def crc32c (b : Bytes) : BitVec 32 := ~~~(b.foldl crc32cByte 0xFFFFFFFF)

/-- One bit step of a 64-bit CRC, most significant bit first. -/
def crc64Bit (x : BitVec 64) : BitVec 64 :=
  if x.getLsbD 63 then (x <<< 1) ^^^ 0x42F0E1EBA9EA3693 else x <<< 1

/-- One byte step of the CRC-64 of R626. -/
def crc64Byte (x : BitVec 64) (b : Byte) : BitVec 64 :=
  Nat.repeat crc64Bit 8 (x ^^^ (b.setWidth 64 <<< 56))

/-- The CRC-64 of R626: initial value and final XOR all ones. -/
def crc64 (b : Bytes) : BitVec 64 := ~~~(b.foldl crc64Byte (BitVec.allOnes 64))

end Sys2Proof.Machine
end

