-- ==== Sys2Proof/Machine/RegField.lean ====
section
/-! DEFINITION. What a register table row says of a field (R16, R19, R20), how a field is read from and put into its
register's word, and how a table is searched for the register at a key. -/

namespace Sys2Proof.Machine

/-- The access codes of R16. -/
inductive Acc where
  | rw
  | ro
  | wo
  | w1c
  | w1s
  | rc
  deriving DecidableEq, Repr

/-- Where a reset value comes from (R19). -/
inductive RstSrc where
  | num
  | image
  | fuse
  | derived
  deriving DecidableEq, Repr

/-- A register field: its lowest bit, its width, its access code, its reset value, where that comes from, and the
classes that restore it as a bit set in the order P, H, E, T, F, C, D, K (R20, R21). -/
structure Fld where
  lo : Nat
  width : Nat
  acc : Acc
  rst : Nat
  src : RstSrc
  cls : Nat
  deriving DecidableEq, Repr

/-- A register's part in a 64-bit pair (R14), with the distance from the _LO to the _HI key. -/
inductive Half where
  | whole
  | lo (d : Nat)
  | hi (d : Nat)
  deriving DecidableEq, Repr

/-- A register of a table: its name, the key of its first instance, the count and stride of each index, its fields, its half. -/
structure RegRow where
  name : String
  base : Nat
  dims : List (Nat × Nat)
  flds : List Fld
  half : Half
  deriving DecidableEq, Repr

/-- The bits of a field, in place. -/
def Fld.mask (f : Fld) : Word := (BitVec.allOnes f.width).setWidth 32 <<< f.lo

/-- A field's value in its register's word. -/
def Fld.get (f : Fld) (w : Word) : Nat := (w >>> f.lo).toNat % 2 ^ f.width

/-- A register's word with a field set to a value, cut to the field's width. -/
def Fld.put (f : Fld) (w : Word) (n : Nat) : Word :=
  (w &&& ~~~f.mask) ||| (BitVec.ofNat 32 (n % 2 ^ f.width) <<< f.lo)

/-- The reset classes and power states of R21. -/
inductive Cls where
  | p
  | h
  | e
  | t
  | f
  | c
  | d
  | k
  deriving DecidableEq, Repr

/-- A class's place in a field's bit set. -/
def Cls.bit : Cls → Nat
  | .p => 0
  | .h => 1
  | .e => 2
  | .t => 3
  | .f => 4
  | .c => 5
  | .d => 6
  | .k => 7

/-- Whether a class restores a field (R20). -/
def Fld.restoredBy (f : Fld) (c : Cls) : Bool := f.cls.testBit c.bit

/-- The indices of an offset from a register's first instance, if it falls on one of its instances. -/
def splitDims : List (Nat × Nat) → Nat → Option (List Nat)
  | [], off => if off = 0 then some [] else none
  | (n, st) :: ds, off =>
    if off / st < n then (splitDims ds (off % st)).map (off / st :: ·) else none

/-- The register of a table that stands at a key, with its indices. -/
def findRow : List RegRow → Nat → Option (RegRow × List Nat)
  | [], _ => none
  | r :: rs, k =>
    if r.base ≤ k then
      match splitDims r.dims (k - r.base) with
      | some ix => some (r, ix)
      | none => findRow rs k
    else findRow rs k

end Sys2Proof.Machine
end

