-- ==== Sys2Proof/Machine/RegNames.lean ====
section
/-! DEFINITION. The registers and their fields, first part: each register's key (its PF0 BAR0 offset, or its VF BAR0 place), and each field's bits.
Generated from the register tables of spec/ (offset, bits, access, reset value, restored by: R16, R19, R20). -/

namespace Sys2Proof.Machine

/-! Registers of bring-up (R41). -/

def Reg.LIC_STATUS : Nat := 0x3F02000
def Fld.LIC_STATUS_COMPUTE : Fld := ⟨0, 1, .ro, 0, .image, 131⟩
def Fld.LIC_STATUS_PAIR : Fld := ⟨1, 1, .ro, 0, .image, 131⟩
def Fld.LIC_STATUS_LIC_REJECTED : Fld := ⟨2, 1, .ro, 0, .image, 131⟩
def Reg.LIC_ENGINE_LO : Nat := 0x3F02004
def Fld.LIC_ENGINE_LO_ENGINE_EN : Fld := ⟨0, 32, .ro, 0, .image, 131⟩
def Reg.LIC_ENGINE_HI : Nat := 0x3F02008
def Fld.LIC_ENGINE_HI_ENGINE_EN : Fld := ⟨0, 32, .ro, 0, .image, 131⟩

/-! Registers of orbit and Ephemeris (R69). -/

def Reg.ORB_COUNT_LO : Nat := 0x100000
def Fld.ORB_COUNT_LO_COUNT : Fld := ⟨0, 32, .ro, 0, .num, 129⟩
def Reg.ORB_COUNT_HI : Nat := 0x100004
def Fld.ORB_COUNT_HI_COUNT : Fld := ⟨0, 16, .ro, 0, .num, 129⟩
def Reg.ORB_POS : Nat := 0x100008
def Fld.ORB_POS_CYCLE : Fld := ⟨0, 14, .ro, 0, .num, 129⟩
def Reg.DEV_TIME_LO : Nat := 0x100010
def Fld.DEV_TIME_LO_TIME : Fld := ⟨0, 32, .ro, 0, .num, 129⟩
def Reg.DEV_TIME_HI : Nat := 0x100014
def Fld.DEV_TIME_HI_TIME : Fld := ⟨0, 32, .ro, 0, .num, 129⟩
def Reg.EPH_CTRL : Nat := 0x100100
def Fld.EPH_CTRL_COMMIT : Fld := ⟨0, 1, .wo, 0, .num, 0⟩
def Reg.EPH_STATUS : Nat := 0x100104
def Fld.EPH_STATUS_COMMIT_PENDING : Fld := ⟨0, 1, .ro, 0, .num, 131⟩
def Fld.EPH_STATUS_BAD_CODE : Fld := ⟨1, 1, .w1c, 0, .num, 131⟩
def Fld.EPH_STATUS_WRITE_DROPPED : Fld := ⟨2, 1, .w1c, 0, .num, 131⟩
def Reg.EPH_MODE : Nat := 0x100108
def Fld.EPH_MODE_SEALED : Fld := ⟨0, 16, .rw, 0, .image, 131⟩
def Reg.EPH_MODE_ACT : Nat := 0x100118
def Fld.EPH_MODE_ACT_SEALED : Fld := ⟨0, 16, .ro, 0, .image, 131⟩
def Reg.EPH_C0_OK : Nat := 0x10010C
def Fld.EPH_C0_OK_QUALIFIED : Fld := ⟨0, 16, .ro, 0, .num, 131⟩
def Reg.EPH_COMMIT_ORBIT_LO : Nat := 0x100110
def Fld.EPH_COMMIT_ORBIT_LO_ORBIT : Fld := ⟨0, 32, .ro, 0, .num, 131⟩
def Reg.EPH_COMMIT_ORBIT_HI : Nat := 0x100114
def Fld.EPH_COMMIT_ORBIT_HI_ORBIT : Fld := ⟨0, 16, .ro, 0, .num, 131⟩
def Reg.EGR_OVERSIZE_DROP (i0 : Nat) : Nat := 0x100200 + i0 * 0x4
def Fld.EGR_OVERSIZE_DROP_COUNT : Fld := ⟨0, 32, .rc, 0, .num, 15⟩
def Reg.EPH_SLOT (i0 : Nat) : Nat := 0x101000 + i0 * 0x4
def Fld.EPH_SLOT_ENTRY0 : Fld := ⟨0, 8, .rw, 31, .image, 131⟩
def Fld.EPH_SLOT_ENTRY1 : Fld := ⟨8, 8, .rw, 31, .image, 131⟩
def Fld.EPH_SLOT_ENTRY2 : Fld := ⟨16, 8, .rw, 31, .image, 131⟩
def Fld.EPH_SLOT_ENTRY3 : Fld := ⟨24, 8, .rw, 31, .image, 131⟩
def Reg.EPH_ACTIVE (i0 : Nat) : Nat := 0x102000 + i0 * 0x4
def Fld.EPH_ACTIVE_ENTRY0 : Fld := ⟨0, 8, .ro, 31, .image, 131⟩
def Fld.EPH_ACTIVE_ENTRY1 : Fld := ⟨8, 8, .ro, 31, .image, 131⟩
def Fld.EPH_ACTIVE_ENTRY2 : Fld := ⟨16, 8, .ro, 31, .image, 131⟩
def Fld.EPH_ACTIVE_ENTRY3 : Fld := ⟨24, 8, .ro, 31, .image, 131⟩

/-! Registers of memory fabric (R104). -/

def Reg.MF_CTRL : Nat := 0x400000
def Fld.MF_CTRL_SCRUB_EN : Fld := ⟨0, 1, .rw, 0, .image, 131⟩
def Fld.MF_CTRL_REMAP_EN : Fld := ⟨1, 1, .rw, 0, .image, 131⟩
def Fld.MF_CTRL_AUTO_SPARE : Fld := ⟨2, 1, .rw, 0, .image, 131⟩
def Fld.MF_CTRL_SCRUB_PACE : Fld := ⟨8, 8, .rw, 0, .image, 131⟩
def Reg.MF_STATUS : Nat := 0x400004
def Fld.MF_STATUS_MAP_LOCKED : Fld := ⟨0, 1, .ro, 0, .num, 131⟩
def Fld.MF_STATUS_SPARE_BUSY : Fld := ⟨1, 1, .ro, 0, .num, 129⟩
def Fld.MF_STATUS_SPARE_STALLED : Fld := ⟨2, 1, .ro, 0, .num, 129⟩
def Fld.MF_STATUS_SPARES_EXHAUSTED : Fld := ⟨3, 1, .ro, 0, .image, 129⟩
def Fld.MF_STATUS_RETIRE_OVERFLOW : Fld := ⟨4, 1, .w1c, 0, .num, 131⟩
def Fld.MF_STATUS_INIT_BUSY : Fld := ⟨5, 1, .ro, 0, .num, 131⟩
def Reg.MF_HASH_KEY (i0 : Nat) : Nat := 0x400010 + i0 * 0x4
def Fld.MF_HASH_KEY_KEY : Fld := ⟨0, 32, .wo, 0, .num, 131⟩
def Reg.MF_SPARE_CMD : Nat := 0x400020
def Fld.MF_SPARE_CMD_CHANNEL : Fld := ⟨0, 9, .wo, 0, .num, 0⟩
def Fld.MF_SPARE_CMD_GO : Fld := ⟨31, 1, .wo, 0, .num, 0⟩
def Reg.MF_SPARE_PROGRESS : Nat := 0x400024
def Fld.MF_SPARE_PROGRESS_GROUPS : Fld := ⟨0, 24, .ro, 0, .num, 129⟩
def Reg.MF_RETIRE_COUNT : Nat := 0x400028
def Fld.MF_RETIRE_COUNT_ENTRIES : Fld := ⟨0, 13, .ro, 0, .num, 131⟩
def Reg.MF_INIT_CMD : Nat := 0x40002C
def Fld.MF_INIT_CMD_PARTS : Fld := ⟨0, 16, .wo, 0, .num, 0⟩
def Reg.MF_LAST_ERR_DPA_LO : Nat := 0x400030
def Fld.MF_LAST_ERR_DPA_LO_DPA : Fld := ⟨0, 32, .ro, 0, .num, 131⟩
def Reg.MF_LAST_ERR_DPA_HI : Nat := 0x400034
def Fld.MF_LAST_ERR_DPA_HI_DPA : Fld := ⟨0, 16, .ro, 0, .num, 131⟩
def Reg.MF_LAST_ERR_INFO : Nat := 0x400038
def Fld.MF_LAST_ERR_INFO_STATUS : Fld := ⟨0, 4, .ro, 0, .num, 131⟩
def Fld.MF_LAST_ERR_INFO_OWNER : Fld := ⟨8, 7, .ro, 0, .num, 131⟩
def Reg.MF_PART_ALARM : Nat := 0x400040
def Fld.MF_PART_ALARM_UE : Fld := ⟨0, 16, .w1c, 0, .num, 131⟩
def Fld.MF_PART_ALARM_TAG : Fld := ⟨16, 16, .w1c, 0, .num, 131⟩
def Reg.MF_FABRIC_ERR : Nat := 0x400044
def Fld.MF_FABRIC_ERR_CORRECTED : Fld := ⟨0, 16, .rc, 0, .num, 131⟩
def Fld.MF_FABRIC_ERR_UNCORRECTABLE : Fld := ⟨16, 16, .rc, 0, .num, 131⟩
def Reg.MF_PART_CE (i0 : Nat) : Nat := 0x400100 + i0 * 0x10
def Fld.MF_PART_CE_COUNT : Fld := ⟨0, 32, .rc, 0, .num, 139⟩
def Reg.MF_PART_UE (i0 : Nat) : Nat := 0x400104 + i0 * 0x10
def Fld.MF_PART_UE_COUNT : Fld := ⟨0, 32, .rc, 0, .num, 139⟩
def Reg.MF_PART_TAG (i0 : Nat) : Nat := 0x400108 + i0 * 0x10
def Fld.MF_PART_TAG_COUNT : Fld := ⟨0, 32, .rc, 0, .num, 139⟩
def Reg.MF_REMAP_STATUS (i0 : Nat) : Nat := 0x40010C + i0 * 0x10
def Fld.MF_REMAP_STATUS_ENTRIES : Fld := ⟨0, 9, .ro, 0, .num, 139⟩
def Fld.MF_REMAP_STATUS_IN_FLIGHT : Fld := ⟨9, 3, .ro, 0, .num, 139⟩
def Fld.MF_REMAP_STATUS_FULL : Fld := ⟨16, 1, .ro, 0, .num, 139⟩
def Reg.MF_SPARE_MAP (i0 : Nat) : Nat := 0x400200 + i0 * 0x4
def Fld.MF_SPARE_MAP_REPLACED : Fld := ⟨0, 9, .ro, 0, .image, 129⟩
def Fld.MF_SPARE_MAP_VALID : Fld := ⟨15, 1, .ro, 0, .image, 129⟩
def Reg.MF_CH_CE (i0 : Nat) : Nat := 0x401000 + i0 * 0x4
def Fld.MF_CH_CE_COUNT : Fld := ⟨0, 32, .rc, 0, .num, 131⟩
def Reg.MF_CH_HARD (i0 : Nat) : Nat := 0x401800 + i0 * 0x4
def Fld.MF_CH_HARD_COUNT : Fld := ⟨0, 8, .ro, 0, .num, 131⟩

/-! Registers of scratch. -/

def Reg.SCR_OWN (i0 i1 : Nat) : Nat := 0x800000 + i0 * 0x1000 + i1 * 0x4
def Fld.SCR_OWN_OWNER : Fld := ⟨0, 4, .rw, 4, .num, 143⟩
def Fld.SCR_OWN_PENDING : Fld := ⟨8, 1, .ro, 0, .num, 143⟩
def Reg.SCR_STATUS (i0 : Nat) : Nat := 0x800080 + i0 * 0x1000
def Fld.SCR_STATUS_INIT_BUSY : Fld := ⟨0, 1, .ro, 0, .num, 143⟩
def Fld.SCR_STATUS_OWN_COLLIDE : Fld := ⟨1, 1, .w1c, 0, .num, 143⟩
def Fld.SCR_STATUS_BAD_OWNER : Fld := ⟨2, 1, .w1c, 0, .num, 143⟩
def Fld.SCR_STATUS_UE_ALARM : Fld := ⟨3, 1, .w1c, 0, .num, 143⟩
def Reg.SCR_CE (i0 : Nat) : Nat := 0x800084 + i0 * 0x1000
def Fld.SCR_CE_COUNT : Fld := ⟨0, 32, .rc, 0, .num, 143⟩
def Reg.SCR_UE (i0 : Nat) : Nat := 0x800088 + i0 * 0x1000
def Fld.SCR_UE_COUNT : Fld := ⟨0, 32, .rc, 0, .num, 143⟩
def Reg.SCR_TAG (i0 : Nat) : Nat := 0x80008C + i0 * 0x1000
def Fld.SCR_TAG_COUNT : Fld := ⟨0, 32, .rc, 0, .num, 143⟩
def Reg.SCR_NOT_OWNER (i0 : Nat) : Nat := 0x800090 + i0 * 0x1000
def Fld.SCR_NOT_OWNER_COUNT : Fld := ⟨0, 32, .rc, 0, .num, 143⟩
def Reg.SCR_CONFLICT (i0 i1 : Nat) : Nat := 0x800100 + i0 * 0x1000 + i1 * 0x4
def Fld.SCR_CONFLICT_COUNT : Fld := ⟨0, 32, .rc, 0, .num, 143⟩
def Reg.SCR_COLS (i0 i1 : Nat) : Nat := 0x800200 + i0 * 0x1000 + i1 * 0x4
def Fld.SCR_COLS_FUSED : Fld := ⟨0, 3, .ro, 0, .fuse, 129⟩
def Fld.SCR_COLS_IN_USE : Fld := ⟨3, 3, .ro, 0, .fuse, 129⟩
def Reg.SCR_INIT_CMD : Nat := 0x810000
def Fld.SCR_INIT_CMD_CLUSTERS : Fld := ⟨0, 16, .wo, 0, .num, 0⟩

/-! Registers of engines (R168). -/

def Reg.ENG_CMD (i0 i1 i2 : Nat) : Nat := 0x1040000 + i0 * 0x80000 + i1 * 0x1000 + i2 * 0x4
def Fld.ENG_CMD_DW : Fld := ⟨0, 32, .wo, 0, .num, 0⟩
def Reg.ENG_QSTAT (i0 i1 : Nat) : Nat := 0x1040040 + i0 * 0x80000 + i1 * 0x1000
def Fld.ENG_QSTAT_FREE : Fld := ⟨0, 8, .ro, 32, .num, 143⟩
def Fld.ENG_QSTAT_CPL_COUNT : Fld := ⟨8, 8, .ro, 0, .num, 143⟩
def Fld.ENG_QSTAT_RUNNING : Fld := ⟨16, 1, .ro, 0, .num, 143⟩
def Fld.ENG_QSTAT_WAITING : Fld := ⟨17, 1, .ro, 0, .num, 143⟩
def Reg.ENG_CTRL (i0 i1 : Nat) : Nat := 0x1040044 + i0 * 0x80000 + i1 * 0x1000
def Fld.ENG_CTRL_FLUSH : Fld := ⟨0, 1, .wo, 0, .num, 0⟩
def Fld.ENG_CTRL_CPL_POP : Fld := ⟨1, 1, .wo, 0, .num, 0⟩
def Reg.ENG_STATUS (i0 i1 : Nat) : Nat := 0x1040048 + i0 * 0x80000 + i1 * 0x1000
def Fld.ENG_STATUS_ENABLED : Fld := ⟨0, 1, .ro, 0, .image, 131⟩
def Fld.ENG_STATUS_ACC0_VALID : Fld := ⟨1, 1, .ro, 0, .num, 143⟩
def Fld.ENG_STATUS_ACC1_VALID : Fld := ⟨2, 1, .ro, 0, .num, 143⟩
def Fld.ENG_STATUS_CMDQ_OVERFLOW : Fld := ⟨3, 1, .w1c, 0, .num, 143⟩
def Fld.ENG_STATUS_CMD_PARTIAL : Fld := ⟨4, 1, .w1c, 0, .num, 143⟩
def Reg.ENG_CPL (i0 i1 i2 : Nat) : Nat := 0x1040050 + i0 * 0x80000 + i1 * 0x1000 + i2 * 0x4
def Fld.ENG_CPL_WORD : Fld := ⟨0, 32, .ro, 0, .num, 143⟩
def Reg.ENG_CC (i0 i1 i2 : Nat) : Nat := 0x1040080 + i0 * 0x80000 + i1 * 0x1000 + i2 * 0x4
def Fld.ENG_CC_COUNT : Fld := ⟨0, 32, .rw, 0, .num, 143⟩
def Reg.ENG_LFSR_LO (i0 i1 : Nat) : Nat := 0x10400C0 + i0 * 0x80000 + i1 * 0x1000
def Fld.ENG_LFSR_LO_STATE : Fld := ⟨0, 32, .ro, 1, .num, 143⟩
def Reg.ENG_LFSR_HI (i0 i1 : Nat) : Nat := 0x10400C4 + i0 * 0x80000 + i1 * 0x1000
def Fld.ENG_LFSR_HI_STATE : Fld := ⟨0, 32, .ro, 0, .num, 143⟩
def Reg.ENG_CNT_CMDS (i0 i1 : Nat) : Nat := 0x1040100 + i0 * 0x80000 + i1 * 0x1000
def Fld.ENG_CNT_CMDS_COUNT : Fld := ⟨0, 32, .ro, 0, .num, 143⟩
def Reg.ENG_CNT_BUSY (i0 i1 : Nat) : Nat := 0x1040104 + i0 * 0x80000 + i1 * 0x1000
def Fld.ENG_CNT_BUSY_COUNT : Fld := ⟨0, 32, .ro, 0, .num, 143⟩
def Reg.ENG_CNT_MAC (i0 i1 : Nat) : Nat := 0x1040108 + i0 * 0x80000 + i1 * 0x1000
def Fld.ENG_CNT_MAC_COUNT : Fld := ⟨0, 32, .ro, 0, .num, 143⟩
def Reg.ENG_CNT_STALL_SCR (i0 i1 : Nat) : Nat := 0x104010C + i0 * 0x80000 + i1 * 0x1000
def Fld.ENG_CNT_STALL_SCR_COUNT : Fld := ⟨0, 32, .ro, 0, .num, 143⟩
def Reg.ENG_CNT_STALL_TRW (i0 i1 : Nat) : Nat := 0x1040110 + i0 * 0x80000 + i1 * 0x1000
def Fld.ENG_CNT_STALL_TRW_COUNT : Fld := ⟨0, 32, .ro, 0, .num, 143⟩
def Reg.ENG_CNT_STALL_CPL (i0 i1 : Nat) : Nat := 0x1040114 + i0 * 0x80000 + i1 * 0x1000
def Fld.ENG_CNT_STALL_CPL_COUNT : Fld := ⟨0, 32, .ro, 0, .num, 143⟩
def Reg.ENG_CNT_OVERRUN (i0 i1 : Nat) : Nat := 0x1040118 + i0 * 0x80000 + i1 * 0x1000
def Fld.ENG_CNT_OVERRUN_COUNT : Fld := ⟨0, 32, .ro, 0, .num, 143⟩
def Reg.ENG_CNT_ERROR (i0 i1 : Nat) : Nat := 0x104011C + i0 * 0x80000 + i1 * 0x1000
def Fld.ENG_CNT_ERROR_COUNT : Fld := ⟨0, 32, .ro, 0, .num, 143⟩
def Reg.ENG_CMD_CYCLES (i0 i1 : Nat) : Nat := 0x1040120 + i0 * 0x80000 + i1 * 0x1000
def Fld.ENG_CMD_CYCLES_COUNT : Fld := ⟨0, 32, .ro, 0, .num, 143⟩
def Reg.CL_EVENT (i0 : Nat) : Nat := 0x1044000 + i0 * 0x80000
def Fld.CL_EVENT_REPLACED : Fld := ⟨0, 1, .w1c, 0, .num, 143⟩

/-! Registers of Trowel. -/

def Reg.TRW_LEN (i0 i1 i2 : Nat) : Nat := 0x1048000 + i0 * 0x80000 + i1 * 0x40 + i2 * 0x4
def Fld.TRW_LEN_LENGTHS : Fld := ⟨0, 32, .rw, 0, .num, 143⟩
def Reg.TRW_TCTL (i0 i1 : Nat) : Nat := 0x1048020 + i0 * 0x80000 + i1 * 0x40
def Fld.TRW_TCTL_ALPHABET : Fld := ⟨0, 1, .rw, 0, .num, 143⟩
def Fld.TRW_TCTL_COMMIT : Fld := ⟨1, 1, .wo, 0, .num, 0⟩
def Fld.TRW_TCTL_VALID : Fld := ⟨2, 1, .ro, 0, .num, 143⟩
def Fld.TRW_TCTL_ACT_ALPHABET : Fld := ⟨3, 1, .ro, 0, .num, 143⟩
def Fld.TRW_TCTL_REJECTED : Fld := ⟨4, 1, .w1c, 0, .num, 143⟩
def Reg.TRW_STATUS (i0 i1 : Nat) : Nat := 0x1049000 + i0 * 0x80000 + i1 * 0x100
def Fld.TRW_STATUS_FETCHING : Fld := ⟨0, 1, .ro, 0, .num, 143⟩
def Fld.TRW_STATUS_LAST_ERR : Fld := ⟨8, 8, .ro, 0, .num, 143⟩
def Reg.TRW_LAST_LINES (i0 i1 : Nat) : Nat := 0x1049004 + i0 * 0x80000 + i1 * 0x100
def Fld.TRW_LAST_LINES_LINES : Fld := ⟨0, 24, .ro, 0, .num, 143⟩
def Reg.TRW_LAST_ERR_LINE (i0 i1 : Nat) : Nat := 0x1049008 + i0 * 0x80000 + i1 * 0x100
def Fld.TRW_LAST_ERR_LINE_LINE : Fld := ⟨0, 24, .ro, 0, .num, 143⟩
def Reg.TRW_CNT_LINES (i0 i1 : Nat) : Nat := 0x1049010 + i0 * 0x80000 + i1 * 0x100
def Fld.TRW_CNT_LINES_COUNT : Fld := ⟨0, 32, .ro, 0, .num, 143⟩
def Reg.TRW_CNT_CODED (i0 i1 : Nat) : Nat := 0x1049014 + i0 * 0x80000 + i1 * 0x100
def Fld.TRW_CNT_CODED_COUNT : Fld := ⟨0, 32, .ro, 0, .num, 143⟩
def Reg.TRW_CNT_RAW (i0 i1 : Nat) : Nat := 0x1049018 + i0 * 0x80000 + i1 * 0x100
def Fld.TRW_CNT_RAW_COUNT : Fld := ⟨0, 32, .ro, 0, .num, 143⟩
def Reg.TRW_CNT_ZERO (i0 i1 : Nat) : Nat := 0x104901C + i0 * 0x80000 + i1 * 0x100
def Fld.TRW_CNT_ZERO_COUNT : Fld := ⟨0, 32, .ro, 0, .num, 143⟩
def Reg.TRW_CNT_ERR (i0 i1 : Nat) : Nat := 0x1049020 + i0 * 0x80000 + i1 * 0x100
def Fld.TRW_CNT_ERR_COUNT : Fld := ⟨0, 32, .ro, 0, .num, 143⟩

/-! Registers of prep cores. -/

def Reg.PX_CTRL (i0 i1 : Nat) : Nat := 0x1060000 + i0 * 0x80000 + i1 * 0x1000
def Fld.PX_CTRL_LOAD : Fld := ⟨0, 1, .wo, 0, .num, 0⟩
def Fld.PX_CTRL_START : Fld := ⟨1, 1, .wo, 0, .num, 0⟩
def Fld.PX_CTRL_RESTART : Fld := ⟨2, 1, .wo, 0, .num, 0⟩
def Fld.PX_CTRL_HALT : Fld := ⟨3, 1, .wo, 0, .num, 0⟩
def Fld.PX_CTRL_AUTORESTART : Fld := ⟨4, 1, .rw, 0, .num, 139⟩
def Reg.PX_STATE (i0 i1 : Nat) : Nat := 0x1060004 + i0 * 0x80000 + i1 * 0x1000
def Fld.PX_STATE_STATE : Fld := ⟨0, 3, .ro, 0, .num, 139⟩
def Fld.PX_STATE_COMPAT : Fld := ⟨3, 1, .ro, 0, .num, 139⟩
def Reg.PX_PC (i0 i1 : Nat) : Nat := 0x1060008 + i0 * 0x80000 + i1 * 0x1000
def Fld.PX_PC_OFFSET : Fld := ⟨0, 17, .ro, 0, .num, 143⟩
def Reg.PX_IMG_PRA_LO (i0 i1 : Nat) : Nat := 0x1060010 + i0 * 0x80000 + i1 * 0x1000
def Fld.PX_IMG_PRA_LO_PRA : Fld := ⟨0, 32, .rw, 0, .num, 139⟩
def Reg.PX_IMG_PRA_HI (i0 i1 : Nat) : Nat := 0x1060014 + i0 * 0x80000 + i1 * 0x1000
def Fld.PX_IMG_PRA_HI_PRA : Fld := ⟨0, 16, .rw, 0, .num, 139⟩
def Reg.PX_LOAD_STATUS (i0 i1 : Nat) : Nat := 0x1060018 + i0 * 0x80000 + i1 * 0x1000
def Fld.PX_LOAD_STATUS_CODE : Fld := ⟨0, 8, .ro, 0, .num, 143⟩
def Reg.PX_EVENT (i0 i1 : Nat) : Nat := 0x106001C + i0 * 0x80000 + i1 * 0x1000
def Fld.PX_EVENT_LOAD_DONE : Fld := ⟨0, 1, .w1c, 0, .num, 143⟩
def Fld.PX_EVENT_FAULTED : Fld := ⟨1, 1, .w1c, 0, .num, 143⟩
def Fld.PX_EVENT_CMD_REJECTED : Fld := ⟨2, 1, .w1c, 0, .num, 143⟩
def Fld.PX_EVENT_REPLACED : Fld := ⟨3, 1, .w1c, 0, .num, 143⟩
def Reg.PX_TCAUSE (i0 i1 : Nat) : Nat := 0x1060020 + i0 * 0x80000 + i1 * 0x1000
def Fld.PX_TCAUSE_CAUSE : Fld := ⟨0, 20, .ro, 0, .num, 143⟩
def Reg.PX_TPC (i0 i1 : Nat) : Nat := 0x1060024 + i0 * 0x80000 + i1 * 0x1000
def Fld.PX_TPC_OFFSET : Fld := ⟨0, 17, .ro, 0, .num, 143⟩
def Reg.PX_TADDR_LO (i0 i1 : Nat) : Nat := 0x1060028 + i0 * 0x80000 + i1 * 0x1000
def Fld.PX_TADDR_LO_ADDR : Fld := ⟨0, 32, .ro, 0, .num, 143⟩
def Reg.PX_TADDR_HI (i0 i1 : Nat) : Nat := 0x106002C + i0 * 0x80000 + i1 * 0x1000
def Fld.PX_TADDR_HI_ADDR : Fld := ⟨0, 32, .ro, 0, .num, 143⟩
def Reg.PX_DBELL (i0 i1 i2 : Nat) : Nat := 0x1060040 + i0 * 0x80000 + i1 * 0x1000 + i2 * 0x4
def Fld.PX_DBELL_WORD : Fld := ⟨0, 32, .rw, 0, .num, 143⟩
def Reg.PX_CNT_BUNDLES (i0 i1 : Nat) : Nat := 0x1060100 + i0 * 0x80000 + i1 * 0x1000
def Fld.PX_CNT_BUNDLES_COUNT : Fld := ⟨0, 32, .ro, 0, .num, 143⟩
def Reg.PX_CNT_STALL (i0 i1 : Nat) : Nat := 0x1060104 + i0 * 0x80000 + i1 * 0x1000
def Fld.PX_CNT_STALL_COUNT : Fld := ⟨0, 32, .ro, 0, .num, 143⟩
def Reg.PX_CNT_WAIT (i0 i1 : Nat) : Nat := 0x1060108 + i0 * 0x80000 + i1 * 0x1000
def Fld.PX_CNT_WAIT_COUNT : Fld := ⟨0, 32, .ro, 0, .num, 143⟩
def Reg.PX_CNT_WCOLLIDE (i0 i1 : Nat) : Nat := 0x106010C + i0 * 0x80000 + i1 * 0x1000
def Fld.PX_CNT_WCOLLIDE_COUNT : Fld := ⟨0, 32, .ro, 0, .num, 143⟩
def Reg.PX_CNT_TRAP (i0 i1 : Nat) : Nat := 0x1060110 + i0 * 0x80000 + i1 * 0x1000
def Fld.PX_CNT_TRAP_COUNT : Fld := ⟨0, 32, .ro, 0, .num, 143⟩
def Reg.PX_CNT_CMDQ_FULL (i0 i1 : Nat) : Nat := 0x1060114 + i0 * 0x80000 + i1 * 0x1000
def Fld.PX_CNT_CMDQ_FULL_COUNT : Fld := ⟨0, 32, .ro, 0, .num, 143⟩
def Reg.PX_CNT_STORE_ERR (i0 i1 : Nat) : Nat := 0x1060118 + i0 * 0x80000 + i1 * 0x1000
def Fld.PX_CNT_STORE_ERR_COUNT : Fld := ⟨0, 32, .ro, 0, .num, 143⟩

/-! Registers of Tether and pair link (R346). -/

def Reg.TL_CTRL (i0 : Nat) : Nat := 0x3000000 + i0 * 0x1000
def Fld.TL_CTRL_ENABLE : Fld := ⟨0, 1, .rw, 0, .image, 131⟩
def Fld.TL_CTRL_RETRAIN : Fld := ⟨1, 1, .wo, 0, .num, 0⟩
def Reg.TL_STATUS (i0 : Nat) : Nat := 0x3000004 + i0 * 0x1000
def Fld.TL_STATUS_STATE : Fld := ⟨0, 3, .ro, 0, .num, 131⟩
def Fld.TL_STATUS_PEER_ECLIPSE : Fld := ⟨3, 1, .ro, 0, .num, 131⟩
def Fld.TL_STATUS_OWNER : Fld := ⟨4, 5, .ro, 31, .image, 131⟩
def Reg.TL_EVENT (i0 : Nat) : Nat := 0x3000008 + i0 * 0x1000
def Fld.TL_EVENT_LINK_DOWN : Fld := ⟨0, 1, .w1c, 0, .num, 135⟩
def Fld.TL_EVENT_RETRY_EXHAUSTED : Fld := ⟨1, 1, .w1c, 0, .num, 135⟩
def Fld.TL_EVENT_PROTOCOL : Fld := ⟨2, 1, .w1c, 0, .num, 135⟩
def Fld.TL_EVENT_CREDIT_OVERRUN : Fld := ⟨3, 1, .w1c, 0, .num, 135⟩
def Fld.TL_EVENT_ECLIPSE_LONG : Fld := ⟨4, 1, .w1c, 0, .num, 135⟩
def Reg.TL_PEER_CREDIT (i0 : Nat) : Nat := 0x300000C + i0 * 0x1000
def Fld.TL_PEER_CREDIT_P : Fld := ⟨0, 12, .ro, 0, .num, 131⟩
def Fld.TL_PEER_CREDIT_CPL : Fld := ⟨12, 12, .ro, 0, .num, 131⟩
def Reg.TL_TIME_OFFSET_LO (i0 : Nat) : Nat := 0x3000010 + i0 * 0x1000
def Fld.TL_TIME_OFFSET_LO_OFFSET : Fld := ⟨0, 32, .ro, 0, .num, 131⟩
def Reg.TL_TIME_OFFSET_HI (i0 : Nat) : Nat := 0x3000014 + i0 * 0x1000
def Fld.TL_TIME_OFFSET_HI_OFFSET : Fld := ⟨0, 32, .ro, 0, .num, 131⟩
def Reg.TL_DELAY (i0 : Nat) : Nat := 0x3000018 + i0 * 0x1000
def Fld.TL_DELAY_NS : Fld := ⟨0, 16, .ro, 0, .num, 131⟩
def Reg.TL_ASYM (i0 : Nat) : Nat := 0x300001C + i0 * 0x1000
def Fld.TL_ASYM_NS : Fld := ⟨0, 16, .rw, 0, .image, 131⟩
def Reg.TL_CNT_CRC (i0 : Nat) : Nat := 0x3000040 + i0 * 0x1000
def Fld.TL_CNT_CRC_COUNT : Fld := ⟨0, 32, .rc, 0, .num, 131⟩
def Reg.TL_CNT_RETRY (i0 : Nat) : Nat := 0x3000044 + i0 * 0x1000
def Fld.TL_CNT_RETRY_COUNT : Fld := ⟨0, 32, .rc, 0, .num, 131⟩
def Reg.TL_CNT_DROP (i0 : Nat) : Nat := 0x3000048 + i0 * 0x1000
def Fld.TL_CNT_DROP_COUNT : Fld := ⟨0, 32, .rc, 0, .num, 143⟩
def Reg.TL_CNT_MALFORMED (i0 : Nat) : Nat := 0x300004C + i0 * 0x1000
def Fld.TL_CNT_MALFORMED_COUNT : Fld := ⟨0, 32, .rc, 0, .num, 143⟩
def Reg.TL_CNT_WRITE_ERR (i0 : Nat) : Nat := 0x3000050 + i0 * 0x1000
def Fld.TL_CNT_WRITE_ERR_COUNT : Fld := ⟨0, 32, .rc, 0, .num, 143⟩
def Reg.TL_CNT_UNOWNED (i0 : Nat) : Nat := 0x3000054 + i0 * 0x1000
def Fld.TL_CNT_UNOWNED_COUNT : Fld := ⟨0, 32, .rc, 0, .num, 143⟩
def Reg.TL_CNT_STALE_CPL (i0 : Nat) : Nat := 0x3000058 + i0 * 0x1000
def Fld.TL_CNT_STALE_CPL_COUNT : Fld := ⟨0, 32, .rc, 0, .num, 143⟩
def Reg.TL_CNT_RX_MSG (i0 : Nat) : Nat := 0x300005C + i0 * 0x1000
def Fld.TL_CNT_RX_MSG_COUNT : Fld := ⟨0, 32, .ro, 0, .num, 143⟩
def Reg.TL_CNT_TX_MSG (i0 : Nat) : Nat := 0x3000060 + i0 * 0x1000
def Fld.TL_CNT_TX_MSG_COUNT : Fld := ⟨0, 32, .ro, 0, .num, 143⟩

/-! Registers of endpoint and VF (R377). -/

def Reg.HDR_MAGIC : Nat := 0x0
def Fld.HDR_MAGIC_MAGIC : Fld := ⟨0, 32, .ro, 1280390964, .num, 1⟩
def Reg.HDR_FORMAT : Nat := 0x4
def Fld.HDR_FORMAT_VERSION : Fld := ⟨0, 8, .ro, 1, .num, 1⟩
def Reg.HDR_CAP_PTR : Nat := 0x8
def Fld.HDR_CAP_PTR_OFFSET : Fld := ⟨0, 32, .ro, 256, .num, 1⟩
def Reg.HDR_HAWK : Nat := 0xC
def Fld.HDR_HAWK_MAJOR : Fld := ⟨0, 8, .ro, 2, .num, 1⟩
def Fld.HDR_HAWK_MINOR_MAX : Fld := ⟨8, 8, .ro, 3, .num, 1⟩
def Reg.HDR_DIE_STEP : Nat := 0x10
def Fld.HDR_DIE_STEP_STEP : Fld := ⟨0, 8, .ro, 0, .fuse, 1⟩
def Reg.EP_STATUS : Nat := 0x1000
def Fld.EP_STATUS_SPEED : Fld := ⟨0, 3, .ro, 0, .num, 131⟩
def Fld.EP_STATUS_WIDTH : Fld := ⟨3, 5, .ro, 0, .num, 131⟩
def Fld.EP_STATUS_FLIT : Fld := ⟨8, 1, .ro, 0, .num, 131⟩
def Fld.EP_STATUS_TAG14 : Fld := ⟨9, 1, .ro, 0, .num, 131⟩
def Fld.EP_STATUS_DSTATE : Fld := ⟨10, 2, .ro, 0, .num, 131⟩
def Reg.EP_EVENT : Nat := 0x1004
def Fld.EP_EVENT_BAD_WIDTH : Fld := ⟨0, 1, .w1c, 0, .num, 131⟩
def Fld.EP_EVENT_CPL_TIMEOUT : Fld := ⟨1, 1, .w1c, 0, .num, 131⟩
def Fld.EP_EVENT_UNEXP_CPL : Fld := ⟨2, 1, .w1c, 0, .num, 131⟩
def Fld.EP_EVENT_POISON_RX : Fld := ⟨3, 1, .w1c, 0, .num, 131⟩
def Fld.EP_EVENT_RXQ_BLOCK : Fld := ⟨4, 1, .w1c, 0, .num, 131⟩
def Reg.EP_WAKE_EN : Nat := 0x1008
def Fld.EP_WAKE_EN_CAUSES : Fld := ⟨0, 4, .rw, 0, .image, 129⟩
def Reg.EP_WAKE_CAUSE : Nat := 0x100C
def Fld.EP_WAKE_CAUSE_CAUSES : Fld := ⟨0, 4, .w1c, 0, .num, 0⟩
def Reg.EP_CNT_UR : Nat := 0x1010
def Fld.EP_CNT_UR_COUNT : Fld := ⟨0, 32, .rc, 0, .num, 131⟩
def Reg.EP_CNT_CA : Nat := 0x1014
def Fld.EP_CNT_CA_COUNT : Fld := ⟨0, 32, .rc, 0, .num, 131⟩
def Reg.EP_CNT_CPL_TIMEOUT : Nat := 0x1018
def Fld.EP_CNT_CPL_TIMEOUT_COUNT : Fld := ⟨0, 32, .rc, 0, .num, 131⟩
def Reg.EP_CNT_RXQ_BLOCK : Nat := 0x101C
def Fld.EP_CNT_RXQ_BLOCK_COUNT : Fld := ⟨0, 32, .rc, 0, .num, 131⟩
def Reg.EP_VF_APT (i0 : Nat) : Nat := 0x1100 + i0 * 0x4
def Fld.EP_VF_APT_BASE_GIB : Fld := ⟨0, 11, .rw, 0, .num, 131⟩
def Reg.VF_HDR_MAGIC (i0 : Nat) : Nat := 0x4000000 + i0 * 0x10000
def Fld.VF_HDR_MAGIC_MAGIC : Fld := ⟨0, 32, .ro, 1280398918, .num, 1⟩
def Reg.VF_HDR_FORMAT (i0 : Nat) : Nat := 0x4000004 + i0 * 0x10000
def Fld.VF_HDR_FORMAT_VERSION : Fld := ⟨0, 8, .ro, 1, .num, 1⟩
def Reg.VF_HDR_CAP_PTR (i0 : Nat) : Nat := 0x4000008 + i0 * 0x10000
def Fld.VF_HDR_CAP_PTR_OFFSET : Fld := ⟨0, 32, .ro, 64, .num, 1⟩
def Reg.VF_HDR_HAWK (i0 : Nat) : Nat := 0x400000C + i0 * 0x10000
def Fld.VF_HDR_HAWK_MAJOR : Fld := ⟨0, 8, .ro, 2, .num, 1⟩
def Fld.VF_HDR_HAWK_MINOR_MAX : Fld := ⟨8, 8, .ro, 3, .num, 1⟩
def Reg.VF_HAWK_CTRL (i0 : Nat) : Nat := 0x4009000 + i0 * 0x10000
def Fld.VF_HAWK_CTRL_SUBMIT : Fld := ⟨0, 1, .wo, 0, .num, 0⟩
def Reg.VF_HAWK_STATUS (i0 : Nat) : Nat := 0x4009004 + i0 * 0x10000
def Fld.VF_HAWK_STATUS_BUSY : Fld := ⟨0, 1, .ro, 0, .num, 147⟩
def Fld.VF_HAWK_STATUS_RESP_READY : Fld := ⟨1, 1, .w1c, 0, .num, 147⟩
def Fld.VF_HAWK_STATUS_SUBMIT_DROPPED : Fld := ⟨2, 1, .w1c, 0, .num, 147⟩
def Reg.VF_STATUS (i0 : Nat) : Nat := 0x400C000 + i0 * 0x10000
def Fld.VF_STATUS_PARTITION : Fld := ⟨0, 4, .ro, 0, .image, 131⟩
def Fld.VF_STATUS_BOUND : Fld := ⟨4, 1, .ro, 0, .image, 131⟩
def Fld.VF_STATUS_VF_INDEX : Fld := ⟨5, 6, .ro, 0, .derived, 1⟩
def Reg.VF_APT_BASE (i0 : Nat) : Nat := 0x400C004 + i0 * 0x10000
def Fld.VF_APT_BASE_BASE_GIB : Fld := ⟨0, 11, .ro, 0, .num, 131⟩
def Reg.VF_EVENT (i0 : Nat) : Nat := 0x400C008 + i0 * 0x10000
def Fld.VF_EVENT_BAD_WIDTH : Fld := ⟨0, 1, .w1c, 0, .num, 147⟩
def Fld.VF_EVENT_DB_DISCARD : Fld := ⟨1, 1, .w1c, 0, .num, 147⟩
def Reg.VF_CNT_UR (i0 : Nat) : Nat := 0x400C010 + i0 * 0x10000
def Fld.VF_CNT_UR_COUNT : Fld := ⟨0, 32, .rc, 0, .num, 155⟩
def Reg.VF_CNT_CA (i0 : Nat) : Nat := 0x400C014 + i0 * 0x10000
def Fld.VF_CNT_CA_COUNT : Fld := ⟨0, 32, .rc, 0, .num, 155⟩
def Reg.VF_CNT_WRITE_ERR (i0 : Nat) : Nat := 0x400C018 + i0 * 0x10000
def Fld.VF_CNT_WRITE_ERR_COUNT : Fld := ⟨0, 32, .rc, 0, .num, 155⟩
def Reg.VF_HAWK_REQ (i0 i1 : Nat) : Nat := 0x4008000 + i0 * 0x10000 + i1 * 0x4
def Fld.VF_HAWK_REQ_WORD : Fld := ⟨0, 32, .rw, 0, .num, 147⟩
def Reg.VF_HAWK_RSP (i0 i1 : Nat) : Nat := 0x4008800 + i0 * 0x10000 + i1 * 0x4
def Fld.VF_HAWK_RSP_WORD : Fld := ⟨0, 32, .ro, 0, .num, 147⟩
def Reg.MSIX_ADDR (i0 : Nat) : Nat := 0x8000 + i0 * 0x10
def Fld.MSIX_ADDR_ADDR : Fld := ⟨0, 32, .rw, 0, .num, 131⟩
def Reg.MSIX_UPPER (i0 : Nat) : Nat := 0x8004 + i0 * 0x10
def Fld.MSIX_UPPER_ADDR : Fld := ⟨0, 32, .rw, 0, .num, 131⟩
def Reg.MSIX_DATA (i0 : Nat) : Nat := 0x8008 + i0 * 0x10
def Fld.MSIX_DATA_DATA : Fld := ⟨0, 32, .rw, 0, .num, 131⟩
def Reg.MSIX_CTRL (i0 : Nat) : Nat := 0x800C + i0 * 0x10
def Fld.MSIX_CTRL_MASK : Fld := ⟨0, 1, .rw, 1, .num, 131⟩
def Reg.MSIX_PBA (i0 : Nat) : Nat := 0x9000 + i0 * 0x4
def Fld.MSIX_PBA_PENDING : Fld := ⟨0, 32, .ro, 0, .num, 131⟩
def Reg.VF_MSIX_ADDR (i0 i1 : Nat) : Nat := 0x400A000 + i0 * 0x10000 + i1 * 0x10
def Fld.VF_MSIX_ADDR_ADDR : Fld := ⟨0, 32, .rw, 0, .num, 147⟩
def Reg.VF_MSIX_UPPER (i0 i1 : Nat) : Nat := 0x400A004 + i0 * 0x10000 + i1 * 0x10
def Fld.VF_MSIX_UPPER_ADDR : Fld := ⟨0, 32, .rw, 0, .num, 147⟩
def Reg.VF_MSIX_DATA (i0 i1 : Nat) : Nat := 0x400A008 + i0 * 0x10000 + i1 * 0x10
def Fld.VF_MSIX_DATA_DATA : Fld := ⟨0, 32, .rw, 0, .num, 147⟩
def Reg.VF_MSIX_CTRL (i0 i1 : Nat) : Nat := 0x400A00C + i0 * 0x10000 + i1 * 0x10
def Fld.VF_MSIX_CTRL_MASK : Fld := ⟨0, 1, .rw, 1, .num, 147⟩
def Reg.VF_MSIX_PBA (i0 i1 : Nat) : Nat := 0x400B000 + i0 * 0x10000 + i1 * 0x4
def Fld.VF_MSIX_PBA_PENDING : Fld := ⟨0, 32, .ro, 0, .num, 147⟩

end Sys2Proof.Machine
end

