-- ==== Sys2Proof/Machine/RegNames2.lean ====
section
/-! DEFINITION. The registers and their fields, second part.
Generated from the register tables of spec/ (offset, bits, access, reset value, restored by: R16, R19, R20). -/

namespace Sys2Proof.Machine

/-! Registers of partitions. -/

def Reg.PT_CTRL : Nat := 0x200000
def Fld.PT_CTRL_COMMIT : Fld := ⟨0, 1, .wo, 0, .num, 0⟩
def Reg.PT_STATUS : Nat := 0x200004
def Fld.PT_STATUS_COMMIT_PENDING : Fld := ⟨0, 1, .ro, 0, .num, 131⟩
def Fld.PT_STATUS_MAP_REJECTED : Fld := ⟨1, 1, .w1c, 0, .num, 131⟩
def Fld.PT_STATUS_WRITE_DROPPED : Fld := ⟨2, 1, .w1c, 0, .num, 131⟩
def Fld.PT_STATUS_REJECT_CODE : Fld := ⟨8, 8, .ro, 0, .num, 131⟩
def Reg.PT_MAP (i0 : Nat) : Nat := 0x200100 + i0 * 0x4
def Fld.PT_MAP_ENTRY0 : Fld := ⟨0, 8, .rw, 31, .image, 131⟩
def Fld.PT_MAP_ENTRY1 : Fld := ⟨8, 8, .rw, 31, .image, 131⟩
def Fld.PT_MAP_ENTRY2 : Fld := ⟨16, 8, .rw, 31, .image, 131⟩
def Fld.PT_MAP_ENTRY3 : Fld := ⟨24, 8, .rw, 31, .image, 131⟩
def Reg.PT_MAP_ACT (i0 : Nat) : Nat := 0x200200 + i0 * 0x4
def Fld.PT_MAP_ACT_ENTRY0 : Fld := ⟨0, 8, .ro, 31, .image, 131⟩
def Fld.PT_MAP_ACT_ENTRY1 : Fld := ⟨8, 8, .ro, 31, .image, 131⟩
def Fld.PT_MAP_ACT_ENTRY2 : Fld := ⟨16, 8, .ro, 31, .image, 131⟩
def Fld.PT_MAP_ACT_ENTRY3 : Fld := ⟨24, 8, .ro, 31, .image, 131⟩
def Reg.PT_EPOCH (i0 : Nat) : Nat := 0x200400 + i0 * 0x4
def Fld.PT_EPOCH_EPOCH : Fld := ⟨0, 8, .ro, 0, .image, 131⟩
def Fld.PT_EPOCH_ADVANCE : Fld := ⟨8, 1, .wo, 0, .num, 0⟩
def Fld.PT_EPOCH_ADVANCE_PENDING : Fld := ⟨9, 1, .ro, 0, .num, 131⟩
def Reg.PT_EPOCH_ERA (i0 : Nat) : Nat := 0x200500 + i0 * 0x4
def Fld.PT_EPOCH_ERA_ERA : Fld := ⟨0, 32, .ro, 0, .image, 131⟩
def Reg.PT_DEBUG (i0 : Nat) : Nat := 0x200440 + i0 * 0x4
def Fld.PT_DEBUG_RECORD : Fld := ⟨0, 1, .rw, 0, .num, 139⟩
def Fld.PT_DEBUG_TENSOR_WATCH : Fld := ⟨1, 1, .rw, 0, .num, 139⟩
def Fld.PT_DEBUG_SYNC_TRACE : Fld := ⟨2, 1, .rw, 0, .num, 139⟩
def Fld.PT_DEBUG_TAIL_EXPORT : Fld := ⟨3, 1, .rw, 0, .num, 139⟩
def Reg.PT_RESET : Nat := 0x200480
def Fld.PT_RESET_PARTS : Fld := ⟨0, 16, .wo, 0, .num, 0⟩
def Reg.PT_FREEZE : Nat := 0x200484
def Fld.PT_FREEZE_PARTS : Fld := ⟨0, 16, .wo, 0, .num, 0⟩
def Reg.PT_THAW : Nat := 0x200488
def Fld.PT_THAW_PARTS : Fld := ⟨0, 16, .wo, 0, .num, 0⟩
def Reg.PT_FROZEN : Nat := 0x20048C
def Fld.PT_FROZEN_PARTS : Fld := ⟨0, 16, .ro, 0, .num, 139⟩
def Reg.PT_RESET_BUSY : Nat := 0x200490
def Fld.PT_RESET_BUSY_PARTS : Fld := ⟨0, 16, .ro, 0, .num, 131⟩
def Reg.PT_SR_CTRL : Nat := 0x2004A0
def Fld.PT_SR_CTRL_PART : Fld := ⟨0, 4, .wo, 0, .num, 0⟩
def Fld.PT_SR_CTRL_OP : Fld := ⟨4, 2, .wo, 0, .num, 0⟩
def Fld.PT_SR_CTRL_GO : Fld := ⟨31, 1, .wo, 0, .num, 0⟩
def Reg.PT_SR_ADDR_LO : Nat := 0x2004A4
def Fld.PT_SR_ADDR_LO_PRA : Fld := ⟨0, 32, .rw, 0, .num, 131⟩
def Reg.PT_SR_ADDR_HI : Nat := 0x2004A8
def Fld.PT_SR_ADDR_HI_PRA : Fld := ⟨0, 16, .rw, 0, .num, 131⟩
def Reg.PT_SR_STATUS : Nat := 0x2004AC
def Fld.PT_SR_STATUS_BUSY : Fld := ⟨0, 1, .ro, 0, .num, 131⟩
def Fld.PT_SR_STATUS_RESULT : Fld := ⟨8, 8, .ro, 0, .num, 131⟩
def Reg.PT_SR_SIZE : Nat := 0x2004B0
def Fld.PT_SR_SIZE_UNITS : Fld := ⟨0, 32, .ro, 0, .num, 131⟩
def Reg.PT_JRNL_SEQ_LO : Nat := 0x2004C0
def Fld.PT_JRNL_SEQ_LO_SEQ : Fld := ⟨0, 32, .ro, 0, .num, 129⟩
def Reg.PT_JRNL_SEQ_HI : Nat := 0x2004C4
def Fld.PT_JRNL_SEQ_HI_SEQ : Fld := ⟨0, 32, .ro, 0, .num, 129⟩
def Reg.PT_JRNL_LOST : Nat := 0x2004C8
def Fld.PT_JRNL_LOST_COUNT : Fld := ⟨0, 32, .ro, 0, .num, 129⟩
def Reg.PT_FLR_STAT (i0 : Nat) : Nat := 0x200800 + i0 * 0x4
def Fld.PT_FLR_STAT_SQUASHED : Fld := ⟨0, 16, .rc, 0, .num, 131⟩
def Fld.PT_FLR_STAT_STALE_CPL : Fld := ⟨16, 16, .rc, 0, .num, 131⟩

/-! Registers of Ethernet. -/

def Reg.ETH_CTRL : Nat := 0x2000000
def Fld.ETH_CTRL_MODE : Fld := ⟨0, 2, .rw, 0, .image, 131⟩
def Fld.ETH_CTRL_APPLY : Fld := ⟨2, 1, .wo, 0, .num, 0⟩
def Reg.ETH_STATUS : Nat := 0x2000004
def Fld.ETH_STATUS_LINK_UP : Fld := ⟨0, 8, .ro, 0, .num, 131⟩
def Fld.ETH_STATUS_CAGE_PRESENT : Fld := ⟨8, 2, .ro, 0, .num, 131⟩
def Fld.ETH_STATUS_CAGE_LOWPOWER : Fld := ⟨10, 2, .ro, 0, .num, 131⟩
def Fld.ETH_STATUS_MODE_CHANGING : Fld := ⟨12, 1, .ro, 0, .num, 131⟩
def Reg.ETH_RULE_STATUS : Nat := 0x2000008
def Fld.ETH_RULE_STATUS_LIVE_WRITE : Fld := ⟨0, 1, .w1c, 0, .num, 131⟩
def Fld.ETH_RULE_STATUS_BAD_RULE : Fld := ⟨1, 1, .w1c, 0, .num, 131⟩
def Reg.ETH_RX_DROP_SLOW_DEV : Nat := 0x200000C
def Fld.ETH_RX_DROP_SLOW_DEV_COUNT : Fld := ⟨0, 32, .rc, 0, .num, 131⟩
def Reg.ETH_MAC_LO (i0 : Nat) : Nat := 0x2000010 + i0 * 0x8
def Fld.ETH_MAC_LO_ADDR : Fld := ⟨0, 32, .rw, 0, .image, 131⟩
def Reg.ETH_MAC_HI (i0 : Nat) : Nat := 0x2000014 + i0 * 0x8
def Fld.ETH_MAC_HI_ADDR : Fld := ⟨0, 16, .rw, 0, .image, 131⟩
def Reg.ETH_PFX_LO (i0 : Nat) : Nat := 0x2000100 + i0 * 0x10
def Fld.ETH_PFX_LO_PREFIX : Fld := ⟨0, 32, .rw, 0, .image, 131⟩
def Reg.ETH_PFX_HI (i0 : Nat) : Nat := 0x2000104 + i0 * 0x10
def Fld.ETH_PFX_HI_PREFIX : Fld := ⟨0, 32, .rw, 0, .image, 131⟩
def Reg.ETH_PART_CFG (i0 : Nat) : Nat := 0x2000108 + i0 * 0x10
def Fld.ETH_PART_CFG_PFX_EN : Fld := ⟨0, 1, .rw, 0, .image, 131⟩
def Fld.ETH_PART_CFG_DEFAULT : Fld := ⟨1, 2, .rw, 0, .image, 131⟩
def Reg.ETH_RULE_SHARE (i0 : Nat) : Nat := 0x2000200 + i0 * 0x4
def Fld.ETH_RULE_SHARE_FIRST : Fld := ⟨0, 11, .ro, 0, .image, 131⟩
def Fld.ETH_RULE_SHARE_COUNT : Fld := ⟨16, 12, .ro, 0, .image, 131⟩
def Reg.ETH_RX_SHARE (i0 : Nat) : Nat := 0x2000240 + i0 * 0x4
def Fld.ETH_RX_SHARE_UNITS : Fld := ⟨0, 9, .ro, 0, .image, 131⟩
def Reg.ETH_Q_SHARE (i0 : Nat) : Nat := 0x2000280 + i0 * 0x4
def Fld.ETH_Q_SHARE_FIRST : Fld := ⟨0, 9, .ro, 0, .image, 131⟩
def Fld.ETH_Q_SHARE_COUNT : Fld := ⟨16, 10, .ro, 0, .image, 131⟩
def Reg.ETH_RX_FRAMES (i0 : Nat) : Nat := 0x2001000 + i0 * 0x20
def Fld.ETH_RX_FRAMES_COUNT : Fld := ⟨0, 32, .ro, 0, .num, 131⟩
def Reg.ETH_TX_FRAMES (i0 : Nat) : Nat := 0x2001004 + i0 * 0x20
def Fld.ETH_TX_FRAMES_COUNT : Fld := ⟨0, 32, .ro, 0, .num, 131⟩
def Reg.ETH_RX_DROP_FCS (i0 : Nat) : Nat := 0x2001008 + i0 * 0x20
def Fld.ETH_RX_DROP_FCS_COUNT : Fld := ⟨0, 32, .rc, 0, .num, 131⟩
def Reg.ETH_RX_DROP_SIZE (i0 : Nat) : Nat := 0x200100C + i0 * 0x20
def Fld.ETH_RX_DROP_SIZE_COUNT : Fld := ⟨0, 32, .rc, 0, .num, 131⟩
def Reg.ETH_RX_DROP_CTRL (i0 : Nat) : Nat := 0x2001010 + i0 * 0x20
def Fld.ETH_RX_DROP_CTRL_COUNT : Fld := ⟨0, 32, .rc, 0, .num, 131⟩
def Reg.ETH_RX_DROP_DMAC (i0 : Nat) : Nat := 0x2001014 + i0 * 0x20
def Fld.ETH_RX_DROP_DMAC_COUNT : Fld := ⟨0, 32, .rc, 0, .num, 131⟩
def Reg.ETH_RX_DROP_CSUM (i0 : Nat) : Nat := 0x2001018 + i0 * 0x20
def Fld.ETH_RX_DROP_CSUM_COUNT : Fld := ⟨0, 32, .rc, 0, .num, 131⟩
def Reg.ETH_RX_DROP_FULL (i0 : Nat) : Nat := 0x2002000 + i0 * 0x20
def Fld.ETH_RX_DROP_FULL_COUNT : Fld := ⟨0, 32, .rc, 0, .num, 139⟩
def Reg.ETH_RX_DROP_RULE (i0 : Nat) : Nat := 0x2002004 + i0 * 0x20
def Fld.ETH_RX_DROP_RULE_COUNT : Fld := ⟨0, 32, .rc, 0, .num, 139⟩
def Reg.ETH_RX_DROP_SLOW (i0 : Nat) : Nat := 0x2002008 + i0 * 0x20
def Fld.ETH_RX_DROP_SLOW_COUNT : Fld := ⟨0, 32, .rc, 0, .num, 139⟩
def Reg.ETH_RX_DROP_ECLIPSE (i0 : Nat) : Nat := 0x200200C + i0 * 0x20
def Fld.ETH_RX_DROP_ECLIPSE_COUNT : Fld := ⟨0, 32, .rc, 0, .num, 139⟩
def Reg.ETH_RX_OCC (i0 : Nat) : Nat := 0x2002010 + i0 * 0x20
def Fld.ETH_RX_OCC_BYTES : Fld := ⟨0, 24, .ro, 0, .num, 143⟩
def Reg.ETH_RX_DELAY (i0 : Nat) : Nat := 0x2002014 + i0 * 0x20
def Fld.ETH_RX_DELAY_NS : Fld := ⟨0, 24, .ro, 0, .num, 143⟩
def Reg.ETH_RULE_CTRL (i0 : Nat) : Nat := 0x2100000 + i0 * 0x40
def Fld.ETH_RULE_CTRL_VALID : Fld := ⟨0, 1, .rw, 0, .num, 131⟩
def Fld.ETH_RULE_CTRL_ACTION : Fld := ⟨1, 2, .rw, 0, .num, 131⟩
def Fld.ETH_RULE_CTRL_CLASS : Fld := ⟨3, 2, .rw, 0, .num, 131⟩
def Fld.ETH_RULE_CTRL_QUEUE : Fld := ⟨8, 8, .rw, 0, .num, 131⟩
def Reg.ETH_RULE_SEL (i0 i1 : Nat) : Nat := 0x2100004 + i0 * 0x40 + i1 * 0xC
def Fld.ETH_RULE_SEL_SEL : Fld := ⟨0, 5, .rw, 0, .num, 131⟩
def Reg.ETH_RULE_LOW (i0 i1 : Nat) : Nat := 0x2100008 + i0 * 0x40 + i1 * 0xC
def Fld.ETH_RULE_LOW_LOW : Fld := ⟨0, 32, .rw, 0, .num, 131⟩
def Reg.ETH_RULE_HIGH (i0 i1 : Nat) : Nat := 0x210000C + i0 * 0x40 + i1 * 0xC
def Fld.ETH_RULE_HIGH_HIGH : Fld := ⟨0, 32, .rw, 0, .num, 131⟩
def Reg.ETH_RULE_HITS (i0 : Nat) : Nat := 0x2100034 + i0 * 0x40
def Fld.ETH_RULE_HITS_COUNT : Fld := ⟨0, 32, .rc, 0, .num, 139⟩
def Reg.ETH_SHP_CFG (i0 : Nat) : Nat := 0x2200000 + i0 * 0x20
def Fld.ETH_SHP_CFG_PORT : Fld := ⟨0, 3, .rw, 0, .num, 131⟩
def Fld.ETH_SHP_CFG_CLASS : Fld := ⟨4, 2, .rw, 0, .num, 131⟩
def Fld.ETH_SHP_CFG_OVERHEAD : Fld := ⟨8, 8, .rw, 0, .num, 131⟩
def Fld.ETH_SHP_CFG_EN : Fld := ⟨16, 1, .rw, 0, .num, 131⟩
def Reg.ETH_SHP_REFILL (i0 : Nat) : Nat := 0x2200004 + i0 * 0x20
def Fld.ETH_SHP_REFILL_BYTES : Fld := ⟨0, 22, .rw, 0, .num, 131⟩
def Reg.ETH_SHP_BURST (i0 : Nat) : Nat := 0x2200008 + i0 * 0x20
def Fld.ETH_SHP_BURST_BYTES : Fld := ⟨0, 24, .rw, 0, .num, 131⟩
def Reg.ETH_SHP_CREDIT (i0 : Nat) : Nat := 0x220000C + i0 * 0x20
def Fld.ETH_SHP_CREDIT_CREDIT : Fld := ⟨0, 25, .rw, 0, .num, 143⟩
def Reg.ETH_EQ_DEPTH (i0 : Nat) : Nat := 0x2200010 + i0 * 0x20
def Fld.ETH_EQ_DEPTH_BYTES : Fld := ⟨0, 24, .ro, 0, .num, 143⟩
def Reg.ETH_EQ_DELAY (i0 : Nat) : Nat := 0x2200014 + i0 * 0x20
def Fld.ETH_EQ_DELAY_NS : Fld := ⟨0, 24, .ro, 0, .num, 143⟩

/-! Registers of SRMT (R469, R470). -/

def Reg.SRMT_CTRL : Nat := 0x2800000
def Fld.SRMT_CTRL_UDP_PORT : Fld := ⟨0, 16, .rw, 0, .image, 131⟩
def Reg.SRMT_STATUS : Nat := 0x2800004
def Fld.SRMT_STATUS_RESIDENT : Fld := ⟨0, 13, .ro, 0, .num, 135⟩
def Fld.SRMT_STATUS_MISS : Fld := ⟨13, 10, .ro, 0, .num, 135⟩
def Reg.SRMT_CC_CWND_INIT : Nat := 0x2800010
def Fld.SRMT_CC_CWND_INIT_BYTES : Fld := ⟨0, 25, .rw, 0, .image, 131⟩
def Reg.SRMT_CC_CWND_MIN : Nat := 0x2800014
def Fld.SRMT_CC_CWND_MIN_BYTES : Fld := ⟨0, 25, .rw, 0, .image, 131⟩
def Reg.SRMT_CC_CWND_MAX : Nat := 0x2800018
def Fld.SRMT_CC_CWND_MAX_BYTES : Fld := ⟨0, 25, .rw, 0, .image, 131⟩
def Reg.SRMT_CC_AI : Nat := 0x280001C
def Fld.SRMT_CC_AI_BYTES : Fld := ⟨0, 16, .rw, 0, .image, 131⟩
def Reg.SRMT_CTX_COUNT (i0 : Nat) : Nat := 0x2801000 + i0 * 0x40
def Fld.SRMT_CTX_COUNT_COUNT : Fld := ⟨0, 21, .ro, 0, .image, 131⟩
def Reg.SRMT_SHARES (i0 : Nat) : Nat := 0x2801004 + i0 * 0x40
def Fld.SRMT_SHARES_RESIDENT : Fld := ⟨0, 13, .ro, 0, .image, 131⟩
def Fld.SRMT_SHARES_MISS : Fld := ⟨13, 10, .ro, 0, .image, 131⟩
def Reg.SRMT_WIN_SHARE (i0 : Nat) : Nat := 0x2801008 + i0 * 0x40
def Fld.SRMT_WIN_SHARE_COUNT : Fld := ⟨0, 17, .ro, 0, .image, 131⟩
def Reg.SRMT_CNT_BAD_PKT (i0 : Nat) : Nat := 0x2801010 + i0 * 0x40
def Fld.SRMT_CNT_BAD_PKT_COUNT : Fld := ⟨0, 32, .rc, 0, .num, 139⟩
def Reg.SRMT_CNT_STALE (i0 : Nat) : Nat := 0x2801014 + i0 * 0x40
def Fld.SRMT_CNT_STALE_COUNT : Fld := ⟨0, 32, .rc, 0, .num, 139⟩
def Reg.SRMT_CNT_AUTH (i0 : Nat) : Nat := 0x2801018 + i0 * 0x40
def Fld.SRMT_CNT_AUTH_COUNT : Fld := ⟨0, 32, .rc, 0, .num, 139⟩
def Reg.SRMT_CNT_DUP (i0 : Nat) : Nat := 0x280101C + i0 * 0x40
def Fld.SRMT_CNT_DUP_COUNT : Fld := ⟨0, 32, .rc, 0, .num, 139⟩
def Reg.SRMT_CNT_MISS (i0 : Nat) : Nat := 0x2801020 + i0 * 0x40
def Fld.SRMT_CNT_MISS_COUNT : Fld := ⟨0, 32, .ro, 0, .num, 139⟩
def Reg.SRMT_CNT_MISS_DROP (i0 : Nat) : Nat := 0x2801024 + i0 * 0x40
def Fld.SRMT_CNT_MISS_DROP_COUNT : Fld := ⟨0, 32, .rc, 0, .num, 139⟩
def Reg.SRMT_CNT_RNR (i0 : Nat) : Nat := 0x2801028 + i0 * 0x40
def Fld.SRMT_CNT_RNR_COUNT : Fld := ⟨0, 32, .rc, 0, .num, 139⟩
def Reg.SRMT_CNT_RESEND (i0 : Nat) : Nat := 0x280102C + i0 * 0x40
def Fld.SRMT_CNT_RESEND_COUNT : Fld := ⟨0, 32, .ro, 0, .num, 139⟩
def Reg.SRMT_CNT_EXPIRY (i0 : Nat) : Nat := 0x2801030 + i0 * 0x40
def Fld.SRMT_CNT_EXPIRY_COUNT : Fld := ⟨0, 32, .ro, 0, .num, 139⟩
def Reg.SRMT_CNT_CQ_FULL (i0 : Nat) : Nat := 0x2801034 + i0 * 0x40
def Fld.SRMT_CNT_CQ_FULL_COUNT : Fld := ⟨0, 32, .ro, 0, .num, 139⟩
def Reg.SRMT_CNT_CONN_ERR (i0 : Nat) : Nat := 0x2801038 + i0 * 0x40
def Fld.SRMT_CNT_CONN_ERR_COUNT : Fld := ⟨0, 32, .rc, 0, .num, 139⟩
def Reg.SRMT_SQ_DB (i0 i1 : Nat) : Nat := 0x4002000 + i0 * 0x10000 + i1 * 0x4
def Fld.SRMT_SQ_DB_TAIL : Fld := ⟨0, 16, .wo, 0, .num, 0⟩
def Reg.SRMT_RQ_DB (i0 i1 : Nat) : Nat := 0x4002100 + i0 * 0x10000 + i1 * 0x4
def Fld.SRMT_RQ_DB_TAIL : Fld := ⟨0, 16, .wo, 0, .num, 0⟩
def Reg.SRMT_CQ_DB (i0 i1 : Nat) : Nat := 0x4002200 + i0 * 0x10000 + i1 * 0x4
def Fld.SRMT_CQ_DB_HEAD : Fld := ⟨0, 16, .wo, 0, .num, 0⟩
def Fld.SRMT_CQ_DB_ARM : Fld := ⟨31, 1, .wo, 0, .num, 0⟩
def Reg.SRMT_AQ_BASE_LO (i0 : Nat) : Nat := 0x4002300 + i0 * 0x10000
def Fld.SRMT_AQ_BASE_LO_PRA : Fld := ⟨0, 32, .rw, 0, .num, 159⟩
def Reg.SRMT_AQ_BASE_HI (i0 : Nat) : Nat := 0x4002304 + i0 * 0x10000
def Fld.SRMT_AQ_BASE_HI_PRA : Fld := ⟨0, 16, .rw, 0, .num, 159⟩
def Reg.SRMT_AQ_CFG (i0 : Nat) : Nat := 0x4002308 + i0 * 0x10000
def Fld.SRMT_AQ_CFG_LOG2 : Fld := ⟨0, 4, .rw, 0, .num, 159⟩
def Fld.SRMT_AQ_CFG_VECTOR : Fld := ⟨4, 6, .rw, 0, .num, 159⟩
def Fld.SRMT_AQ_CFG_EN : Fld := ⟨16, 1, .rw, 0, .num, 159⟩
def Reg.SRMT_AQ_DB (i0 : Nat) : Nat := 0x400230C + i0 * 0x10000
def Fld.SRMT_AQ_DB_TAIL : Fld := ⟨0, 8, .wo, 0, .num, 0⟩
def Reg.SRMT_AQ_STATUS (i0 : Nat) : Nat := 0x4002310 + i0 * 0x10000
def Fld.SRMT_AQ_STATUS_HEAD : Fld := ⟨0, 8, .ro, 0, .num, 159⟩
def Fld.SRMT_AQ_STATUS_ERROR : Fld := ⟨8, 1, .w1c, 0, .num, 159⟩
def Reg.SRMT_SQ_STATE (i0 i1 : Nat) : Nat := 0x4002400 + i0 * 0x10000 + i1 * 0x4
def Fld.SRMT_SQ_STATE_HEAD : Fld := ⟨0, 16, .ro, 0, .num, 159⟩
def Fld.SRMT_SQ_STATE_CREATED : Fld := ⟨16, 1, .ro, 0, .num, 159⟩
def Fld.SRMT_SQ_STATE_WAITING : Fld := ⟨17, 1, .ro, 0, .num, 159⟩
def Fld.SRMT_SQ_STATE_BAD_DB : Fld := ⟨18, 1, .w1c, 0, .num, 159⟩
def Reg.SRMT_RQ_STATE (i0 i1 : Nat) : Nat := 0x4002500 + i0 * 0x10000 + i1 * 0x4
def Fld.SRMT_RQ_STATE_HEAD : Fld := ⟨0, 16, .ro, 0, .num, 159⟩
def Fld.SRMT_RQ_STATE_CREATED : Fld := ⟨16, 1, .ro, 0, .num, 159⟩
def Fld.SRMT_RQ_STATE_BAD_DB : Fld := ⟨18, 1, .w1c, 0, .num, 159⟩
def Reg.SRMT_CQ_STATE (i0 i1 : Nat) : Nat := 0x4002600 + i0 * 0x10000 + i1 * 0x4
def Fld.SRMT_CQ_STATE_TAIL : Fld := ⟨0, 16, .ro, 0, .num, 159⟩
def Fld.SRMT_CQ_STATE_CREATED : Fld := ⟨16, 1, .ro, 0, .num, 159⟩
def Fld.SRMT_CQ_STATE_HELD : Fld := ⟨17, 1, .ro, 0, .num, 159⟩
def Fld.SRMT_CQ_STATE_BAD_DB : Fld := ⟨18, 1, .w1c, 0, .num, 159⟩

/-! Registers of DMA. -/

def Reg.DMA_MODE : Nat := 0x34F0000
def Fld.DMA_MODE_STRICT : Fld := ⟨0, 1, .ro, 1, .num, 131⟩
def Fld.DMA_MODE_MISALIGN_SEEN : Fld := ⟨1, 1, .w1c, 0, .num, 131⟩
def Reg.DMA_ENG_STATUS (i0 : Nat) : Nat := 0x3400000 + i0 * 0x1000
def Fld.DMA_ENG_STATUS_CUR_CH : Fld := ⟨0, 4, .ro, 0, .num, 143⟩
def Fld.DMA_ENG_STATUS_ACTIVE : Fld := ⟨4, 1, .ro, 0, .num, 143⟩
def Reg.DMA_CNT_DESC (i0 : Nat) : Nat := 0x3400010 + i0 * 0x1000
def Fld.DMA_CNT_DESC_COUNT : Fld := ⟨0, 32, .ro, 0, .num, 139⟩
def Reg.DMA_CNT_BYTES (i0 : Nat) : Nat := 0x3400014 + i0 * 0x1000
def Fld.DMA_CNT_BYTES_COUNT : Fld := ⟨0, 32, .ro, 0, .num, 139⟩
def Reg.DMA_CNT_FLOAT (i0 : Nat) : Nat := 0x3400018 + i0 * 0x1000
def Fld.DMA_CNT_FLOAT_COUNT : Fld := ⟨0, 32, .ro, 0, .num, 139⟩
def Reg.DMA_CNT_OVERRUN (i0 : Nat) : Nat := 0x340001C + i0 * 0x1000
def Fld.DMA_CNT_OVERRUN_COUNT : Fld := ⟨0, 32, .rc, 0, .num, 139⟩
def Reg.DMA_CNT_ERR (i0 : Nat) : Nat := 0x3400020 + i0 * 0x1000
def Fld.DMA_CNT_ERR_COUNT : Fld := ⟨0, 32, .rc, 0, .num, 139⟩
def Reg.DMA_CH_CFG (i0 i1 : Nat) : Nat := 0x3400100 + i0 * 0x1000 + i1 * 0x40
def Fld.DMA_CH_CFG_EN : Fld := ⟨0, 1, .rw, 0, .num, 139⟩
def Fld.DMA_CH_CFG_CPL_MODE : Fld := ⟨1, 1, .rw, 0, .num, 139⟩
def Fld.DMA_CH_CFG_LOG2 : Fld := ⟨4, 4, .rw, 0, .num, 139⟩
def Fld.DMA_CH_CFG_CQ_LOG2 : Fld := ⟨8, 4, .rw, 0, .num, 139⟩
def Reg.DMA_CH_RING_LO (i0 i1 : Nat) : Nat := 0x3400104 + i0 * 0x1000 + i1 * 0x40
def Fld.DMA_CH_RING_LO_PRA : Fld := ⟨0, 32, .rw, 0, .num, 139⟩
def Reg.DMA_CH_RING_HI (i0 i1 : Nat) : Nat := 0x3400108 + i0 * 0x1000 + i1 * 0x40
def Fld.DMA_CH_RING_HI_PRA : Fld := ⟨0, 16, .rw, 0, .num, 139⟩
def Reg.DMA_CH_CQ_LO (i0 i1 : Nat) : Nat := 0x340010C + i0 * 0x1000 + i1 * 0x40
def Fld.DMA_CH_CQ_LO_PRA : Fld := ⟨0, 32, .rw, 0, .num, 139⟩
def Reg.DMA_CH_CQ_HI (i0 i1 : Nat) : Nat := 0x3400110 + i0 * 0x1000 + i1 * 0x40
def Fld.DMA_CH_CQ_HI_PRA : Fld := ⟨0, 16, .rw, 0, .num, 139⟩
def Reg.DMA_CH_NOTIFY (i0 i1 : Nat) : Nat := 0x3400114 + i0 * 0x1000 + i1 * 0x40
def Fld.DMA_CH_NOTIFY_KIND : Fld := ⟨0, 1, .rw, 0, .num, 139⟩
def Fld.DMA_CH_NOTIFY_VF_OR_CORE : Fld := ⟨1, 6, .rw, 0, .num, 139⟩
def Fld.DMA_CH_NOTIFY_VEC_OR_INDEX : Fld := ⟨7, 6, .rw, 0, .num, 139⟩
def Reg.DMA_CH_STATUS (i0 i1 : Nat) : Nat := 0x3400118 + i0 * 0x1000 + i1 * 0x40
def Fld.DMA_CH_STATUS_STATE : Fld := ⟨0, 2, .ro, 0, .num, 139⟩
def Fld.DMA_CH_STATUS_CQ_HELD : Fld := ⟨2, 1, .ro, 0, .num, 143⟩
def Fld.DMA_CH_STATUS_CONS : Fld := ⟨16, 12, .ro, 0, .num, 139⟩
def Reg.DMA_CH_DB (i0 i1 : Nat) : Nat := 0x340011C + i0 * 0x1000 + i1 * 0x40
def Fld.DMA_CH_DB_POLL : Fld := ⟨0, 1, .wo, 0, .num, 0⟩
def Fld.DMA_CH_DB_RESUME : Fld := ⟨1, 1, .wo, 0, .num, 0⟩

/-! Registers of cipher. -/

def Reg.CPH_STATUS : Nat := 0x3800000
def Fld.CPH_STATUS_ROOT_BAD : Fld := ⟨0, 1, .ro, 0, .fuse, 129⟩
def Fld.CPH_STATUS_DRBG_FAIL : Fld := ⟨1, 1, .w1c, 0, .num, 131⟩
def Fld.CPH_STATUS_ID_READY : Fld := ⟨2, 1, .ro, 0, .num, 129⟩
def Reg.CPH_VERIFY : Nat := 0x3800004
def Fld.CPH_VERIFY_SECTION_OK : Fld := ⟨0, 6, .ro, 0, .image, 131⟩
def Fld.CPH_VERIFY_SVN_LOW : Fld := ⟨6, 6, .ro, 0, .image, 131⟩
def Reg.CPH_FUSE_SVN : Nat := 0x3800008
def Fld.CPH_FUSE_SVN_FW_SVN : Fld := ⟨0, 16, .ro, 0, .fuse, 129⟩
def Fld.CPH_FUSE_SVN_IMG_SVN : Fld := ⟨16, 16, .ro, 0, .fuse, 129⟩
def Reg.CPH_OWNER_KEYS : Nat := 0x380000C
def Fld.CPH_OWNER_KEYS_PROGRAMMED : Fld := ⟨0, 4, .ro, 0, .fuse, 129⟩
def Fld.CPH_OWNER_KEYS_REVOKED : Fld := ⟨4, 4, .ro, 0, .fuse, 129⟩
def Reg.CPH_BOOT_NONCE_LO : Nat := 0x3800010
def Fld.CPH_BOOT_NONCE_LO_NONCE : Fld := ⟨0, 32, .ro, 0, .num, 131⟩
def Reg.CPH_BOOT_NONCE_HI : Nat := 0x3800014
def Fld.CPH_BOOT_NONCE_HI_NONCE : Fld := ⟨0, 32, .ro, 0, .num, 131⟩
def Reg.CPH_DIE_ID (i0 : Nat) : Nat := 0x3800020 + i0 * 0x4
def Fld.CPH_DIE_ID_ID : Fld := ⟨0, 32, .ro, 0, .num, 129⟩
def Reg.CPH_ATT_CTRL : Nat := 0x3800100
def Fld.CPH_ATT_CTRL_PART : Fld := ⟨0, 4, .wo, 0, .num, 0⟩
def Fld.CPH_ATT_CTRL_DEVICE : Fld := ⟨4, 1, .wo, 0, .num, 0⟩
def Fld.CPH_ATT_CTRL_GO : Fld := ⟨31, 1, .wo, 0, .num, 0⟩
def Reg.CPH_ATT_STATUS : Nat := 0x3800104
def Fld.CPH_ATT_STATUS_BUSY : Fld := ⟨0, 1, .ro, 0, .num, 135⟩
def Fld.CPH_ATT_STATUS_DONE : Fld := ⟨1, 1, .w1c, 0, .num, 135⟩
def Fld.CPH_ATT_STATUS_ATT_DROPPED : Fld := ⟨2, 1, .w1c, 0, .num, 135⟩
def Reg.CPH_ATT_OUT_LO : Nat := 0x3800108
def Fld.CPH_ATT_OUT_LO_ADDR : Fld := ⟨0, 32, .rw, 0, .num, 131⟩
def Reg.CPH_ATT_OUT_HI : Nat := 0x380010C
def Fld.CPH_ATT_OUT_HI_ADDR : Fld := ⟨0, 16, .rw, 0, .num, 131⟩
def Reg.CPH_ATT_NONCE (i0 : Nat) : Nat := 0x3800120 + i0 * 0x4
def Fld.CPH_ATT_NONCE_NONCE : Fld := ⟨0, 32, .rw, 0, .num, 131⟩
def Reg.CPH_CNT_BYTES (i0 : Nat) : Nat := 0x3801000 + i0 * 0x20
def Fld.CPH_CNT_BYTES_COUNT : Fld := ⟨0, 32, .ro, 0, .num, 139⟩
def Reg.CPH_CNT_JOBS (i0 : Nat) : Nat := 0x3801004 + i0 * 0x20
def Fld.CPH_CNT_JOBS_COUNT : Fld := ⟨0, 32, .ro, 0, .num, 139⟩
def Reg.CPH_CNT_KEYMISS (i0 : Nat) : Nat := 0x3801008 + i0 * 0x20
def Fld.CPH_CNT_KEYMISS_COUNT : Fld := ⟨0, 32, .ro, 0, .num, 139⟩
def Reg.CPH_CNT_TAGFAIL (i0 : Nat) : Nat := 0x380100C + i0 * 0x20
def Fld.CPH_CNT_TAGFAIL_COUNT : Fld := ⟨0, 32, .rc, 0, .num, 139⟩
def Reg.CPH_CNT_LIMIT (i0 : Nat) : Nat := 0x3801010 + i0 * 0x20
def Fld.CPH_CNT_LIMIT_COUNT : Fld := ⟨0, 32, .rc, 0, .num, 139⟩
def Reg.CPH_CNT_UNWRAP (i0 : Nat) : Nat := 0x3801014 + i0 * 0x20
def Fld.CPH_CNT_UNWRAP_COUNT : Fld := ⟨0, 32, .rc, 0, .num, 139⟩
def Reg.CPH_DBG_INV_LO (i0 i1 : Nat) : Nat := 0x3802000 + i0 * 0x40 + i1 * 0x8
def Fld.CPH_DBG_INV_LO_COUNT : Fld := ⟨0, 32, .ro, 0, .num, 131⟩
def Reg.CPH_DBG_INV_HI (i0 i1 : Nat) : Nat := 0x3802004 + i0 * 0x40 + i1 * 0x8
def Fld.CPH_DBG_INV_HI_COUNT : Fld := ⟨0, 1, .ro, 0, .num, 131⟩

/-! Registers of storage (R532, R533). -/

def Reg.STG_CTRL : Nat := 0x3A00000
def Fld.STG_CTRL_EJECT : Fld := ⟨0, 1, .wo, 0, .num, 0⟩
def Reg.STG_STATUS : Nat := 0x3A00004
def Fld.STG_STATUS_CART_STATE : Fld := ⟨0, 3, .ro, 0, .num, 131⟩
def Fld.STG_STATUS_LATCHED : Fld := ⟨3, 1, .ro, 0, .num, 131⟩
def Fld.STG_STATUS_HOLDUP_LOW : Fld := ⟨4, 1, .ro, 0, .num, 131⟩
def Fld.STG_STATUS_WRITE_THROUGH : Fld := ⟨5, 1, .ro, 0, .num, 131⟩
def Reg.STG_EVENT : Nat := 0x3A00008
def Fld.STG_EVENT_FLUSH_LOST : Fld := ⟨0, 1, .w1c, 0, .num, 131⟩
def Fld.STG_EVENT_SHUTDOWN_TIMEOUT : Fld := ⟨1, 1, .w1c, 0, .num, 131⟩
def Fld.STG_EVENT_SURPRISE_REMOVAL : Fld := ⟨2, 1, .w1c, 0, .num, 131⟩
def Fld.STG_EVENT_CART_FAULT : Fld := ⟨3, 1, .w1c, 0, .num, 131⟩
def Reg.STG_WB_FILL : Nat := 0x3A0000C
def Fld.STG_WB_FILL_MIB : Fld := ⟨0, 13, .ro, 0, .num, 131⟩
def Reg.STG_HOLDUP : Nat := 0x3A00010
def Fld.STG_HOLDUP_JOULES : Fld := ⟨0, 10, .ro, 0, .num, 129⟩
def Reg.STG_NS_BASE_LO (i0 : Nat) : Nat := 0x3A01000 + i0 * 0x20
def Fld.STG_NS_BASE_LO_BLOCK : Fld := ⟨0, 32, .ro, 0, .image, 131⟩
def Reg.STG_NS_BASE_HI (i0 : Nat) : Nat := 0x3A01004 + i0 * 0x20
def Fld.STG_NS_BASE_HI_BLOCK : Fld := ⟨0, 8, .ro, 0, .image, 131⟩
def Reg.STG_NS_LEN_LO (i0 : Nat) : Nat := 0x3A01008 + i0 * 0x20
def Fld.STG_NS_LEN_LO_BLOCKS : Fld := ⟨0, 32, .ro, 0, .image, 131⟩
def Reg.STG_NS_LEN_HI (i0 : Nat) : Nat := 0x3A0100C + i0 * 0x20
def Fld.STG_NS_LEN_HI_BLOCKS : Fld := ⟨0, 8, .ro, 0, .image, 131⟩
def Reg.STG_NS_CFG (i0 : Nat) : Nat := 0x3A01010 + i0 * 0x20
def Fld.STG_NS_CFG_OWNER : Fld := ⟨0, 5, .ro, 0, .image, 131⟩
def Fld.STG_NS_CFG_NSID : Fld := ⟨8, 5, .ro, 0, .image, 131⟩
def Fld.STG_NS_CFG_LBA_4K : Fld := ⟨16, 1, .ro, 0, .image, 131⟩
def Reg.STG_NS_STATE (i0 : Nat) : Nat := 0x3A01014 + i0 * 0x20
def Fld.STG_NS_STATE_STATE : Fld := ⟨0, 3, .ro, 0, .num, 131⟩
def Fld.STG_NS_STATE_TEST : Fld := ⟨3, 2, .ro, 0, .num, 139⟩
def Reg.STG_NS_CTRL (i0 : Nat) : Nat := 0x3A01018 + i0 * 0x20
def Fld.STG_NS_CTRL_FORMAT : Fld := ⟨0, 1, .wo, 0, .num, 0⟩
def Reg.STG_WB_SHARE (i0 : Nat) : Nat := 0x3A02000 + i0 * 0x20
def Fld.STG_WB_SHARE_MIB : Fld := ⟨0, 13, .ro, 0, .image, 131⟩
def Reg.STG_RL_SHARE (i0 : Nat) : Nat := 0x3A02004 + i0 * 0x20
def Fld.STG_RL_SHARE_COUNT : Fld := ⟨0, 11, .ro, 0, .image, 131⟩
def Reg.STG_CNT_CMDS (i0 : Nat) : Nat := 0x3A02008 + i0 * 0x20
def Fld.STG_CNT_CMDS_COUNT : Fld := ⟨0, 32, .ro, 0, .num, 139⟩
def Reg.STG_CNT_RLSTALL (i0 : Nat) : Nat := 0x3A0200C + i0 * 0x20
def Fld.STG_CNT_RLSTALL_COUNT : Fld := ⟨0, 32, .rc, 0, .num, 139⟩
def Reg.STG_CNT_ERR (i0 : Nat) : Nat := 0x3A02010 + i0 * 0x20
def Fld.STG_CNT_ERR_COUNT : Fld := ⟨0, 32, .rc, 0, .num, 139⟩
def Reg.STG_SQ_DB (i0 i1 : Nat) : Nat := 0x4004000 + i0 * 0x10000 + i1 * 0x8
def Fld.STG_SQ_DB_TAIL : Fld := ⟨0, 16, .wo, 0, .num, 0⟩
def Reg.STG_CQ_DB (i0 i1 : Nat) : Nat := 0x4004004 + i0 * 0x10000 + i1 * 0x8
def Fld.STG_CQ_DB_HEAD : Fld := ⟨0, 16, .wo, 0, .num, 0⟩
def Reg.STG_AQA (i0 : Nat) : Nat := 0x4004100 + i0 * 0x10000
def Fld.STG_AQA_ASQS : Fld := ⟨0, 8, .rw, 0, .num, 155⟩
def Fld.STG_AQA_ACQS : Fld := ⟨16, 8, .rw, 0, .num, 155⟩
def Reg.STG_ASQ_LO (i0 : Nat) : Nat := 0x4004108 + i0 * 0x10000
def Fld.STG_ASQ_LO_ADDR : Fld := ⟨0, 32, .rw, 0, .num, 155⟩
def Reg.STG_ASQ_HI (i0 : Nat) : Nat := 0x400410C + i0 * 0x10000
def Fld.STG_ASQ_HI_ADDR : Fld := ⟨0, 32, .rw, 0, .num, 155⟩
def Reg.STG_ACQ_LO (i0 : Nat) : Nat := 0x4004110 + i0 * 0x10000
def Fld.STG_ACQ_LO_ADDR : Fld := ⟨0, 32, .rw, 0, .num, 155⟩
def Reg.STG_ACQ_HI (i0 : Nat) : Nat := 0x4004114 + i0 * 0x10000
def Fld.STG_ACQ_HI_ADDR : Fld := ⟨0, 32, .rw, 0, .num, 155⟩
def Reg.STG_ACTRL (i0 : Nat) : Nat := 0x4004118 + i0 * 0x10000
def Fld.STG_ACTRL_EN : Fld := ⟨0, 1, .rw, 0, .num, 155⟩
def Fld.STG_ACTRL_LOC : Fld := ⟨1, 1, .rw, 0, .num, 155⟩
def Reg.STG_ASTATUS (i0 : Nat) : Nat := 0x400411C + i0 * 0x10000
def Fld.STG_ASTATUS_RDY : Fld := ⟨0, 1, .ro, 0, .num, 155⟩
def Reg.STG_QERR (i0 : Nat) : Nat := 0x4004120 + i0 * 0x10000
def Fld.STG_QERR_STOPPED : Fld := ⟨0, 17, .w1c, 0, .num, 155⟩

/-! Registers of checkpoint. -/

def Reg.CK_CTRL (i0 : Nat) : Nat := 0x3C00000 + i0 * 0x1000
def Fld.CK_CTRL_EN : Fld := ⟨0, 1, .rw, 0, .image, 139⟩
def Fld.CK_CTRL_NOW : Fld := ⟨1, 1, .wo, 0, .num, 0⟩
def Fld.CK_CTRL_ABORT : Fld := ⟨2, 1, .wo, 0, .num, 0⟩
def Fld.CK_CTRL_FORCE_BASE : Fld := ⟨3, 1, .wo, 0, .num, 0⟩
def Fld.CK_CTRL_CURE_PAUSE : Fld := ⟨4, 1, .rw, 0, .num, 139⟩
def Reg.CK_CFG (i0 : Nat) : Nat := 0x3C00004 + i0 * 0x1000
def Fld.CK_CFG_TRIG_TIMER : Fld := ⟨0, 1, .rw, 0, .image, 131⟩
def Fld.CK_CFG_TRIG_STEP : Fld := ⟨1, 1, .rw, 0, .image, 131⟩
def Fld.CK_CFG_REMOTE : Fld := ⟨2, 1, .rw, 0, .image, 131⟩
def Fld.CK_CFG_SLICE : Fld := ⟨8, 8, .rw, 0, .image, 131⟩
def Fld.CK_CFG_CHAIN_MAX : Fld := ⟨16, 8, .rw, 0, .image, 131⟩
def Reg.CK_INTERVAL (i0 : Nat) : Nat := 0x3C00008 + i0 * 0x1000
def Fld.CK_INTERVAL_ORBITS : Fld := ⟨0, 32, .rw, 0, .image, 131⟩
def Reg.CK_RANGE_LO (i0 : Nat) : Nat := 0x3C0000C + i0 * 0x1000
def Fld.CK_RANGE_LO_GRANULE : Fld := ⟨0, 25, .rw, 0, .image, 131⟩
def Reg.CK_RANGE_HI (i0 : Nat) : Nat := 0x3C00010 + i0 * 0x1000
def Fld.CK_RANGE_HI_GRANULE : Fld := ⟨0, 25, .rw, 0, .image, 131⟩
def Reg.CK_SKIM_LO (i0 : Nat) : Nat := 0x3C00014 + i0 * 0x1000
def Fld.CK_SKIM_LO_PRA : Fld := ⟨0, 32, .rw, 0, .image, 131⟩
def Reg.CK_SKIM_HI (i0 : Nat) : Nat := 0x3C00018 + i0 * 0x1000
def Fld.CK_SKIM_HI_PRA : Fld := ⟨0, 16, .rw, 0, .image, 131⟩
def Reg.CK_SKIM_LEN (i0 : Nat) : Nat := 0x3C0001C + i0 * 0x1000
def Fld.CK_SKIM_LEN_GRANULES : Fld := ⟨0, 25, .rw, 0, .image, 131⟩
def Reg.CK_STEP_PORTS (i0 : Nat) : Nat := 0x3C00020 + i0 * 0x1000
def Fld.CK_STEP_PORTS_PORTS : Fld := ⟨0, 8, .rw, 0, .image, 131⟩
def Reg.CK_STEP_EVERY (i0 : Nat) : Nat := 0x3C00024 + i0 * 0x1000
def Fld.CK_STEP_EVERY_STEPS : Fld := ⟨0, 32, .rw, 0, .image, 131⟩
def Reg.CK_STEP_TARGET_LO (i0 : Nat) : Nat := 0x3C00028 + i0 * 0x1000
def Fld.CK_STEP_TARGET_LO_STEP : Fld := ⟨0, 32, .rw, 0, .image, 139⟩
def Reg.CK_STEP_TARGET_HI (i0 : Nat) : Nat := 0x3C0002C + i0 * 0x1000
def Fld.CK_STEP_TARGET_HI_STEP : Fld := ⟨0, 32, .rw, 0, .image, 139⟩
def Reg.CK_CART_BASE_LO (i0 : Nat) : Nat := 0x3C00030 + i0 * 0x1000
def Fld.CK_CART_BASE_LO_BLOCK : Fld := ⟨0, 32, .ro, 0, .image, 131⟩
def Reg.CK_CART_BASE_HI (i0 : Nat) : Nat := 0x3C00034 + i0 * 0x1000
def Fld.CK_CART_BASE_HI_BLOCK : Fld := ⟨0, 8, .ro, 0, .image, 131⟩
def Reg.CK_CART_LEN_LO (i0 : Nat) : Nat := 0x3C00038 + i0 * 0x1000
def Fld.CK_CART_LEN_LO_BLOCKS : Fld := ⟨0, 32, .ro, 0, .image, 131⟩
def Reg.CK_CART_LEN_HI (i0 : Nat) : Nat := 0x3C0003C + i0 * 0x1000
def Fld.CK_CART_LEN_HI_BLOCKS : Fld := ⟨0, 8, .ro, 0, .image, 131⟩
def Reg.CK_REMOTE_CONN (i0 : Nat) : Nat := 0x3C00040 + i0 * 0x1000
def Fld.CK_REMOTE_CONN_CONN : Fld := ⟨0, 20, .rw, 0, .num, 139⟩
def Reg.CK_REMOTE_WIN (i0 : Nat) : Nat := 0x3C00044 + i0 * 0x1000
def Fld.CK_REMOTE_WIN_HANDLE : Fld := ⟨0, 32, .rw, 0, .num, 139⟩
def Reg.CK_REMOTE_OFS_LO (i0 : Nat) : Nat := 0x3C00048 + i0 * 0x1000
def Fld.CK_REMOTE_OFS_LO_OFFSET : Fld := ⟨0, 32, .rw, 0, .num, 139⟩
def Reg.CK_REMOTE_OFS_HI (i0 : Nat) : Nat := 0x3C0004C + i0 * 0x1000
def Fld.CK_REMOTE_OFS_HI_OFFSET : Fld := ⟨0, 32, .rw, 0, .num, 139⟩
def Reg.CK_REMOTE_SHQ (i0 : Nat) : Nat := 0x3C00050 + i0 * 0x1000
def Fld.CK_REMOTE_SHQ_QUEUE : Fld := ⟨0, 9, .rw, 0, .num, 139⟩
def Reg.CK_STATUS (i0 : Nat) : Nat := 0x3C00060 + i0 * 0x1000
def Fld.CK_STATUS_PHASE : Fld := ⟨0, 3, .ro, 0, .num, 143⟩
def Fld.CK_STATUS_TRIGGER_HELD : Fld := ⟨3, 1, .ro, 0, .num, 143⟩
def Fld.CK_STATUS_BASE_NEXT : Fld := ⟨4, 1, .ro, 1, .num, 139⟩
def Fld.CK_STATUS_REMOTE_STALE : Fld := ⟨5, 1, .ro, 0, .num, 139⟩
def Fld.CK_STATUS_LAST_RESULT : Fld := ⟨8, 8, .ro, 0, .num, 139⟩
def Reg.CK_EVENT (i0 : Nat) : Nat := 0x3C00064 + i0 * 0x1000
def Fld.CK_EVENT_DONE : Fld := ⟨0, 1, .w1c, 0, .num, 139⟩
def Fld.CK_EVENT_FAILED : Fld := ⟨1, 1, .w1c, 0, .num, 139⟩
def Fld.CK_EVENT_REMOTE_FAIL : Fld := ⟨2, 1, .w1c, 0, .num, 139⟩
def Fld.CK_EVENT_BAD_CONFIG : Fld := ⟨3, 1, .w1c, 0, .num, 139⟩
def Reg.CK_GEN_LO (i0 : Nat) : Nat := 0x3C00068 + i0 * 0x1000
def Fld.CK_GEN_LO_GEN : Fld := ⟨0, 32, .ro, 1, .num, 131⟩
def Reg.CK_GEN_HI (i0 : Nat) : Nat := 0x3C0006C + i0 * 0x1000
def Fld.CK_GEN_HI_GEN : Fld := ⟨0, 32, .ro, 0, .num, 131⟩
def Reg.CK_LAST_GEN_LO (i0 : Nat) : Nat := 0x3C00070 + i0 * 0x1000
def Fld.CK_LAST_GEN_LO_GEN : Fld := ⟨0, 32, .ro, 0, .num, 131⟩
def Reg.CK_LAST_GEN_HI (i0 : Nat) : Nat := 0x3C00074 + i0 * 0x1000
def Fld.CK_LAST_GEN_HI_GEN : Fld := ⟨0, 32, .ro, 0, .num, 131⟩
def Reg.CK_DIRTY (i0 : Nat) : Nat := 0x3C00078 + i0 * 0x1000
def Fld.CK_DIRTY_GRANULES : Fld := ⟨0, 25, .ro, 0, .derived, 139⟩
def Reg.CK_PROGRESS (i0 : Nat) : Nat := 0x3C0007C + i0 * 0x1000
def Fld.CK_PROGRESS_GRANULES : Fld := ⟨0, 25, .ro, 0, .num, 143⟩
def Reg.CK_RST_CTRL (i0 : Nat) : Nat := 0x3C00080 + i0 * 0x1000
def Fld.CK_RST_CTRL_SRC : Fld := ⟨0, 1, .wo, 0, .num, 0⟩
def Fld.CK_RST_CTRL_GO : Fld := ⟨31, 1, .wo, 0, .num, 0⟩
def Reg.CK_RST_STATUS (i0 : Nat) : Nat := 0x3C00084 + i0 * 0x1000
def Fld.CK_RST_STATUS_BUSY : Fld := ⟨0, 1, .ro, 0, .num, 143⟩
def Reg.CK_CNT_CUTS (i0 : Nat) : Nat := 0x3C000C0 + i0 * 0x1000
def Fld.CK_CNT_CUTS_COUNT : Fld := ⟨0, 32, .ro, 0, .num, 139⟩
def Reg.CK_CNT_COW_STALL (i0 : Nat) : Nat := 0x3C000C4 + i0 * 0x1000
def Fld.CK_CNT_COW_STALL_COUNT : Fld := ⟨0, 32, .rc, 0, .num, 139⟩
def Reg.CK_CNT_COW_CYCLES (i0 : Nat) : Nat := 0x3C000C8 + i0 * 0x1000
def Fld.CK_CNT_COW_CYCLES_COUNT : Fld := ⟨0, 32, .rc, 0, .num, 139⟩
def Reg.CK_CNT_COW_LONG (i0 : Nat) : Nat := 0x3C000CC + i0 * 0x1000
def Fld.CK_CNT_COW_LONG_COUNT : Fld := ⟨0, 32, .rc, 0, .num, 139⟩
def Reg.CK_CNT_MERGED (i0 : Nat) : Nat := 0x3C000D0 + i0 * 0x1000
def Fld.CK_CNT_MERGED_COUNT : Fld := ⟨0, 32, .rc, 0, .num, 139⟩
def Reg.CK_CNT_FAIL (i0 : Nat) : Nat := 0x3C000D4 + i0 * 0x1000
def Fld.CK_CNT_FAIL_COUNT : Fld := ⟨0, 32, .rc, 0, .num, 139⟩

/-! Registers of firmware complex (R576). -/

def Reg.SV_CTRL (i0 : Nat) : Nat := 0x3E00000 + i0 * 0x100
def Fld.SV_CTRL_RESTART : Fld := ⟨0, 1, .wo, 0, .num, 0⟩
def Reg.SV_STATUS (i0 : Nat) : Nat := 0x3E00004 + i0 * 0x100
def Fld.SV_STATUS_STATE : Fld := ⟨0, 2, .ro, 0, .num, 131⟩
def Fld.SV_STATUS_MPU_LOCKED : Fld := ⟨2, 1, .ro, 0, .num, 163⟩
def Reg.SV_WDOG (i0 : Nat) : Nat := 0x3E00008 + i0 * 0x100
def Fld.SV_WDOG_KICK : Fld := ⟨0, 1, .wo, 0, .num, 0⟩
def Fld.SV_WDOG_COUNT : Fld := ⟨1, 3, .ro, 0, .num, 163⟩
def Reg.SV_CAUSE (i0 : Nat) : Nat := 0x3E0000C + i0 * 0x100
def Fld.SV_CAUSE_CAUSE : Fld := ⟨0, 8, .ro, 0, .num, 131⟩
def Fld.SV_CAUSE_TCAUSE : Fld := ⟨8, 20, .ro, 0, .num, 131⟩
def Reg.SV_RESTARTS (i0 : Nat) : Nat := 0x3E00010 + i0 * 0x100
def Fld.SV_RESTARTS_COUNT : Fld := ⟨0, 32, .rc, 0, .num, 131⟩
def Reg.SV_TRACE_EN (i0 : Nat) : Nat := 0x3E00014 + i0 * 0x100
def Fld.SV_TRACE_EN_POINTS : Fld := ⟨0, 32, .rw, 0, .image, 131⟩
def Reg.SV_MPU_BASE (i0 i1 : Nat) : Nat := 0x3E01000 + i0 * 0x100 + i1 * 0x10
def Fld.SV_MPU_BASE_BASE : Fld := ⟨0, 32, .rw, 0, .num, 163⟩
def Reg.SV_MPU_LIMIT (i0 i1 : Nat) : Nat := 0x3E01004 + i0 * 0x100 + i1 * 0x10
def Fld.SV_MPU_LIMIT_LIMIT : Fld := ⟨0, 32, .rw, 0, .num, 163⟩
def Reg.SV_MPU_ATTR (i0 i1 : Nat) : Nat := 0x3E01008 + i0 * 0x100 + i1 * 0x10
def Fld.SV_MPU_ATTR_EN : Fld := ⟨0, 1, .rw, 0, .num, 163⟩
def Fld.SV_MPU_ATTR_R : Fld := ⟨1, 1, .rw, 0, .num, 163⟩
def Fld.SV_MPU_ATTR_W : Fld := ⟨2, 1, .rw, 0, .num, 163⟩
def Fld.SV_MPU_ATTR_X : Fld := ⟨3, 1, .rw, 0, .num, 163⟩
def Fld.SV_MPU_ATTR_REGION : Fld := ⟨4, 4, .rw, 0, .num, 163⟩
def Reg.HAWK_EVT_HEAD : Nat := 0x3E09008
def Fld.HAWK_EVT_HEAD_HEAD : Fld := ⟨0, 5, .rw, 0, .num, 131⟩
def Reg.HAWK_EVT_TAIL : Nat := 0x3E0900C
def Fld.HAWK_EVT_TAIL_TAIL : Fld := ⟨0, 5, .ro, 0, .num, 131⟩
def Reg.HAWK_EVT_LOST : Nat := 0x3E09010
def Fld.HAWK_EVT_LOST_COUNT : Fld := ⟨0, 32, .rc, 0, .num, 131⟩
def Reg.LOG_RD_INDEX : Nat := 0x3E0A000
def Fld.LOG_RD_INDEX_INDEX : Fld := ⟨0, 16, .rw, 0, .num, 131⟩
def Reg.LOG_WR_SEQ_LO : Nat := 0x3E0A008
def Fld.LOG_WR_SEQ_LO_SEQ : Fld := ⟨0, 32, .ro, 0, .num, 129⟩
def Reg.LOG_WR_SEQ_HI : Nat := 0x3E0A00C
def Fld.LOG_WR_SEQ_HI_SEQ : Fld := ⟨0, 32, .ro, 0, .num, 129⟩
def Reg.LOG_ENTRY_SEQ_LO : Nat := 0x3E0A010
def Fld.LOG_ENTRY_SEQ_LO_SEQ : Fld := ⟨0, 32, .ro, 0, .num, 131⟩
def Reg.LOG_ENTRY_SEQ_HI : Nat := 0x3E0A014
def Fld.LOG_ENTRY_SEQ_HI_SEQ : Fld := ⟨0, 32, .ro, 0, .num, 131⟩
def Reg.LOG_DATA (i0 : Nat) : Nat := 0x3E0A040 + i0 * 0x4
def Fld.LOG_DATA_WORD : Fld := ⟨0, 32, .ro, 0, .num, 131⟩
def Reg.HAWK_CTRL : Nat := 0x3E09000
def Fld.HAWK_CTRL_SUBMIT : Fld := ⟨0, 1, .wo, 0, .num, 0⟩
def Reg.HAWK_STATUS : Nat := 0x3E09004
def Fld.HAWK_STATUS_BUSY : Fld := ⟨0, 1, .ro, 0, .num, 131⟩
def Fld.HAWK_STATUS_RESP_READY : Fld := ⟨1, 1, .w1c, 0, .num, 131⟩
def Fld.HAWK_STATUS_SUBMIT_DROPPED : Fld := ⟨2, 1, .w1c, 0, .num, 131⟩
def Reg.HAWK_REQ (i0 : Nat) : Nat := 0x3E08000 + i0 * 0x4
def Fld.HAWK_REQ_WORD : Fld := ⟨0, 32, .rw, 0, .num, 131⟩
def Reg.HAWK_RSP (i0 : Nat) : Nat := 0x3E08800 + i0 * 0x4
def Fld.HAWK_RSP_WORD : Fld := ⟨0, 32, .ro, 0, .num, 131⟩
def Reg.HAWK_EVT_RING (i0 : Nat) : Nat := 0x3E09800 + i0 * 0x4
def Fld.HAWK_EVT_RING_WORD : Fld := ⟨0, 32, .ro, 0, .num, 131⟩
def Reg.VF_HAWK_EVT_RING (i0 i1 : Nat) : Nat := 0x4009800 + i0 * 0x10000 + i1 * 0x4
def Fld.VF_HAWK_EVT_RING_WORD : Fld := ⟨0, 32, .ro, 0, .num, 147⟩
def Reg.VF_HAWK_EVT_HEAD (i0 : Nat) : Nat := 0x4009008 + i0 * 0x10000
def Fld.VF_HAWK_EVT_HEAD_HEAD : Fld := ⟨0, 5, .rw, 0, .num, 147⟩
def Reg.VF_HAWK_EVT_TAIL (i0 : Nat) : Nat := 0x400900C + i0 * 0x10000
def Fld.VF_HAWK_EVT_TAIL_TAIL : Fld := ⟨0, 5, .ro, 0, .num, 147⟩
def Reg.VF_HAWK_EVT_LOST (i0 : Nat) : Nat := 0x4009010 + i0 * 0x10000
def Fld.VF_HAWK_EVT_LOST_COUNT : Fld := ⟨0, 32, .rc, 0, .num, 147⟩

/-! Registers of bring-up. -/

def Reg.BOOT_STAGE : Nat := 0x3F00000
def Fld.BOOT_STAGE_STAGE : Fld := ⟨0, 4, .ro, 1, .num, 131⟩
def Fld.BOOT_STAGE_NEXT : Fld := ⟨4, 4, .wo, 0, .num, 0⟩
def Fld.BOOT_STAGE_BUSY : Fld := ⟨8, 1, .ro, 1, .num, 131⟩
def Fld.BOOT_STAGE_FAILED : Fld := ⟨9, 1, .ro, 0, .num, 131⟩
def Reg.BOOT_STATUS : Nat := 0x3F00004
def Fld.BOOT_STATUS_MODE : Fld := ⟨0, 2, .ro, 0, .num, 131⟩
def Fld.BOOT_STATUS_SLOT : Fld := ⟨2, 1, .ro, 0, .num, 131⟩
def Fld.BOOT_STATUS_NEXT_DROPPED : Fld := ⟨3, 1, .w1c, 0, .num, 131⟩
def Fld.BOOT_STATUS_ERROR : Fld := ⟨8, 8, .ro, 0, .num, 131⟩
def Fld.BOOT_STATUS_ERR_STAGE : Fld := ⟨16, 4, .ro, 0, .num, 131⟩
def Reg.BOOT_CTRL : Nat := 0x3F00008
def Fld.BOOT_CTRL_REBOOT : Fld := ⟨0, 1, .wo, 0, .num, 0⟩
def Fld.BOOT_CTRL_TEST : Fld := ⟨1, 1, .wo, 0, .num, 0⟩
def Reg.BOOT_IMAGE_SEQ : Nat := 0x3F0000C
def Fld.BOOT_IMAGE_SEQ_SEQ : Fld := ⟨0, 32, .ro, 0, .num, 131⟩
def Reg.BOOT_READY_US : Nat := 0x3F00010
def Fld.BOOT_READY_US_US : Fld := ⟨0, 32, .ro, 0, .num, 131⟩
def Reg.BOOT_IMG_SKIP : Nat := 0x3F00014
def Fld.BOOT_IMG_SKIP_COUNT : Fld := ⟨0, 16, .ro, 0, .num, 131⟩
def Reg.ECL_CTRL : Nat := 0x3F00040
def Fld.ECL_CTRL_GO : Fld := ⟨0, 1, .wo, 0, .num, 0⟩
def Reg.ECL_STATUS : Nat := 0x3F00044
def Fld.ECL_STATUS_ACTIVE : Fld := ⟨0, 1, .ro, 0, .num, 131⟩
def Fld.ECL_STATUS_DONE : Fld := ⟨1, 1, .w1c, 0, .num, 131⟩
def Fld.ECL_STATUS_DROPPED : Fld := ⟨2, 1, .w1c, 0, .num, 131⟩
def Reg.ECL_COUNT : Nat := 0x3F00048
def Fld.ECL_COUNT_COUNT : Fld := ⟨0, 32, .ro, 0, .num, 131⟩
def Reg.ECL_LAST_US : Nat := 0x3F0004C
def Fld.ECL_LAST_US_US : Fld := ⟨0, 16, .ro, 0, .num, 131⟩
def Reg.ECL_WR_DROP : Nat := 0x3F00050
def Fld.ECL_WR_DROP_COUNT : Fld := ⟨0, 32, .rc, 0, .num, 131⟩
def Reg.PWR_STATUS : Nat := 0x3F00080
def Fld.PWR_STATUS_P48V_OK : Fld := ⟨0, 1, .ro, 0, .num, 131⟩
def Fld.PWR_STATUS_LOSS_SEEN : Fld := ⟨1, 1, .w1c, 0, .num, 0⟩
def Fld.PWR_STATUS_THERM_TRIP : Fld := ⟨2, 1, .w1c, 0, .num, 0⟩
def Fld.PWR_STATUS_THERM_ALARM : Fld := ⟨3, 1, .ro, 0, .num, 131⟩
def Reg.PWR_TEMP : Nat := 0x3F00084
def Fld.PWR_TEMP_DEG_C : Fld := ⟨0, 8, .ro, 0, .num, 131⟩
def Reg.FLASH_ADDR : Nat := 0x3F00100
def Fld.FLASH_ADDR_ADDR : Fld := ⟨0, 26, .rw, 0, .num, 131⟩
def Reg.FLASH_CMD : Nat := 0x3F00104
def Fld.FLASH_CMD_CMD : Fld := ⟨0, 2, .wo, 0, .num, 0⟩
def Reg.FLASH_STATUS : Nat := 0x3F00108
def Fld.FLASH_STATUS_BUSY : Fld := ⟨0, 1, .ro, 0, .num, 131⟩
def Fld.FLASH_STATUS_DENIED : Fld := ⟨1, 1, .w1c, 0, .num, 131⟩
def Fld.FLASH_STATUS_DROPPED : Fld := ⟨2, 1, .w1c, 0, .num, 131⟩
def Reg.FLASH_BUF (i0 : Nat) : Nat := 0x3F00200 + i0 * 0x4
def Fld.FLASH_BUF_DATA : Fld := ⟨0, 32, .rw, 0, .num, 131⟩
def Reg.FUSE_PROG_CTRL : Nat := 0x3F00400
def Fld.FUSE_PROG_CTRL_FIELD : Fld := ⟨0, 4, .wo, 0, .num, 0⟩
def Fld.FUSE_PROG_CTRL_GO : Fld := ⟨31, 1, .wo, 0, .num, 0⟩
def Reg.FUSE_PROG_STATUS : Nat := 0x3F00404
def Fld.FUSE_PROG_STATUS_BUSY : Fld := ⟨0, 1, .ro, 0, .num, 131⟩
def Fld.FUSE_PROG_STATUS_REJECTED : Fld := ⟨1, 1, .w1c, 0, .num, 131⟩
def Reg.FUSE_PROG_DATA (i0 : Nat) : Nat := 0x3F00420 + i0 * 0x4
def Fld.FUSE_PROG_DATA_DIGEST : Fld := ⟨0, 32, .rw, 0, .num, 131⟩

/-! Registers of pair (R613). -/

def Reg.PAIR_STATUS : Nat := 0x3009000
def Fld.PAIR_STATUS_PAIR_MODE : Fld := ⟨0, 1, .ro, 0, .image, 131⟩
def Fld.PAIR_STATUS_PARTNER_UP : Fld := ⟨1, 1, .ro, 0, .num, 131⟩
def Fld.PAIR_STATUS_PAIR_ALIVE_IN : Fld := ⟨2, 1, .ro, 0, .num, 131⟩
def Fld.PAIR_STATUS_MISS : Fld := ⟨3, 3, .ro, 0, .num, 131⟩
def Reg.PAIR_EVENT : Nat := 0x3009004
def Fld.PAIR_EVENT_LOSS : Fld := ⟨0, 1, .w1c, 0, .num, 131⟩
def Fld.PAIR_EVENT_FENCED : Fld := ⟨1, 1, .w1c, 0, .num, 131⟩
def Fld.PAIR_EVENT_TAKEOVER_REFUSED : Fld := ⟨2, 1, .w1c, 0, .num, 131⟩
def Fld.PAIR_EVENT_ROLE_CONFLICT : Fld := ⟨3, 1, .w1c, 0, .num, 131⟩
def Fld.PAIR_EVENT_BAD_CONFIG : Fld := ⟨4, 1, .w1c, 0, .num, 131⟩
def Fld.PAIR_EVENT_HANDOVER_DROPPED : Fld := ⟨5, 1, .w1c, 0, .num, 131⟩
def Reg.PAIR_HANDOVER : Nat := 0x3009008
def Fld.PAIR_HANDOVER_PARTS : Fld := ⟨0, 16, .wo, 0, .num, 0⟩
def Reg.PAIR_MIRRORED : Nat := 0x300900C
def Fld.PAIR_MIRRORED_PARTS : Fld := ⟨0, 16, .ro, 0, .image, 131⟩
def Reg.PAIR_PRIMARY : Nat := 0x3009010
def Fld.PAIR_PRIMARY_PARTS : Fld := ⟨0, 16, .ro, 0, .image, 131⟩
def Reg.PAIR_SYNCED : Nat := 0x3009014
def Fld.PAIR_SYNCED_PARTS : Fld := ⟨0, 16, .ro, 0, .num, 143⟩
def Reg.PAIR_NS_MIR_LO : Nat := 0x3009018
def Fld.PAIR_NS_MIR_LO_NS : Fld := ⟨0, 32, .ro, 0, .image, 131⟩
def Reg.PAIR_NS_MIR_HI : Nat := 0x300901C
def Fld.PAIR_NS_MIR_HI_NS : Fld := ⟨0, 32, .ro, 0, .image, 131⟩
def Reg.PAIR_MIR_FIRST (i0 : Nat) : Nat := 0x3009100 + i0 * 0x10
def Fld.PAIR_MIR_FIRST_GRANULE : Fld := ⟨0, 25, .ro, 0, .image, 131⟩
def Reg.PAIR_MIR_COUNT (i0 : Nat) : Nat := 0x3009104 + i0 * 0x10
def Fld.PAIR_MIR_COUNT_GRANULES : Fld := ⟨0, 25, .ro, 0, .image, 131⟩
def Reg.PAIR_MQ_SHARE (i0 : Nat) : Nat := 0x3009108 + i0 * 0x10
def Fld.PAIR_MQ_SHARE_MIB : Fld := ⟨0, 7, .ro, 0, .image, 131⟩
def Reg.PAIR_CNT_STALL (i0 : Nat) : Nat := 0x300910C + i0 * 0x10
def Fld.PAIR_CNT_STALL_COUNT : Fld := ⟨0, 32, .rc, 0, .num, 139⟩
def Reg.PAIR_ADDR_IID_LO (i0 i1 : Nat) : Nat := 0x3009200 + i0 * 0x20 + i1 * 0x8
def Fld.PAIR_ADDR_IID_LO_IID : Fld := ⟨0, 32, .ro, 0, .image, 131⟩
def Reg.PAIR_ADDR_IID_HI (i0 i1 : Nat) : Nat := 0x3009204 + i0 * 0x20 + i1 * 0x8
def Fld.PAIR_ADDR_IID_HI_IID : Fld := ⟨0, 32, .ro, 0, .image, 131⟩

/-! Registers of telemetry and debug. -/

def Reg.DBG_ALARM : Nat := 0x3D00000
def Fld.DBG_ALARM_ALARMS : Fld := ⟨0, 10, .w1c, 0, .num, 131⟩
def Reg.DBG_CTRL : Nat := 0x3D00004
def Fld.DBG_CTRL_TAIL_RESUME : Fld := ⟨0, 1, .wo, 0, .num, 0⟩
def Fld.DBG_CTRL_STOP_GO : Fld := ⟨1, 1, .wo, 0, .num, 0⟩
def Fld.DBG_CTRL_STOP_ON_ALARM : Fld := ⟨2, 1, .rw, 0, .image, 131⟩
def Reg.DBG_STATUS : Nat := 0x3D00008
def Fld.DBG_STATUS_TAIL_FROZEN : Fld := ⟨0, 1, .ro, 0, .num, 131⟩
def Fld.DBG_STATUS_STOP_PENDING : Fld := ⟨1, 1, .ro, 0, .num, 135⟩
def Fld.DBG_STATUS_STOPPED : Fld := ⟨2, 1, .ro, 0, .num, 135⟩
def Fld.DBG_STATUS_DUMP_DONE : Fld := ⟨3, 1, .w1c, 0, .num, 131⟩
def Reg.DBG_TAIL_ORBIT_LO : Nat := 0x3D00010
def Fld.DBG_TAIL_ORBIT_LO_ORBIT : Fld := ⟨0, 32, .ro, 0, .num, 131⟩
def Reg.DBG_TAIL_ORBIT_HI : Nat := 0x3D00014
def Fld.DBG_TAIL_ORBIT_HI_ORBIT : Fld := ⟨0, 16, .ro, 0, .num, 131⟩
def Reg.DBG_STOP_ORBIT_LO : Nat := 0x3D00018
def Fld.DBG_STOP_ORBIT_LO_ORBIT : Fld := ⟨0, 32, .ro, 0, .num, 131⟩
def Reg.DBG_STOP_ORBIT_HI : Nat := 0x3D0001C
def Fld.DBG_STOP_ORBIT_HI_ORBIT : Fld := ⟨0, 16, .ro, 0, .num, 131⟩
def Reg.DBG_DUMP_LO : Nat := 0x3D00020
def Fld.DBG_DUMP_LO_ADDR : Fld := ⟨0, 32, .rw, 0, .num, 131⟩
def Reg.DBG_DUMP_HI : Nat := 0x3D00024
def Fld.DBG_DUMP_HI_ADDR : Fld := ⟨0, 16, .rw, 0, .num, 131⟩
def Reg.DBG_SAMPLE_EVERY : Nat := 0x3D00028
def Fld.DBG_SAMPLE_EVERY_ORBITS : Fld := ⟨0, 16, .rw, 0, .image, 131⟩
def Reg.DBG_RATE : Nat := 0x3D0002C
def Fld.DBG_RATE_ERR : Fld := ⟨0, 8, .rw, 0, .image, 131⟩
def Fld.DBG_RATE_TRACE : Fld := ⟨8, 8, .rw, 0, .image, 131⟩
def Fld.DBG_RATE_SAMPLE : Fld := ⟨16, 8, .rw, 0, .image, 131⟩
def Reg.DBG_DROP (i0 : Nat) : Nat := 0x3D00030 + i0 * 0x4
def Fld.DBG_DROP_COUNT : Fld := ⟨0, 32, .rc, 0, .num, 131⟩
def Reg.DBG_TIME_SLEW : Nat := 0x3D00080
def Fld.DBG_TIME_SLEW_PPB : Fld := ⟨0, 32, .rw, 0, .num, 131⟩
def Reg.DBG_TIME_STEP : Nat := 0x3D00084
def Fld.DBG_TIME_STEP_NS : Fld := ⟨0, 32, .wo, 0, .num, 0⟩
def Reg.DBG_TAIL_SEL : Nat := 0x3D00100
def Fld.DBG_TAIL_SEL_UNIT : Fld := ⟨0, 16, .rw, 0, .num, 131⟩
def Fld.DBG_TAIL_SEL_ENTRY : Fld := ⟨16, 6, .rw, 0, .num, 131⟩
def Reg.DBG_TAIL_DATA (i0 : Nat) : Nat := 0x3D00110 + i0 * 0x4
def Fld.DBG_TAIL_DATA_WORD : Fld := ⟨0, 32, .ro, 0, .num, 131⟩
def Reg.DBG_TW_CTRL (i0 : Nat) : Nat := 0x3D00200 + i0 * 0x8
def Fld.DBG_TW_CTRL_MODE : Fld := ⟨0, 2, .rw, 0, .num, 139⟩
def Reg.DBG_TW_TAG (i0 : Nat) : Nat := 0x3D00204 + i0 * 0x8
def Fld.DBG_TW_TAG_TAG : Fld := ⟨0, 16, .rw, 0, .num, 139⟩
def Fld.DBG_TW_TAG_MASK : Fld := ⟨16, 16, .rw, 0, .num, 139⟩
def Reg.DBG_DEC_CTRL : Nat := 0x3D00400
def Fld.DBG_DEC_CTRL_PART : Fld := ⟨0, 4, .wo, 0, .num, 0⟩
def Fld.DBG_DEC_CTRL_BLOCKS : Fld := ⟨4, 11, .wo, 0, .num, 0⟩
def Fld.DBG_DEC_CTRL_GO : Fld := ⟨31, 1, .wo, 0, .num, 0⟩
def Reg.DBG_DEC_SRC_LO : Nat := 0x3D00404
def Fld.DBG_DEC_SRC_LO_PRA : Fld := ⟨0, 32, .rw, 0, .num, 131⟩
def Reg.DBG_DEC_SRC_HI : Nat := 0x3D00408
def Fld.DBG_DEC_SRC_HI_PRA : Fld := ⟨0, 16, .rw, 0, .num, 131⟩
def Reg.DBG_DEC_DST_LO : Nat := 0x3D0040C
def Fld.DBG_DEC_DST_LO_PRA : Fld := ⟨0, 32, .rw, 0, .num, 131⟩
def Reg.DBG_DEC_DST_HI : Nat := 0x3D00410
def Fld.DBG_DEC_DST_HI_PRA : Fld := ⟨0, 16, .rw, 0, .num, 131⟩
def Reg.DBG_DEC_STATUS : Nat := 0x3D00414
def Fld.DBG_DEC_STATUS_BUSY : Fld := ⟨0, 1, .ro, 0, .num, 131⟩
def Fld.DBG_DEC_STATUS_RESULT : Fld := ⟨8, 8, .ro, 0, .num, 131⟩
def Reg.DBG_CAP_LO (i0 : Nat) : Nat := 0x3D01000 + i0 * 0x40
def Fld.DBG_CAP_LO_PRA : Fld := ⟨0, 32, .rw, 0, .num, 131⟩
def Reg.DBG_CAP_HI (i0 : Nat) : Nat := 0x3D01004 + i0 * 0x40
def Fld.DBG_CAP_HI_PRA : Fld := ⟨0, 16, .rw, 0, .num, 131⟩
def Reg.DBG_CAP_LEN (i0 : Nat) : Nat := 0x3D01008 + i0 * 0x40
def Fld.DBG_CAP_LEN_UNITS : Fld := ⟨0, 16, .rw, 0, .num, 131⟩
def Reg.DBG_CAP_STATUS (i0 : Nat) : Nat := 0x3D0100C + i0 * 0x40
def Fld.DBG_CAP_STATUS_CAP_BAD : Fld := ⟨0, 1, .ro, 0, .num, 139⟩
def Fld.DBG_CAP_STATUS_REC_ACTIVE : Fld := ⟨1, 1, .ro, 0, .num, 139⟩
def Fld.DBG_CAP_STATUS_REC_FULL : Fld := ⟨2, 1, .ro, 0, .num, 139⟩
def Fld.DBG_CAP_STATUS_REC_OVERFLOW : Fld := ⟨3, 1, .ro, 0, .num, 139⟩
def Fld.DBG_CAP_STATUS_REPLAY_ACTIVE : Fld := ⟨4, 1, .ro, 0, .num, 139⟩
def Fld.DBG_CAP_STATUS_REPLAY_DONE : Fld := ⟨5, 1, .ro, 0, .num, 139⟩
def Fld.DBG_CAP_STATUS_DIVERGED : Fld := ⟨6, 1, .ro, 0, .num, 139⟩
def Reg.DBG_CAP_DROP (i0 : Nat) : Nat := 0x3D01010 + i0 * 0x40
def Fld.DBG_CAP_DROP_COUNT : Fld := ⟨0, 32, .rc, 0, .num, 139⟩
def Reg.DBG_REC_START_LO (i0 : Nat) : Nat := 0x3D01014 + i0 * 0x40
def Fld.DBG_REC_START_LO_ORBIT : Fld := ⟨0, 32, .ro, 0, .num, 139⟩
def Reg.DBG_REC_START_HI (i0 : Nat) : Nat := 0x3D01018 + i0 * 0x40
def Fld.DBG_REC_START_HI_ORBIT : Fld := ⟨0, 16, .ro, 0, .num, 139⟩
def Reg.DBG_REPLAY_CTRL (i0 : Nat) : Nat := 0x3D0101C + i0 * 0x40
def Fld.DBG_REPLAY_CTRL_GO : Fld := ⟨0, 1, .wo, 0, .num, 0⟩

/-! Registers of panel, spares and ageing. -/

def Reg.PANEL_STATUS : Nat := 0x3F04000
def Fld.PANEL_STATUS_TOUCHING : Fld := ⟨0, 1, .ro, 0, .num, 131⟩
def Fld.PANEL_STATUS_CAGE_PRESENT : Fld := ⟨1, 2, .ro, 0, .num, 131⟩
def Fld.PANEL_STATUS_IDENTIFY : Fld := ⟨3, 1, .ro, 0, .num, 131⟩
def Fld.PANEL_STATUS_REMOVING : Fld := ⟨4, 1, .ro, 0, .num, 131⟩
def Reg.PANEL_EVENT : Nat := 0x3F04004
def Fld.PANEL_EVENT_SHORT_TOUCH : Fld := ⟨0, 1, .w1c, 0, .num, 131⟩
def Fld.PANEL_EVENT_LONG_TOUCH : Fld := ⟨1, 1, .w1c, 0, .num, 131⟩
def Fld.PANEL_EVENT_EJECT_PRESS : Fld := ⟨2, 1, .w1c, 0, .num, 131⟩
def Fld.PANEL_EVENT_CAGE_CHANGE : Fld := ⟨3, 1, .w1c, 0, .num, 131⟩
def Fld.PANEL_EVENT_REMOVAL_CANCELLED : Fld := ⟨4, 1, .w1c, 0, .num, 131⟩
def Reg.PANEL_CTRL : Nat := 0x3F04008
def Fld.PANEL_CTRL_IDENTIFY : Fld := ⟨0, 1, .rw, 0, .num, 131⟩
def Fld.PANEL_CTRL_REMOVE : Fld := ⟨1, 1, .wo, 0, .num, 0⟩
def Fld.PANEL_CTRL_CANCEL : Fld := ⟨2, 1, .wo, 0, .num, 0⟩
def Reg.PANEL_DRAIN_S : Nat := 0x3F0400C
def Fld.PANEL_DRAIN_S_SECONDS : Fld := ⟨0, 8, .rw, 0, .image, 131⟩
def Reg.SPR_CL_CMD : Nat := 0x3F05000
def Fld.SPR_CL_CMD_CLUSTER : Fld := ⟨0, 4, .wo, 0, .num, 0⟩
def Fld.SPR_CL_CMD_GO : Fld := ⟨31, 1, .wo, 0, .num, 0⟩
def Reg.SPR_CL_MAP : Nat := 0x3F05004
def Fld.SPR_CL_MAP_REPLACED : Fld := ⟨0, 4, .ro, 0, .image, 129⟩
def Fld.SPR_CL_MAP_USED : Fld := ⟨4, 1, .ro, 0, .image, 129⟩
def Reg.SPR_CTRL : Nat := 0x3F05008
def Fld.SPR_CTRL_AUTO_CLUSTER : Fld := ⟨0, 1, .rw, 0, .image, 131⟩
def Fld.SPR_CTRL_AUTO_COLUMN : Fld := ⟨1, 1, .rw, 0, .image, 131⟩
def Reg.SPR_STATUS : Nat := 0x3F0500C
def Fld.SPR_STATUS_CL_DROPPED : Fld := ⟨0, 1, .w1c, 0, .num, 131⟩
def Fld.SPR_STATUS_COLUMNS_EXHAUSTED : Fld := ⟨1, 1, .w1c, 0, .num, 131⟩
def Reg.SPR_COL_THRESH : Nat := 0x3F05010
def Fld.SPR_COL_THRESH_COUNT : Fld := ⟨0, 8, .rw, 0, .image, 131⟩
def Reg.AGE_PERIODS : Nat := 0x3F06000
def Fld.AGE_PERIODS_COUNT : Fld := ⟨0, 32, .ro, 0, .num, 129⟩
def Reg.AGE_GB (i0 : Nat) : Nat := 0x3F06010 + i0 * 0x4
def Fld.AGE_GB_STEPS : Fld := ⟨0, 4, .ro, 0, .image, 129⟩
def Fld.AGE_GB_AT_MAX : Fld := ⟨4, 1, .w1c, 0, .num, 129⟩
def Reg.AGE_PD_MIN : Nat := 0x3F06020
def Fld.AGE_PD_MIN_PS : Fld := ⟨0, 16, .rw, 0, .image, 131⟩
def Reg.AGE_EYE_MIN : Nat := 0x3F06024
def Fld.AGE_EYE_MIN_MV : Fld := ⟨0, 16, .rw, 0, .image, 131⟩
def Reg.AGE_PD (i0 : Nat) : Nat := 0x3F06100 + i0 * 0x4
def Fld.AGE_PD_PS : Fld := ⟨0, 16, .ro, 0, .num, 131⟩
def Reg.AGE_EYE (i0 : Nat) : Nat := 0x3F06200 + i0 * 0x4
def Fld.AGE_EYE_MV : Fld := ⟨0, 16, .ro, 0, .num, 131⟩
def Fld.AGE_EYE_LOW : Fld := ⟨16, 1, .w1c, 0, .num, 131⟩

end Sys2Proof.Machine
end

