-- ==== Sys2Proof/Machine/RegTable.lean ====
section
/-! DEFINITION. The register tables of spec/ as lists, block by block, and the look-up of a key in them (R12, R42). -/

namespace Sys2Proof.Machine

def rowsHdr0 : List RegRow := [
  ⟨"HDR_MAGIC", 0x0, [], [Fld.HDR_MAGIC_MAGIC], .whole⟩,
  ⟨"HDR_FORMAT", 0x4, [], [Fld.HDR_FORMAT_VERSION], .whole⟩,
  ⟨"HDR_CAP_PTR", 0x8, [], [Fld.HDR_CAP_PTR_OFFSET], .whole⟩,
  ⟨"HDR_HAWK", 0xC, [], [Fld.HDR_HAWK_MAJOR, Fld.HDR_HAWK_MINOR_MAX], .whole⟩,
  ⟨"HDR_DIE_STEP", 0x10, [], [Fld.HDR_DIE_STEP_STEP], .whole⟩,
  ⟨"EP_STATUS", 0x1000, [], [Fld.EP_STATUS_SPEED, Fld.EP_STATUS_WIDTH, Fld.EP_STATUS_FLIT, Fld.EP_STATUS_TAG14, Fld.EP_STATUS_DSTATE], .whole⟩,
  ⟨"EP_EVENT", 0x1004, [], [Fld.EP_EVENT_BAD_WIDTH, Fld.EP_EVENT_CPL_TIMEOUT, Fld.EP_EVENT_UNEXP_CPL, Fld.EP_EVENT_POISON_RX, Fld.EP_EVENT_RXQ_BLOCK], .whole⟩,
  ⟨"EP_WAKE_EN", 0x1008, [], [Fld.EP_WAKE_EN_CAUSES], .whole⟩,
  ⟨"EP_WAKE_CAUSE", 0x100C, [], [Fld.EP_WAKE_CAUSE_CAUSES], .whole⟩,
  ⟨"EP_CNT_UR", 0x1010, [], [Fld.EP_CNT_UR_COUNT], .whole⟩,
  ⟨"EP_CNT_CA", 0x1014, [], [Fld.EP_CNT_CA_COUNT], .whole⟩,
  ⟨"EP_CNT_CPL_TIMEOUT", 0x1018, [], [Fld.EP_CNT_CPL_TIMEOUT_COUNT], .whole⟩,
  ⟨"EP_CNT_RXQ_BLOCK", 0x101C, [], [Fld.EP_CNT_RXQ_BLOCK_COUNT], .whole⟩,
  ⟨"EP_VF_APT", 0x1100, [(64, 0x4)], [Fld.EP_VF_APT_BASE_GIB], .whole⟩]

def rowsHdr1 : List RegRow := [
  ⟨"MSIX_ADDR", 0x8000, [(256, 0x10)], [Fld.MSIX_ADDR_ADDR], .whole⟩,
  ⟨"MSIX_UPPER", 0x8004, [(256, 0x10)], [Fld.MSIX_UPPER_ADDR], .whole⟩,
  ⟨"MSIX_DATA", 0x8008, [(256, 0x10)], [Fld.MSIX_DATA_DATA], .whole⟩,
  ⟨"MSIX_CTRL", 0x800C, [(256, 0x10)], [Fld.MSIX_CTRL_MASK], .whole⟩,
  ⟨"MSIX_PBA", 0x9000, [(8, 0x4)], [Fld.MSIX_PBA_PENDING], .whole⟩]

/-- The registers of the endpoint block (R377). -/
def rowsHdr : List RegRow := rowsHdr0 ++ rowsHdr1

def rowsOrb0 : List RegRow := [
  ⟨"ORB_COUNT_LO", 0x100000, [], [Fld.ORB_COUNT_LO_COUNT], .lo 4⟩,
  ⟨"ORB_COUNT_HI", 0x100004, [], [Fld.ORB_COUNT_HI_COUNT], .hi 4⟩,
  ⟨"ORB_POS", 0x100008, [], [Fld.ORB_POS_CYCLE], .whole⟩,
  ⟨"DEV_TIME_LO", 0x100010, [], [Fld.DEV_TIME_LO_TIME], .lo 4⟩,
  ⟨"DEV_TIME_HI", 0x100014, [], [Fld.DEV_TIME_HI_TIME], .hi 4⟩,
  ⟨"EPH_CTRL", 0x100100, [], [Fld.EPH_CTRL_COMMIT], .whole⟩,
  ⟨"EPH_STATUS", 0x100104, [], [Fld.EPH_STATUS_COMMIT_PENDING, Fld.EPH_STATUS_BAD_CODE, Fld.EPH_STATUS_WRITE_DROPPED], .whole⟩,
  ⟨"EPH_MODE", 0x100108, [], [Fld.EPH_MODE_SEALED], .whole⟩,
  ⟨"EPH_MODE_ACT", 0x100118, [], [Fld.EPH_MODE_ACT_SEALED], .whole⟩,
  ⟨"EPH_C0_OK", 0x10010C, [], [Fld.EPH_C0_OK_QUALIFIED], .whole⟩,
  ⟨"EPH_COMMIT_ORBIT_LO", 0x100110, [], [Fld.EPH_COMMIT_ORBIT_LO_ORBIT], .lo 4⟩,
  ⟨"EPH_COMMIT_ORBIT_HI", 0x100114, [], [Fld.EPH_COMMIT_ORBIT_HI_ORBIT], .hi 4⟩,
  ⟨"EGR_OVERSIZE_DROP", 0x100200, [(16, 0x4)], [Fld.EGR_OVERSIZE_DROP_COUNT], .whole⟩,
  ⟨"EPH_SLOT", 0x101000, [(256, 0x4)], [Fld.EPH_SLOT_ENTRY0, Fld.EPH_SLOT_ENTRY1, Fld.EPH_SLOT_ENTRY2, Fld.EPH_SLOT_ENTRY3], .whole⟩]

def rowsOrb1 : List RegRow := [
  ⟨"EPH_ACTIVE", 0x102000, [(256, 0x4)], [Fld.EPH_ACTIVE_ENTRY0, Fld.EPH_ACTIVE_ENTRY1, Fld.EPH_ACTIVE_ENTRY2, Fld.EPH_ACTIVE_ENTRY3], .whole⟩]

/-- The registers of the orbit block (R69). -/
def rowsOrb : List RegRow := rowsOrb0 ++ rowsOrb1

def rowsPt0 : List RegRow := [
  ⟨"PT_CTRL", 0x200000, [], [Fld.PT_CTRL_COMMIT], .whole⟩,
  ⟨"PT_STATUS", 0x200004, [], [Fld.PT_STATUS_COMMIT_PENDING, Fld.PT_STATUS_MAP_REJECTED, Fld.PT_STATUS_WRITE_DROPPED, Fld.PT_STATUS_REJECT_CODE], .whole⟩,
  ⟨"PT_MAP", 0x200100, [(34, 0x4)], [Fld.PT_MAP_ENTRY0, Fld.PT_MAP_ENTRY1, Fld.PT_MAP_ENTRY2, Fld.PT_MAP_ENTRY3], .whole⟩,
  ⟨"PT_MAP_ACT", 0x200200, [(34, 0x4)], [Fld.PT_MAP_ACT_ENTRY0, Fld.PT_MAP_ACT_ENTRY1, Fld.PT_MAP_ACT_ENTRY2, Fld.PT_MAP_ACT_ENTRY3], .whole⟩,
  ⟨"PT_EPOCH", 0x200400, [(16, 0x4)], [Fld.PT_EPOCH_EPOCH, Fld.PT_EPOCH_ADVANCE, Fld.PT_EPOCH_ADVANCE_PENDING], .whole⟩,
  ⟨"PT_EPOCH_ERA", 0x200500, [(16, 0x4)], [Fld.PT_EPOCH_ERA_ERA], .whole⟩,
  ⟨"PT_DEBUG", 0x200440, [(16, 0x4)], [Fld.PT_DEBUG_RECORD, Fld.PT_DEBUG_TENSOR_WATCH, Fld.PT_DEBUG_SYNC_TRACE, Fld.PT_DEBUG_TAIL_EXPORT], .whole⟩,
  ⟨"PT_RESET", 0x200480, [], [Fld.PT_RESET_PARTS], .whole⟩,
  ⟨"PT_FREEZE", 0x200484, [], [Fld.PT_FREEZE_PARTS], .whole⟩,
  ⟨"PT_THAW", 0x200488, [], [Fld.PT_THAW_PARTS], .whole⟩,
  ⟨"PT_FROZEN", 0x20048C, [], [Fld.PT_FROZEN_PARTS], .whole⟩,
  ⟨"PT_RESET_BUSY", 0x200490, [], [Fld.PT_RESET_BUSY_PARTS], .whole⟩,
  ⟨"PT_SR_CTRL", 0x2004A0, [], [Fld.PT_SR_CTRL_PART, Fld.PT_SR_CTRL_OP, Fld.PT_SR_CTRL_GO], .whole⟩,
  ⟨"PT_SR_ADDR_LO", 0x2004A4, [], [Fld.PT_SR_ADDR_LO_PRA], .lo 4⟩]

def rowsPt1 : List RegRow := [
  ⟨"PT_SR_ADDR_HI", 0x2004A8, [], [Fld.PT_SR_ADDR_HI_PRA], .hi 4⟩,
  ⟨"PT_SR_STATUS", 0x2004AC, [], [Fld.PT_SR_STATUS_BUSY, Fld.PT_SR_STATUS_RESULT], .whole⟩,
  ⟨"PT_SR_SIZE", 0x2004B0, [], [Fld.PT_SR_SIZE_UNITS], .whole⟩,
  ⟨"PT_JRNL_SEQ_LO", 0x2004C0, [], [Fld.PT_JRNL_SEQ_LO_SEQ], .lo 4⟩,
  ⟨"PT_JRNL_SEQ_HI", 0x2004C4, [], [Fld.PT_JRNL_SEQ_HI_SEQ], .hi 4⟩,
  ⟨"PT_JRNL_LOST", 0x2004C8, [], [Fld.PT_JRNL_LOST_COUNT], .whole⟩,
  ⟨"PT_FLR_STAT", 0x200800, [(64, 0x4)], [Fld.PT_FLR_STAT_SQUASHED, Fld.PT_FLR_STAT_STALE_CPL], .whole⟩]

/-- The registers of the partition block. -/
def rowsPt : List RegRow := rowsPt0 ++ rowsPt1

def rowsMf0 : List RegRow := [
  ⟨"MF_CTRL", 0x400000, [], [Fld.MF_CTRL_SCRUB_EN, Fld.MF_CTRL_REMAP_EN, Fld.MF_CTRL_AUTO_SPARE, Fld.MF_CTRL_SCRUB_PACE], .whole⟩,
  ⟨"MF_STATUS", 0x400004, [], [Fld.MF_STATUS_MAP_LOCKED, Fld.MF_STATUS_SPARE_BUSY, Fld.MF_STATUS_SPARE_STALLED, Fld.MF_STATUS_SPARES_EXHAUSTED, Fld.MF_STATUS_RETIRE_OVERFLOW, Fld.MF_STATUS_INIT_BUSY], .whole⟩,
  ⟨"MF_HASH_KEY", 0x400010, [(4, 0x4)], [Fld.MF_HASH_KEY_KEY], .whole⟩,
  ⟨"MF_SPARE_CMD", 0x400020, [], [Fld.MF_SPARE_CMD_CHANNEL, Fld.MF_SPARE_CMD_GO], .whole⟩,
  ⟨"MF_SPARE_PROGRESS", 0x400024, [], [Fld.MF_SPARE_PROGRESS_GROUPS], .whole⟩,
  ⟨"MF_RETIRE_COUNT", 0x400028, [], [Fld.MF_RETIRE_COUNT_ENTRIES], .whole⟩,
  ⟨"MF_INIT_CMD", 0x40002C, [], [Fld.MF_INIT_CMD_PARTS], .whole⟩,
  ⟨"MF_LAST_ERR_DPA_LO", 0x400030, [], [Fld.MF_LAST_ERR_DPA_LO_DPA], .lo 4⟩,
  ⟨"MF_LAST_ERR_DPA_HI", 0x400034, [], [Fld.MF_LAST_ERR_DPA_HI_DPA], .hi 4⟩,
  ⟨"MF_LAST_ERR_INFO", 0x400038, [], [Fld.MF_LAST_ERR_INFO_STATUS, Fld.MF_LAST_ERR_INFO_OWNER], .whole⟩,
  ⟨"MF_PART_ALARM", 0x400040, [], [Fld.MF_PART_ALARM_UE, Fld.MF_PART_ALARM_TAG], .whole⟩,
  ⟨"MF_FABRIC_ERR", 0x400044, [], [Fld.MF_FABRIC_ERR_CORRECTED, Fld.MF_FABRIC_ERR_UNCORRECTABLE], .whole⟩,
  ⟨"MF_PART_CE", 0x400100, [(16, 0x10)], [Fld.MF_PART_CE_COUNT], .whole⟩,
  ⟨"MF_PART_UE", 0x400104, [(16, 0x10)], [Fld.MF_PART_UE_COUNT], .whole⟩]

def rowsMf1 : List RegRow := [
  ⟨"MF_PART_TAG", 0x400108, [(16, 0x10)], [Fld.MF_PART_TAG_COUNT], .whole⟩,
  ⟨"MF_REMAP_STATUS", 0x40010C, [(16, 0x10)], [Fld.MF_REMAP_STATUS_ENTRIES, Fld.MF_REMAP_STATUS_IN_FLIGHT, Fld.MF_REMAP_STATUS_FULL], .whole⟩,
  ⟨"MF_SPARE_MAP", 0x400200, [(16, 0x4)], [Fld.MF_SPARE_MAP_REPLACED, Fld.MF_SPARE_MAP_VALID], .whole⟩,
  ⟨"MF_CH_CE", 0x401000, [(280, 0x4)], [Fld.MF_CH_CE_COUNT], .whole⟩,
  ⟨"MF_CH_HARD", 0x401800, [(280, 0x4)], [Fld.MF_CH_HARD_COUNT], .whole⟩]

/-- The registers of the memory fabric block. -/
def rowsMf : List RegRow := rowsMf0 ++ rowsMf1

/-- The registers of the scratch block. -/
def rowsScr : List RegRow := [
  ⟨"SCR_OWN", 0x800000, [(16, 0x1000), (24, 0x4)], [Fld.SCR_OWN_OWNER, Fld.SCR_OWN_PENDING], .whole⟩,
  ⟨"SCR_STATUS", 0x800080, [(16, 0x1000)], [Fld.SCR_STATUS_INIT_BUSY, Fld.SCR_STATUS_OWN_COLLIDE, Fld.SCR_STATUS_BAD_OWNER, Fld.SCR_STATUS_UE_ALARM], .whole⟩,
  ⟨"SCR_CE", 0x800084, [(16, 0x1000)], [Fld.SCR_CE_COUNT], .whole⟩,
  ⟨"SCR_UE", 0x800088, [(16, 0x1000)], [Fld.SCR_UE_COUNT], .whole⟩,
  ⟨"SCR_TAG", 0x80008C, [(16, 0x1000)], [Fld.SCR_TAG_COUNT], .whole⟩,
  ⟨"SCR_NOT_OWNER", 0x800090, [(16, 0x1000)], [Fld.SCR_NOT_OWNER_COUNT], .whole⟩,
  ⟨"SCR_CONFLICT", 0x800100, [(16, 0x1000), (24, 0x4)], [Fld.SCR_CONFLICT_COUNT], .whole⟩,
  ⟨"SCR_COLS", 0x800200, [(16, 0x1000), (24, 0x4)], [Fld.SCR_COLS_FUSED, Fld.SCR_COLS_IN_USE], .whole⟩,
  ⟨"SCR_INIT_CMD", 0x810000, [], [Fld.SCR_INIT_CMD_CLUSTERS], .whole⟩]

def rowsCl0 : List RegRow := [
  ⟨"ENG_CMD", 0x1040000, [(16, 0x80000), (4, 0x1000), (16, 0x4)], [Fld.ENG_CMD_DW], .whole⟩,
  ⟨"ENG_QSTAT", 0x1040040, [(16, 0x80000), (4, 0x1000)], [Fld.ENG_QSTAT_FREE, Fld.ENG_QSTAT_CPL_COUNT, Fld.ENG_QSTAT_RUNNING, Fld.ENG_QSTAT_WAITING], .whole⟩,
  ⟨"ENG_CTRL", 0x1040044, [(16, 0x80000), (4, 0x1000)], [Fld.ENG_CTRL_FLUSH, Fld.ENG_CTRL_CPL_POP], .whole⟩,
  ⟨"ENG_STATUS", 0x1040048, [(16, 0x80000), (4, 0x1000)], [Fld.ENG_STATUS_ENABLED, Fld.ENG_STATUS_ACC0_VALID, Fld.ENG_STATUS_ACC1_VALID, Fld.ENG_STATUS_CMDQ_OVERFLOW, Fld.ENG_STATUS_CMD_PARTIAL], .whole⟩,
  ⟨"ENG_CPL", 0x1040050, [(16, 0x80000), (4, 0x1000), (4, 0x4)], [Fld.ENG_CPL_WORD], .whole⟩,
  ⟨"ENG_CC", 0x1040080, [(16, 0x80000), (4, 0x1000), (16, 0x4)], [Fld.ENG_CC_COUNT], .whole⟩,
  ⟨"ENG_LFSR_LO", 0x10400C0, [(16, 0x80000), (4, 0x1000)], [Fld.ENG_LFSR_LO_STATE], .lo 4⟩,
  ⟨"ENG_LFSR_HI", 0x10400C4, [(16, 0x80000), (4, 0x1000)], [Fld.ENG_LFSR_HI_STATE], .hi 4⟩,
  ⟨"ENG_CNT_CMDS", 0x1040100, [(16, 0x80000), (4, 0x1000)], [Fld.ENG_CNT_CMDS_COUNT], .whole⟩,
  ⟨"ENG_CNT_BUSY", 0x1040104, [(16, 0x80000), (4, 0x1000)], [Fld.ENG_CNT_BUSY_COUNT], .whole⟩,
  ⟨"ENG_CNT_MAC", 0x1040108, [(16, 0x80000), (4, 0x1000)], [Fld.ENG_CNT_MAC_COUNT], .whole⟩,
  ⟨"ENG_CNT_STALL_SCR", 0x104010C, [(16, 0x80000), (4, 0x1000)], [Fld.ENG_CNT_STALL_SCR_COUNT], .whole⟩,
  ⟨"ENG_CNT_STALL_TRW", 0x1040110, [(16, 0x80000), (4, 0x1000)], [Fld.ENG_CNT_STALL_TRW_COUNT], .whole⟩,
  ⟨"ENG_CNT_STALL_CPL", 0x1040114, [(16, 0x80000), (4, 0x1000)], [Fld.ENG_CNT_STALL_CPL_COUNT], .whole⟩]

def rowsCl1 : List RegRow := [
  ⟨"ENG_CNT_OVERRUN", 0x1040118, [(16, 0x80000), (4, 0x1000)], [Fld.ENG_CNT_OVERRUN_COUNT], .whole⟩,
  ⟨"ENG_CNT_ERROR", 0x104011C, [(16, 0x80000), (4, 0x1000)], [Fld.ENG_CNT_ERROR_COUNT], .whole⟩,
  ⟨"ENG_CMD_CYCLES", 0x1040120, [(16, 0x80000), (4, 0x1000)], [Fld.ENG_CMD_CYCLES_COUNT], .whole⟩,
  ⟨"CL_EVENT", 0x1044000, [(16, 0x80000)], [Fld.CL_EVENT_REPLACED], .whole⟩,
  ⟨"TRW_LEN", 0x1048000, [(16, 0x80000), (16, 0x40), (8, 0x4)], [Fld.TRW_LEN_LENGTHS], .whole⟩,
  ⟨"TRW_TCTL", 0x1048020, [(16, 0x80000), (16, 0x40)], [Fld.TRW_TCTL_ALPHABET, Fld.TRW_TCTL_COMMIT, Fld.TRW_TCTL_VALID, Fld.TRW_TCTL_ACT_ALPHABET, Fld.TRW_TCTL_REJECTED], .whole⟩,
  ⟨"TRW_STATUS", 0x1049000, [(16, 0x80000), (4, 0x100)], [Fld.TRW_STATUS_FETCHING, Fld.TRW_STATUS_LAST_ERR], .whole⟩,
  ⟨"TRW_LAST_LINES", 0x1049004, [(16, 0x80000), (4, 0x100)], [Fld.TRW_LAST_LINES_LINES], .whole⟩,
  ⟨"TRW_LAST_ERR_LINE", 0x1049008, [(16, 0x80000), (4, 0x100)], [Fld.TRW_LAST_ERR_LINE_LINE], .whole⟩,
  ⟨"TRW_CNT_LINES", 0x1049010, [(16, 0x80000), (4, 0x100)], [Fld.TRW_CNT_LINES_COUNT], .whole⟩,
  ⟨"TRW_CNT_CODED", 0x1049014, [(16, 0x80000), (4, 0x100)], [Fld.TRW_CNT_CODED_COUNT], .whole⟩,
  ⟨"TRW_CNT_RAW", 0x1049018, [(16, 0x80000), (4, 0x100)], [Fld.TRW_CNT_RAW_COUNT], .whole⟩,
  ⟨"TRW_CNT_ZERO", 0x104901C, [(16, 0x80000), (4, 0x100)], [Fld.TRW_CNT_ZERO_COUNT], .whole⟩,
  ⟨"TRW_CNT_ERR", 0x1049020, [(16, 0x80000), (4, 0x100)], [Fld.TRW_CNT_ERR_COUNT], .whole⟩]

def rowsCl2 : List RegRow := [
  ⟨"PX_CTRL", 0x1060000, [(16, 0x80000), (2, 0x1000)], [Fld.PX_CTRL_LOAD, Fld.PX_CTRL_START, Fld.PX_CTRL_RESTART, Fld.PX_CTRL_HALT, Fld.PX_CTRL_AUTORESTART], .whole⟩,
  ⟨"PX_STATE", 0x1060004, [(16, 0x80000), (2, 0x1000)], [Fld.PX_STATE_STATE, Fld.PX_STATE_COMPAT], .whole⟩,
  ⟨"PX_PC", 0x1060008, [(16, 0x80000), (2, 0x1000)], [Fld.PX_PC_OFFSET], .whole⟩,
  ⟨"PX_IMG_PRA_LO", 0x1060010, [(16, 0x80000), (2, 0x1000)], [Fld.PX_IMG_PRA_LO_PRA], .lo 4⟩,
  ⟨"PX_IMG_PRA_HI", 0x1060014, [(16, 0x80000), (2, 0x1000)], [Fld.PX_IMG_PRA_HI_PRA], .hi 4⟩,
  ⟨"PX_LOAD_STATUS", 0x1060018, [(16, 0x80000), (2, 0x1000)], [Fld.PX_LOAD_STATUS_CODE], .whole⟩,
  ⟨"PX_EVENT", 0x106001C, [(16, 0x80000), (2, 0x1000)], [Fld.PX_EVENT_LOAD_DONE, Fld.PX_EVENT_FAULTED, Fld.PX_EVENT_CMD_REJECTED, Fld.PX_EVENT_REPLACED], .whole⟩,
  ⟨"PX_TCAUSE", 0x1060020, [(16, 0x80000), (2, 0x1000)], [Fld.PX_TCAUSE_CAUSE], .whole⟩,
  ⟨"PX_TPC", 0x1060024, [(16, 0x80000), (2, 0x1000)], [Fld.PX_TPC_OFFSET], .whole⟩,
  ⟨"PX_TADDR_LO", 0x1060028, [(16, 0x80000), (2, 0x1000)], [Fld.PX_TADDR_LO_ADDR], .lo 4⟩,
  ⟨"PX_TADDR_HI", 0x106002C, [(16, 0x80000), (2, 0x1000)], [Fld.PX_TADDR_HI_ADDR], .hi 4⟩,
  ⟨"PX_DBELL", 0x1060040, [(16, 0x80000), (2, 0x1000), (8, 0x4)], [Fld.PX_DBELL_WORD], .whole⟩,
  ⟨"PX_CNT_BUNDLES", 0x1060100, [(16, 0x80000), (2, 0x1000)], [Fld.PX_CNT_BUNDLES_COUNT], .whole⟩,
  ⟨"PX_CNT_STALL", 0x1060104, [(16, 0x80000), (2, 0x1000)], [Fld.PX_CNT_STALL_COUNT], .whole⟩]

def rowsCl3 : List RegRow := [
  ⟨"PX_CNT_WAIT", 0x1060108, [(16, 0x80000), (2, 0x1000)], [Fld.PX_CNT_WAIT_COUNT], .whole⟩,
  ⟨"PX_CNT_WCOLLIDE", 0x106010C, [(16, 0x80000), (2, 0x1000)], [Fld.PX_CNT_WCOLLIDE_COUNT], .whole⟩,
  ⟨"PX_CNT_TRAP", 0x1060110, [(16, 0x80000), (2, 0x1000)], [Fld.PX_CNT_TRAP_COUNT], .whole⟩,
  ⟨"PX_CNT_CMDQ_FULL", 0x1060114, [(16, 0x80000), (2, 0x1000)], [Fld.PX_CNT_CMDQ_FULL_COUNT], .whole⟩,
  ⟨"PX_CNT_STORE_ERR", 0x1060118, [(16, 0x80000), (2, 0x1000)], [Fld.PX_CNT_STORE_ERR_COUNT], .whole⟩]

/-- The registers of a cluster window (R43). -/
def rowsCl : List RegRow := rowsCl0 ++ rowsCl1 ++ rowsCl2 ++ rowsCl3

def rowsEth0 : List RegRow := [
  ⟨"ETH_CTRL", 0x2000000, [], [Fld.ETH_CTRL_MODE, Fld.ETH_CTRL_APPLY], .whole⟩,
  ⟨"ETH_STATUS", 0x2000004, [], [Fld.ETH_STATUS_LINK_UP, Fld.ETH_STATUS_CAGE_PRESENT, Fld.ETH_STATUS_CAGE_LOWPOWER, Fld.ETH_STATUS_MODE_CHANGING], .whole⟩,
  ⟨"ETH_RULE_STATUS", 0x2000008, [], [Fld.ETH_RULE_STATUS_LIVE_WRITE, Fld.ETH_RULE_STATUS_BAD_RULE], .whole⟩,
  ⟨"ETH_RX_DROP_SLOW_DEV", 0x200000C, [], [Fld.ETH_RX_DROP_SLOW_DEV_COUNT], .whole⟩,
  ⟨"ETH_MAC_LO", 0x2000010, [(8, 0x8)], [Fld.ETH_MAC_LO_ADDR], .lo 4⟩,
  ⟨"ETH_MAC_HI", 0x2000014, [(8, 0x8)], [Fld.ETH_MAC_HI_ADDR], .hi 4⟩,
  ⟨"ETH_PFX_LO", 0x2000100, [(16, 0x10)], [Fld.ETH_PFX_LO_PREFIX], .lo 4⟩,
  ⟨"ETH_PFX_HI", 0x2000104, [(16, 0x10)], [Fld.ETH_PFX_HI_PREFIX], .hi 4⟩,
  ⟨"ETH_PART_CFG", 0x2000108, [(16, 0x10)], [Fld.ETH_PART_CFG_PFX_EN, Fld.ETH_PART_CFG_DEFAULT], .whole⟩,
  ⟨"ETH_RULE_SHARE", 0x2000200, [(16, 0x4)], [Fld.ETH_RULE_SHARE_FIRST, Fld.ETH_RULE_SHARE_COUNT], .whole⟩,
  ⟨"ETH_RX_SHARE", 0x2000240, [(16, 0x4)], [Fld.ETH_RX_SHARE_UNITS], .whole⟩,
  ⟨"ETH_Q_SHARE", 0x2000280, [(16, 0x4)], [Fld.ETH_Q_SHARE_FIRST, Fld.ETH_Q_SHARE_COUNT], .whole⟩,
  ⟨"ETH_RX_FRAMES", 0x2001000, [(8, 0x20)], [Fld.ETH_RX_FRAMES_COUNT], .whole⟩,
  ⟨"ETH_TX_FRAMES", 0x2001004, [(8, 0x20)], [Fld.ETH_TX_FRAMES_COUNT], .whole⟩]

def rowsEth1 : List RegRow := [
  ⟨"ETH_RX_DROP_FCS", 0x2001008, [(8, 0x20)], [Fld.ETH_RX_DROP_FCS_COUNT], .whole⟩,
  ⟨"ETH_RX_DROP_SIZE", 0x200100C, [(8, 0x20)], [Fld.ETH_RX_DROP_SIZE_COUNT], .whole⟩,
  ⟨"ETH_RX_DROP_CTRL", 0x2001010, [(8, 0x20)], [Fld.ETH_RX_DROP_CTRL_COUNT], .whole⟩,
  ⟨"ETH_RX_DROP_DMAC", 0x2001014, [(8, 0x20)], [Fld.ETH_RX_DROP_DMAC_COUNT], .whole⟩,
  ⟨"ETH_RX_DROP_CSUM", 0x2001018, [(8, 0x20)], [Fld.ETH_RX_DROP_CSUM_COUNT], .whole⟩,
  ⟨"ETH_RX_DROP_FULL", 0x2002000, [(16, 0x20)], [Fld.ETH_RX_DROP_FULL_COUNT], .whole⟩,
  ⟨"ETH_RX_DROP_RULE", 0x2002004, [(16, 0x20)], [Fld.ETH_RX_DROP_RULE_COUNT], .whole⟩,
  ⟨"ETH_RX_DROP_SLOW", 0x2002008, [(16, 0x20)], [Fld.ETH_RX_DROP_SLOW_COUNT], .whole⟩,
  ⟨"ETH_RX_DROP_ECLIPSE", 0x200200C, [(16, 0x20)], [Fld.ETH_RX_DROP_ECLIPSE_COUNT], .whole⟩,
  ⟨"ETH_RX_OCC", 0x2002010, [(16, 0x20)], [Fld.ETH_RX_OCC_BYTES], .whole⟩,
  ⟨"ETH_RX_DELAY", 0x2002014, [(16, 0x20)], [Fld.ETH_RX_DELAY_NS], .whole⟩,
  ⟨"ETH_RULE_CTRL", 0x2100000, [(2048, 0x40)], [Fld.ETH_RULE_CTRL_VALID, Fld.ETH_RULE_CTRL_ACTION, Fld.ETH_RULE_CTRL_CLASS, Fld.ETH_RULE_CTRL_QUEUE], .whole⟩,
  ⟨"ETH_RULE_SEL", 0x2100004, [(2048, 0x40), (4, 0xC)], [Fld.ETH_RULE_SEL_SEL], .whole⟩,
  ⟨"ETH_RULE_LOW", 0x2100008, [(2048, 0x40), (4, 0xC)], [Fld.ETH_RULE_LOW_LOW], .whole⟩]

def rowsEth2 : List RegRow := [
  ⟨"ETH_RULE_HIGH", 0x210000C, [(2048, 0x40), (4, 0xC)], [Fld.ETH_RULE_HIGH_HIGH], .whole⟩,
  ⟨"ETH_RULE_HITS", 0x2100034, [(2048, 0x40)], [Fld.ETH_RULE_HITS_COUNT], .whole⟩,
  ⟨"ETH_SHP_CFG", 0x2200000, [(512, 0x20)], [Fld.ETH_SHP_CFG_PORT, Fld.ETH_SHP_CFG_CLASS, Fld.ETH_SHP_CFG_OVERHEAD, Fld.ETH_SHP_CFG_EN], .whole⟩,
  ⟨"ETH_SHP_REFILL", 0x2200004, [(512, 0x20)], [Fld.ETH_SHP_REFILL_BYTES], .whole⟩,
  ⟨"ETH_SHP_BURST", 0x2200008, [(512, 0x20)], [Fld.ETH_SHP_BURST_BYTES], .whole⟩,
  ⟨"ETH_SHP_CREDIT", 0x220000C, [(512, 0x20)], [Fld.ETH_SHP_CREDIT_CREDIT], .whole⟩,
  ⟨"ETH_EQ_DEPTH", 0x2200010, [(512, 0x20)], [Fld.ETH_EQ_DEPTH_BYTES], .whole⟩,
  ⟨"ETH_EQ_DELAY", 0x2200014, [(512, 0x20)], [Fld.ETH_EQ_DELAY_NS], .whole⟩]

/-- The registers of the Ethernet block. -/
def rowsEth : List RegRow := rowsEth0 ++ rowsEth1 ++ rowsEth2

def rowsSrmt0 : List RegRow := [
  ⟨"SRMT_CTRL", 0x2800000, [], [Fld.SRMT_CTRL_UDP_PORT], .whole⟩,
  ⟨"SRMT_STATUS", 0x2800004, [], [Fld.SRMT_STATUS_RESIDENT, Fld.SRMT_STATUS_MISS], .whole⟩,
  ⟨"SRMT_CC_CWND_INIT", 0x2800010, [], [Fld.SRMT_CC_CWND_INIT_BYTES], .whole⟩,
  ⟨"SRMT_CC_CWND_MIN", 0x2800014, [], [Fld.SRMT_CC_CWND_MIN_BYTES], .whole⟩,
  ⟨"SRMT_CC_CWND_MAX", 0x2800018, [], [Fld.SRMT_CC_CWND_MAX_BYTES], .whole⟩,
  ⟨"SRMT_CC_AI", 0x280001C, [], [Fld.SRMT_CC_AI_BYTES], .whole⟩,
  ⟨"SRMT_CTX_COUNT", 0x2801000, [(16, 0x40)], [Fld.SRMT_CTX_COUNT_COUNT], .whole⟩,
  ⟨"SRMT_SHARES", 0x2801004, [(16, 0x40)], [Fld.SRMT_SHARES_RESIDENT, Fld.SRMT_SHARES_MISS], .whole⟩,
  ⟨"SRMT_WIN_SHARE", 0x2801008, [(16, 0x40)], [Fld.SRMT_WIN_SHARE_COUNT], .whole⟩,
  ⟨"SRMT_CNT_BAD_PKT", 0x2801010, [(16, 0x40)], [Fld.SRMT_CNT_BAD_PKT_COUNT], .whole⟩,
  ⟨"SRMT_CNT_STALE", 0x2801014, [(16, 0x40)], [Fld.SRMT_CNT_STALE_COUNT], .whole⟩,
  ⟨"SRMT_CNT_AUTH", 0x2801018, [(16, 0x40)], [Fld.SRMT_CNT_AUTH_COUNT], .whole⟩,
  ⟨"SRMT_CNT_DUP", 0x280101C, [(16, 0x40)], [Fld.SRMT_CNT_DUP_COUNT], .whole⟩,
  ⟨"SRMT_CNT_MISS", 0x2801020, [(16, 0x40)], [Fld.SRMT_CNT_MISS_COUNT], .whole⟩]

def rowsSrmt1 : List RegRow := [
  ⟨"SRMT_CNT_MISS_DROP", 0x2801024, [(16, 0x40)], [Fld.SRMT_CNT_MISS_DROP_COUNT], .whole⟩,
  ⟨"SRMT_CNT_RNR", 0x2801028, [(16, 0x40)], [Fld.SRMT_CNT_RNR_COUNT], .whole⟩,
  ⟨"SRMT_CNT_RESEND", 0x280102C, [(16, 0x40)], [Fld.SRMT_CNT_RESEND_COUNT], .whole⟩,
  ⟨"SRMT_CNT_EXPIRY", 0x2801030, [(16, 0x40)], [Fld.SRMT_CNT_EXPIRY_COUNT], .whole⟩,
  ⟨"SRMT_CNT_CQ_FULL", 0x2801034, [(16, 0x40)], [Fld.SRMT_CNT_CQ_FULL_COUNT], .whole⟩,
  ⟨"SRMT_CNT_CONN_ERR", 0x2801038, [(16, 0x40)], [Fld.SRMT_CNT_CONN_ERR_COUNT], .whole⟩]

/-- The registers of the SRMT block. -/
def rowsSrmt : List RegRow := rowsSrmt0 ++ rowsSrmt1

def rowsTl0 : List RegRow := [
  ⟨"TL_CTRL", 0x3000000, [(9, 0x1000)], [Fld.TL_CTRL_ENABLE, Fld.TL_CTRL_RETRAIN], .whole⟩,
  ⟨"TL_STATUS", 0x3000004, [(9, 0x1000)], [Fld.TL_STATUS_STATE, Fld.TL_STATUS_PEER_ECLIPSE, Fld.TL_STATUS_OWNER], .whole⟩,
  ⟨"TL_EVENT", 0x3000008, [(9, 0x1000)], [Fld.TL_EVENT_LINK_DOWN, Fld.TL_EVENT_RETRY_EXHAUSTED, Fld.TL_EVENT_PROTOCOL, Fld.TL_EVENT_CREDIT_OVERRUN, Fld.TL_EVENT_ECLIPSE_LONG], .whole⟩,
  ⟨"TL_PEER_CREDIT", 0x300000C, [(9, 0x1000)], [Fld.TL_PEER_CREDIT_P, Fld.TL_PEER_CREDIT_CPL], .whole⟩,
  ⟨"TL_TIME_OFFSET_LO", 0x3000010, [(9, 0x1000)], [Fld.TL_TIME_OFFSET_LO_OFFSET], .lo 4⟩,
  ⟨"TL_TIME_OFFSET_HI", 0x3000014, [(9, 0x1000)], [Fld.TL_TIME_OFFSET_HI_OFFSET], .hi 4⟩,
  ⟨"TL_DELAY", 0x3000018, [(9, 0x1000)], [Fld.TL_DELAY_NS], .whole⟩,
  ⟨"TL_ASYM", 0x300001C, [(9, 0x1000)], [Fld.TL_ASYM_NS], .whole⟩,
  ⟨"TL_CNT_CRC", 0x3000040, [(9, 0x1000)], [Fld.TL_CNT_CRC_COUNT], .whole⟩,
  ⟨"TL_CNT_RETRY", 0x3000044, [(9, 0x1000)], [Fld.TL_CNT_RETRY_COUNT], .whole⟩,
  ⟨"TL_CNT_DROP", 0x3000048, [(9, 0x1000)], [Fld.TL_CNT_DROP_COUNT], .whole⟩,
  ⟨"TL_CNT_MALFORMED", 0x300004C, [(9, 0x1000)], [Fld.TL_CNT_MALFORMED_COUNT], .whole⟩,
  ⟨"TL_CNT_WRITE_ERR", 0x3000050, [(9, 0x1000)], [Fld.TL_CNT_WRITE_ERR_COUNT], .whole⟩,
  ⟨"TL_CNT_UNOWNED", 0x3000054, [(9, 0x1000)], [Fld.TL_CNT_UNOWNED_COUNT], .whole⟩]

def rowsTl1 : List RegRow := [
  ⟨"TL_CNT_STALE_CPL", 0x3000058, [(9, 0x1000)], [Fld.TL_CNT_STALE_CPL_COUNT], .whole⟩,
  ⟨"TL_CNT_RX_MSG", 0x300005C, [(9, 0x1000)], [Fld.TL_CNT_RX_MSG_COUNT], .whole⟩,
  ⟨"TL_CNT_TX_MSG", 0x3000060, [(9, 0x1000)], [Fld.TL_CNT_TX_MSG_COUNT], .whole⟩,
  ⟨"PAIR_STATUS", 0x3009000, [], [Fld.PAIR_STATUS_PAIR_MODE, Fld.PAIR_STATUS_PARTNER_UP, Fld.PAIR_STATUS_PAIR_ALIVE_IN, Fld.PAIR_STATUS_MISS], .whole⟩,
  ⟨"PAIR_EVENT", 0x3009004, [], [Fld.PAIR_EVENT_LOSS, Fld.PAIR_EVENT_FENCED, Fld.PAIR_EVENT_TAKEOVER_REFUSED, Fld.PAIR_EVENT_ROLE_CONFLICT, Fld.PAIR_EVENT_BAD_CONFIG, Fld.PAIR_EVENT_HANDOVER_DROPPED], .whole⟩,
  ⟨"PAIR_HANDOVER", 0x3009008, [], [Fld.PAIR_HANDOVER_PARTS], .whole⟩,
  ⟨"PAIR_MIRRORED", 0x300900C, [], [Fld.PAIR_MIRRORED_PARTS], .whole⟩,
  ⟨"PAIR_PRIMARY", 0x3009010, [], [Fld.PAIR_PRIMARY_PARTS], .whole⟩,
  ⟨"PAIR_SYNCED", 0x3009014, [], [Fld.PAIR_SYNCED_PARTS], .whole⟩,
  ⟨"PAIR_NS_MIR_LO", 0x3009018, [], [Fld.PAIR_NS_MIR_LO_NS], .lo 4⟩,
  ⟨"PAIR_NS_MIR_HI", 0x300901C, [], [Fld.PAIR_NS_MIR_HI_NS], .hi 4⟩,
  ⟨"PAIR_MIR_FIRST", 0x3009100, [(16, 0x10)], [Fld.PAIR_MIR_FIRST_GRANULE], .whole⟩,
  ⟨"PAIR_MIR_COUNT", 0x3009104, [(16, 0x10)], [Fld.PAIR_MIR_COUNT_GRANULES], .whole⟩,
  ⟨"PAIR_MQ_SHARE", 0x3009108, [(16, 0x10)], [Fld.PAIR_MQ_SHARE_MIB], .whole⟩]

def rowsTl2 : List RegRow := [
  ⟨"PAIR_CNT_STALL", 0x300910C, [(16, 0x10)], [Fld.PAIR_CNT_STALL_COUNT], .whole⟩,
  ⟨"PAIR_ADDR_IID_LO", 0x3009200, [(16, 0x20), (4, 0x8)], [Fld.PAIR_ADDR_IID_LO_IID], .lo 4⟩,
  ⟨"PAIR_ADDR_IID_HI", 0x3009204, [(16, 0x20), (4, 0x8)], [Fld.PAIR_ADDR_IID_HI_IID], .hi 4⟩]

/-- The registers of the Tether and pair block. -/
def rowsTl : List RegRow := rowsTl0 ++ rowsTl1 ++ rowsTl2

def rowsDma0 : List RegRow := [
  ⟨"DMA_MODE", 0x34F0000, [], [Fld.DMA_MODE_STRICT, Fld.DMA_MODE_MISALIGN_SEEN], .whole⟩,
  ⟨"DMA_ENG_STATUS", 0x3400000, [(16, 0x1000)], [Fld.DMA_ENG_STATUS_CUR_CH, Fld.DMA_ENG_STATUS_ACTIVE], .whole⟩,
  ⟨"DMA_CNT_DESC", 0x3400010, [(16, 0x1000)], [Fld.DMA_CNT_DESC_COUNT], .whole⟩,
  ⟨"DMA_CNT_BYTES", 0x3400014, [(16, 0x1000)], [Fld.DMA_CNT_BYTES_COUNT], .whole⟩,
  ⟨"DMA_CNT_FLOAT", 0x3400018, [(16, 0x1000)], [Fld.DMA_CNT_FLOAT_COUNT], .whole⟩,
  ⟨"DMA_CNT_OVERRUN", 0x340001C, [(16, 0x1000)], [Fld.DMA_CNT_OVERRUN_COUNT], .whole⟩,
  ⟨"DMA_CNT_ERR", 0x3400020, [(16, 0x1000)], [Fld.DMA_CNT_ERR_COUNT], .whole⟩,
  ⟨"DMA_CH_CFG", 0x3400100, [(16, 0x1000), (16, 0x40)], [Fld.DMA_CH_CFG_EN, Fld.DMA_CH_CFG_CPL_MODE, Fld.DMA_CH_CFG_LOG2, Fld.DMA_CH_CFG_CQ_LOG2], .whole⟩,
  ⟨"DMA_CH_RING_LO", 0x3400104, [(16, 0x1000), (16, 0x40)], [Fld.DMA_CH_RING_LO_PRA], .lo 4⟩,
  ⟨"DMA_CH_RING_HI", 0x3400108, [(16, 0x1000), (16, 0x40)], [Fld.DMA_CH_RING_HI_PRA], .hi 4⟩,
  ⟨"DMA_CH_CQ_LO", 0x340010C, [(16, 0x1000), (16, 0x40)], [Fld.DMA_CH_CQ_LO_PRA], .lo 4⟩,
  ⟨"DMA_CH_CQ_HI", 0x3400110, [(16, 0x1000), (16, 0x40)], [Fld.DMA_CH_CQ_HI_PRA], .hi 4⟩,
  ⟨"DMA_CH_NOTIFY", 0x3400114, [(16, 0x1000), (16, 0x40)], [Fld.DMA_CH_NOTIFY_KIND, Fld.DMA_CH_NOTIFY_VF_OR_CORE, Fld.DMA_CH_NOTIFY_VEC_OR_INDEX], .whole⟩,
  ⟨"DMA_CH_STATUS", 0x3400118, [(16, 0x1000), (16, 0x40)], [Fld.DMA_CH_STATUS_STATE, Fld.DMA_CH_STATUS_CQ_HELD, Fld.DMA_CH_STATUS_CONS], .whole⟩]

def rowsDma1 : List RegRow := [
  ⟨"DMA_CH_DB", 0x340011C, [(16, 0x1000), (16, 0x40)], [Fld.DMA_CH_DB_POLL, Fld.DMA_CH_DB_RESUME], .whole⟩]

/-- The registers of the DMA block. -/
def rowsDma : List RegRow := rowsDma0 ++ rowsDma1

def rowsCph0 : List RegRow := [
  ⟨"CPH_STATUS", 0x3800000, [], [Fld.CPH_STATUS_ROOT_BAD, Fld.CPH_STATUS_DRBG_FAIL, Fld.CPH_STATUS_ID_READY], .whole⟩,
  ⟨"CPH_VERIFY", 0x3800004, [], [Fld.CPH_VERIFY_SECTION_OK, Fld.CPH_VERIFY_SVN_LOW], .whole⟩,
  ⟨"CPH_FUSE_SVN", 0x3800008, [], [Fld.CPH_FUSE_SVN_FW_SVN, Fld.CPH_FUSE_SVN_IMG_SVN], .whole⟩,
  ⟨"CPH_OWNER_KEYS", 0x380000C, [], [Fld.CPH_OWNER_KEYS_PROGRAMMED, Fld.CPH_OWNER_KEYS_REVOKED], .whole⟩,
  ⟨"CPH_BOOT_NONCE_LO", 0x3800010, [], [Fld.CPH_BOOT_NONCE_LO_NONCE], .lo 4⟩,
  ⟨"CPH_BOOT_NONCE_HI", 0x3800014, [], [Fld.CPH_BOOT_NONCE_HI_NONCE], .hi 4⟩,
  ⟨"CPH_DIE_ID", 0x3800020, [(8, 0x4)], [Fld.CPH_DIE_ID_ID], .whole⟩,
  ⟨"CPH_ATT_CTRL", 0x3800100, [], [Fld.CPH_ATT_CTRL_PART, Fld.CPH_ATT_CTRL_DEVICE, Fld.CPH_ATT_CTRL_GO], .whole⟩,
  ⟨"CPH_ATT_STATUS", 0x3800104, [], [Fld.CPH_ATT_STATUS_BUSY, Fld.CPH_ATT_STATUS_DONE, Fld.CPH_ATT_STATUS_ATT_DROPPED], .whole⟩,
  ⟨"CPH_ATT_OUT_LO", 0x3800108, [], [Fld.CPH_ATT_OUT_LO_ADDR], .lo 4⟩,
  ⟨"CPH_ATT_OUT_HI", 0x380010C, [], [Fld.CPH_ATT_OUT_HI_ADDR], .hi 4⟩,
  ⟨"CPH_ATT_NONCE", 0x3800120, [(8, 0x4)], [Fld.CPH_ATT_NONCE_NONCE], .whole⟩,
  ⟨"CPH_CNT_BYTES", 0x3801000, [(16, 0x20)], [Fld.CPH_CNT_BYTES_COUNT], .whole⟩,
  ⟨"CPH_CNT_JOBS", 0x3801004, [(16, 0x20)], [Fld.CPH_CNT_JOBS_COUNT], .whole⟩]

def rowsCph1 : List RegRow := [
  ⟨"CPH_CNT_KEYMISS", 0x3801008, [(16, 0x20)], [Fld.CPH_CNT_KEYMISS_COUNT], .whole⟩,
  ⟨"CPH_CNT_TAGFAIL", 0x380100C, [(16, 0x20)], [Fld.CPH_CNT_TAGFAIL_COUNT], .whole⟩,
  ⟨"CPH_CNT_LIMIT", 0x3801010, [(16, 0x20)], [Fld.CPH_CNT_LIMIT_COUNT], .whole⟩,
  ⟨"CPH_CNT_UNWRAP", 0x3801014, [(16, 0x20)], [Fld.CPH_CNT_UNWRAP_COUNT], .whole⟩,
  ⟨"CPH_DBG_INV_LO", 0x3802000, [(16, 0x40), (4, 0x8)], [Fld.CPH_DBG_INV_LO_COUNT], .lo 4⟩,
  ⟨"CPH_DBG_INV_HI", 0x3802004, [(16, 0x40), (4, 0x8)], [Fld.CPH_DBG_INV_HI_COUNT], .hi 4⟩]

/-- The registers of the cipher block. -/
def rowsCph : List RegRow := rowsCph0 ++ rowsCph1

def rowsStg0 : List RegRow := [
  ⟨"STG_CTRL", 0x3A00000, [], [Fld.STG_CTRL_EJECT], .whole⟩,
  ⟨"STG_STATUS", 0x3A00004, [], [Fld.STG_STATUS_CART_STATE, Fld.STG_STATUS_LATCHED, Fld.STG_STATUS_HOLDUP_LOW, Fld.STG_STATUS_WRITE_THROUGH], .whole⟩,
  ⟨"STG_EVENT", 0x3A00008, [], [Fld.STG_EVENT_FLUSH_LOST, Fld.STG_EVENT_SHUTDOWN_TIMEOUT, Fld.STG_EVENT_SURPRISE_REMOVAL, Fld.STG_EVENT_CART_FAULT], .whole⟩,
  ⟨"STG_WB_FILL", 0x3A0000C, [], [Fld.STG_WB_FILL_MIB], .whole⟩,
  ⟨"STG_HOLDUP", 0x3A00010, [], [Fld.STG_HOLDUP_JOULES], .whole⟩,
  ⟨"STG_NS_BASE_LO", 0x3A01000, [(64, 0x20)], [Fld.STG_NS_BASE_LO_BLOCK], .lo 4⟩,
  ⟨"STG_NS_BASE_HI", 0x3A01004, [(64, 0x20)], [Fld.STG_NS_BASE_HI_BLOCK], .hi 4⟩,
  ⟨"STG_NS_LEN_LO", 0x3A01008, [(64, 0x20)], [Fld.STG_NS_LEN_LO_BLOCKS], .lo 4⟩,
  ⟨"STG_NS_LEN_HI", 0x3A0100C, [(64, 0x20)], [Fld.STG_NS_LEN_HI_BLOCKS], .hi 4⟩,
  ⟨"STG_NS_CFG", 0x3A01010, [(64, 0x20)], [Fld.STG_NS_CFG_OWNER, Fld.STG_NS_CFG_NSID, Fld.STG_NS_CFG_LBA_4K], .whole⟩,
  ⟨"STG_NS_STATE", 0x3A01014, [(64, 0x20)], [Fld.STG_NS_STATE_STATE, Fld.STG_NS_STATE_TEST], .whole⟩,
  ⟨"STG_NS_CTRL", 0x3A01018, [(64, 0x20)], [Fld.STG_NS_CTRL_FORMAT], .whole⟩,
  ⟨"STG_WB_SHARE", 0x3A02000, [(16, 0x20)], [Fld.STG_WB_SHARE_MIB], .whole⟩,
  ⟨"STG_RL_SHARE", 0x3A02004, [(16, 0x20)], [Fld.STG_RL_SHARE_COUNT], .whole⟩]

def rowsStg1 : List RegRow := [
  ⟨"STG_CNT_CMDS", 0x3A02008, [(16, 0x20)], [Fld.STG_CNT_CMDS_COUNT], .whole⟩,
  ⟨"STG_CNT_RLSTALL", 0x3A0200C, [(16, 0x20)], [Fld.STG_CNT_RLSTALL_COUNT], .whole⟩,
  ⟨"STG_CNT_ERR", 0x3A02010, [(16, 0x20)], [Fld.STG_CNT_ERR_COUNT], .whole⟩]

/-- The registers of the storage block. -/
def rowsStg : List RegRow := rowsStg0 ++ rowsStg1

def rowsCk0 : List RegRow := [
  ⟨"CK_CTRL", 0x3C00000, [(16, 0x1000)], [Fld.CK_CTRL_EN, Fld.CK_CTRL_NOW, Fld.CK_CTRL_ABORT, Fld.CK_CTRL_FORCE_BASE, Fld.CK_CTRL_CURE_PAUSE], .whole⟩,
  ⟨"CK_CFG", 0x3C00004, [(16, 0x1000)], [Fld.CK_CFG_TRIG_TIMER, Fld.CK_CFG_TRIG_STEP, Fld.CK_CFG_REMOTE, Fld.CK_CFG_SLICE, Fld.CK_CFG_CHAIN_MAX], .whole⟩,
  ⟨"CK_INTERVAL", 0x3C00008, [(16, 0x1000)], [Fld.CK_INTERVAL_ORBITS], .whole⟩,
  ⟨"CK_RANGE_LO", 0x3C0000C, [(16, 0x1000)], [Fld.CK_RANGE_LO_GRANULE], .whole⟩,
  ⟨"CK_RANGE_HI", 0x3C00010, [(16, 0x1000)], [Fld.CK_RANGE_HI_GRANULE], .whole⟩,
  ⟨"CK_SKIM_LO", 0x3C00014, [(16, 0x1000)], [Fld.CK_SKIM_LO_PRA], .lo 4⟩,
  ⟨"CK_SKIM_HI", 0x3C00018, [(16, 0x1000)], [Fld.CK_SKIM_HI_PRA], .hi 4⟩,
  ⟨"CK_SKIM_LEN", 0x3C0001C, [(16, 0x1000)], [Fld.CK_SKIM_LEN_GRANULES], .whole⟩,
  ⟨"CK_STEP_PORTS", 0x3C00020, [(16, 0x1000)], [Fld.CK_STEP_PORTS_PORTS], .whole⟩,
  ⟨"CK_STEP_EVERY", 0x3C00024, [(16, 0x1000)], [Fld.CK_STEP_EVERY_STEPS], .whole⟩,
  ⟨"CK_STEP_TARGET_LO", 0x3C00028, [(16, 0x1000)], [Fld.CK_STEP_TARGET_LO_STEP], .lo 4⟩,
  ⟨"CK_STEP_TARGET_HI", 0x3C0002C, [(16, 0x1000)], [Fld.CK_STEP_TARGET_HI_STEP], .hi 4⟩,
  ⟨"CK_CART_BASE_LO", 0x3C00030, [(16, 0x1000)], [Fld.CK_CART_BASE_LO_BLOCK], .lo 4⟩,
  ⟨"CK_CART_BASE_HI", 0x3C00034, [(16, 0x1000)], [Fld.CK_CART_BASE_HI_BLOCK], .hi 4⟩]

def rowsCk1 : List RegRow := [
  ⟨"CK_CART_LEN_LO", 0x3C00038, [(16, 0x1000)], [Fld.CK_CART_LEN_LO_BLOCKS], .lo 4⟩,
  ⟨"CK_CART_LEN_HI", 0x3C0003C, [(16, 0x1000)], [Fld.CK_CART_LEN_HI_BLOCKS], .hi 4⟩,
  ⟨"CK_REMOTE_CONN", 0x3C00040, [(16, 0x1000)], [Fld.CK_REMOTE_CONN_CONN], .whole⟩,
  ⟨"CK_REMOTE_WIN", 0x3C00044, [(16, 0x1000)], [Fld.CK_REMOTE_WIN_HANDLE], .whole⟩,
  ⟨"CK_REMOTE_OFS_LO", 0x3C00048, [(16, 0x1000)], [Fld.CK_REMOTE_OFS_LO_OFFSET], .lo 4⟩,
  ⟨"CK_REMOTE_OFS_HI", 0x3C0004C, [(16, 0x1000)], [Fld.CK_REMOTE_OFS_HI_OFFSET], .hi 4⟩,
  ⟨"CK_REMOTE_SHQ", 0x3C00050, [(16, 0x1000)], [Fld.CK_REMOTE_SHQ_QUEUE], .whole⟩,
  ⟨"CK_STATUS", 0x3C00060, [(16, 0x1000)], [Fld.CK_STATUS_PHASE, Fld.CK_STATUS_TRIGGER_HELD, Fld.CK_STATUS_BASE_NEXT, Fld.CK_STATUS_REMOTE_STALE, Fld.CK_STATUS_LAST_RESULT], .whole⟩,
  ⟨"CK_EVENT", 0x3C00064, [(16, 0x1000)], [Fld.CK_EVENT_DONE, Fld.CK_EVENT_FAILED, Fld.CK_EVENT_REMOTE_FAIL, Fld.CK_EVENT_BAD_CONFIG], .whole⟩,
  ⟨"CK_GEN_LO", 0x3C00068, [(16, 0x1000)], [Fld.CK_GEN_LO_GEN], .lo 4⟩,
  ⟨"CK_GEN_HI", 0x3C0006C, [(16, 0x1000)], [Fld.CK_GEN_HI_GEN], .hi 4⟩,
  ⟨"CK_LAST_GEN_LO", 0x3C00070, [(16, 0x1000)], [Fld.CK_LAST_GEN_LO_GEN], .lo 4⟩,
  ⟨"CK_LAST_GEN_HI", 0x3C00074, [(16, 0x1000)], [Fld.CK_LAST_GEN_HI_GEN], .hi 4⟩,
  ⟨"CK_DIRTY", 0x3C00078, [(16, 0x1000)], [Fld.CK_DIRTY_GRANULES], .whole⟩]

def rowsCk2 : List RegRow := [
  ⟨"CK_PROGRESS", 0x3C0007C, [(16, 0x1000)], [Fld.CK_PROGRESS_GRANULES], .whole⟩,
  ⟨"CK_RST_CTRL", 0x3C00080, [(16, 0x1000)], [Fld.CK_RST_CTRL_SRC, Fld.CK_RST_CTRL_GO], .whole⟩,
  ⟨"CK_RST_STATUS", 0x3C00084, [(16, 0x1000)], [Fld.CK_RST_STATUS_BUSY], .whole⟩,
  ⟨"CK_CNT_CUTS", 0x3C000C0, [(16, 0x1000)], [Fld.CK_CNT_CUTS_COUNT], .whole⟩,
  ⟨"CK_CNT_COW_STALL", 0x3C000C4, [(16, 0x1000)], [Fld.CK_CNT_COW_STALL_COUNT], .whole⟩,
  ⟨"CK_CNT_COW_CYCLES", 0x3C000C8, [(16, 0x1000)], [Fld.CK_CNT_COW_CYCLES_COUNT], .whole⟩,
  ⟨"CK_CNT_COW_LONG", 0x3C000CC, [(16, 0x1000)], [Fld.CK_CNT_COW_LONG_COUNT], .whole⟩,
  ⟨"CK_CNT_MERGED", 0x3C000D0, [(16, 0x1000)], [Fld.CK_CNT_MERGED_COUNT], .whole⟩,
  ⟨"CK_CNT_FAIL", 0x3C000D4, [(16, 0x1000)], [Fld.CK_CNT_FAIL_COUNT], .whole⟩]

/-- The registers of the checkpoint block. -/
def rowsCk : List RegRow := rowsCk0 ++ rowsCk1 ++ rowsCk2

def rowsDbg0 : List RegRow := [
  ⟨"DBG_ALARM", 0x3D00000, [], [Fld.DBG_ALARM_ALARMS], .whole⟩,
  ⟨"DBG_CTRL", 0x3D00004, [], [Fld.DBG_CTRL_TAIL_RESUME, Fld.DBG_CTRL_STOP_GO, Fld.DBG_CTRL_STOP_ON_ALARM], .whole⟩,
  ⟨"DBG_STATUS", 0x3D00008, [], [Fld.DBG_STATUS_TAIL_FROZEN, Fld.DBG_STATUS_STOP_PENDING, Fld.DBG_STATUS_STOPPED, Fld.DBG_STATUS_DUMP_DONE], .whole⟩,
  ⟨"DBG_TAIL_ORBIT_LO", 0x3D00010, [], [Fld.DBG_TAIL_ORBIT_LO_ORBIT], .lo 4⟩,
  ⟨"DBG_TAIL_ORBIT_HI", 0x3D00014, [], [Fld.DBG_TAIL_ORBIT_HI_ORBIT], .hi 4⟩,
  ⟨"DBG_STOP_ORBIT_LO", 0x3D00018, [], [Fld.DBG_STOP_ORBIT_LO_ORBIT], .lo 4⟩,
  ⟨"DBG_STOP_ORBIT_HI", 0x3D0001C, [], [Fld.DBG_STOP_ORBIT_HI_ORBIT], .hi 4⟩,
  ⟨"DBG_DUMP_LO", 0x3D00020, [], [Fld.DBG_DUMP_LO_ADDR], .lo 4⟩,
  ⟨"DBG_DUMP_HI", 0x3D00024, [], [Fld.DBG_DUMP_HI_ADDR], .hi 4⟩,
  ⟨"DBG_SAMPLE_EVERY", 0x3D00028, [], [Fld.DBG_SAMPLE_EVERY_ORBITS], .whole⟩,
  ⟨"DBG_RATE", 0x3D0002C, [], [Fld.DBG_RATE_ERR, Fld.DBG_RATE_TRACE, Fld.DBG_RATE_SAMPLE], .whole⟩,
  ⟨"DBG_DROP", 0x3D00030, [(5, 0x4)], [Fld.DBG_DROP_COUNT], .whole⟩,
  ⟨"DBG_TIME_SLEW", 0x3D00080, [], [Fld.DBG_TIME_SLEW_PPB], .whole⟩,
  ⟨"DBG_TIME_STEP", 0x3D00084, [], [Fld.DBG_TIME_STEP_NS], .whole⟩]

def rowsDbg1 : List RegRow := [
  ⟨"DBG_TAIL_SEL", 0x3D00100, [], [Fld.DBG_TAIL_SEL_UNIT, Fld.DBG_TAIL_SEL_ENTRY], .whole⟩,
  ⟨"DBG_TAIL_DATA", 0x3D00110, [(4, 0x4)], [Fld.DBG_TAIL_DATA_WORD], .whole⟩,
  ⟨"DBG_TW_CTRL", 0x3D00200, [(64, 0x8)], [Fld.DBG_TW_CTRL_MODE], .whole⟩,
  ⟨"DBG_TW_TAG", 0x3D00204, [(64, 0x8)], [Fld.DBG_TW_TAG_TAG, Fld.DBG_TW_TAG_MASK], .whole⟩,
  ⟨"DBG_DEC_CTRL", 0x3D00400, [], [Fld.DBG_DEC_CTRL_PART, Fld.DBG_DEC_CTRL_BLOCKS, Fld.DBG_DEC_CTRL_GO], .whole⟩,
  ⟨"DBG_DEC_SRC_LO", 0x3D00404, [], [Fld.DBG_DEC_SRC_LO_PRA], .lo 4⟩,
  ⟨"DBG_DEC_SRC_HI", 0x3D00408, [], [Fld.DBG_DEC_SRC_HI_PRA], .hi 4⟩,
  ⟨"DBG_DEC_DST_LO", 0x3D0040C, [], [Fld.DBG_DEC_DST_LO_PRA], .lo 4⟩,
  ⟨"DBG_DEC_DST_HI", 0x3D00410, [], [Fld.DBG_DEC_DST_HI_PRA], .hi 4⟩,
  ⟨"DBG_DEC_STATUS", 0x3D00414, [], [Fld.DBG_DEC_STATUS_BUSY, Fld.DBG_DEC_STATUS_RESULT], .whole⟩,
  ⟨"DBG_CAP_LO", 0x3D01000, [(16, 0x40)], [Fld.DBG_CAP_LO_PRA], .lo 4⟩,
  ⟨"DBG_CAP_HI", 0x3D01004, [(16, 0x40)], [Fld.DBG_CAP_HI_PRA], .hi 4⟩,
  ⟨"DBG_CAP_LEN", 0x3D01008, [(16, 0x40)], [Fld.DBG_CAP_LEN_UNITS], .whole⟩,
  ⟨"DBG_CAP_STATUS", 0x3D0100C, [(16, 0x40)], [Fld.DBG_CAP_STATUS_CAP_BAD, Fld.DBG_CAP_STATUS_REC_ACTIVE, Fld.DBG_CAP_STATUS_REC_FULL, Fld.DBG_CAP_STATUS_REC_OVERFLOW, Fld.DBG_CAP_STATUS_REPLAY_ACTIVE, Fld.DBG_CAP_STATUS_REPLAY_DONE, Fld.DBG_CAP_STATUS_DIVERGED], .whole⟩]

def rowsDbg2 : List RegRow := [
  ⟨"DBG_CAP_DROP", 0x3D01010, [(16, 0x40)], [Fld.DBG_CAP_DROP_COUNT], .whole⟩,
  ⟨"DBG_REC_START_LO", 0x3D01014, [(16, 0x40)], [Fld.DBG_REC_START_LO_ORBIT], .lo 4⟩,
  ⟨"DBG_REC_START_HI", 0x3D01018, [(16, 0x40)], [Fld.DBG_REC_START_HI_ORBIT], .hi 4⟩,
  ⟨"DBG_REPLAY_CTRL", 0x3D0101C, [(16, 0x40)], [Fld.DBG_REPLAY_CTRL_GO], .whole⟩]

/-- The registers of the telemetry and debug block. -/
def rowsDbg : List RegRow := rowsDbg0 ++ rowsDbg1 ++ rowsDbg2

def rowsFw0 : List RegRow := [
  ⟨"SV_CTRL", 0x3E00000, [(8, 0x100)], [Fld.SV_CTRL_RESTART], .whole⟩,
  ⟨"SV_STATUS", 0x3E00004, [(8, 0x100)], [Fld.SV_STATUS_STATE, Fld.SV_STATUS_MPU_LOCKED], .whole⟩,
  ⟨"SV_WDOG", 0x3E00008, [(8, 0x100)], [Fld.SV_WDOG_KICK, Fld.SV_WDOG_COUNT], .whole⟩,
  ⟨"SV_CAUSE", 0x3E0000C, [(8, 0x100)], [Fld.SV_CAUSE_CAUSE, Fld.SV_CAUSE_TCAUSE], .whole⟩,
  ⟨"SV_RESTARTS", 0x3E00010, [(8, 0x100)], [Fld.SV_RESTARTS_COUNT], .whole⟩,
  ⟨"SV_TRACE_EN", 0x3E00014, [(8, 0x100)], [Fld.SV_TRACE_EN_POINTS], .whole⟩,
  ⟨"SV_MPU_BASE", 0x3E01000, [(8, 0x100), (16, 0x10)], [Fld.SV_MPU_BASE_BASE], .whole⟩,
  ⟨"SV_MPU_LIMIT", 0x3E01004, [(8, 0x100), (16, 0x10)], [Fld.SV_MPU_LIMIT_LIMIT], .whole⟩,
  ⟨"SV_MPU_ATTR", 0x3E01008, [(8, 0x100), (16, 0x10)], [Fld.SV_MPU_ATTR_EN, Fld.SV_MPU_ATTR_R, Fld.SV_MPU_ATTR_W, Fld.SV_MPU_ATTR_X, Fld.SV_MPU_ATTR_REGION], .whole⟩,
  ⟨"HAWK_EVT_HEAD", 0x3E09008, [], [Fld.HAWK_EVT_HEAD_HEAD], .whole⟩,
  ⟨"HAWK_EVT_TAIL", 0x3E0900C, [], [Fld.HAWK_EVT_TAIL_TAIL], .whole⟩,
  ⟨"HAWK_EVT_LOST", 0x3E09010, [], [Fld.HAWK_EVT_LOST_COUNT], .whole⟩,
  ⟨"LOG_RD_INDEX", 0x3E0A000, [], [Fld.LOG_RD_INDEX_INDEX], .whole⟩,
  ⟨"LOG_WR_SEQ_LO", 0x3E0A008, [], [Fld.LOG_WR_SEQ_LO_SEQ], .lo 4⟩]

def rowsFw1 : List RegRow := [
  ⟨"LOG_WR_SEQ_HI", 0x3E0A00C, [], [Fld.LOG_WR_SEQ_HI_SEQ], .hi 4⟩,
  ⟨"LOG_ENTRY_SEQ_LO", 0x3E0A010, [], [Fld.LOG_ENTRY_SEQ_LO_SEQ], .lo 4⟩,
  ⟨"LOG_ENTRY_SEQ_HI", 0x3E0A014, [], [Fld.LOG_ENTRY_SEQ_HI_SEQ], .hi 4⟩,
  ⟨"LOG_DATA", 0x3E0A040, [(16, 0x4)], [Fld.LOG_DATA_WORD], .whole⟩,
  ⟨"HAWK_CTRL", 0x3E09000, [], [Fld.HAWK_CTRL_SUBMIT], .whole⟩,
  ⟨"HAWK_STATUS", 0x3E09004, [], [Fld.HAWK_STATUS_BUSY, Fld.HAWK_STATUS_RESP_READY, Fld.HAWK_STATUS_SUBMIT_DROPPED], .whole⟩,
  ⟨"HAWK_REQ", 0x3E08000, [(512, 0x4)], [Fld.HAWK_REQ_WORD], .whole⟩,
  ⟨"HAWK_RSP", 0x3E08800, [(512, 0x4)], [Fld.HAWK_RSP_WORD], .whole⟩,
  ⟨"HAWK_EVT_RING", 0x3E09800, [(512, 0x4)], [Fld.HAWK_EVT_RING_WORD], .whole⟩]

/-- The registers of the firmware block. -/
def rowsFw : List RegRow := rowsFw0 ++ rowsFw1

def rowsBoot0 : List RegRow := [
  ⟨"LIC_STATUS", 0x3F02000, [], [Fld.LIC_STATUS_COMPUTE, Fld.LIC_STATUS_PAIR, Fld.LIC_STATUS_LIC_REJECTED], .whole⟩,
  ⟨"LIC_ENGINE_LO", 0x3F02004, [], [Fld.LIC_ENGINE_LO_ENGINE_EN], .lo 4⟩,
  ⟨"LIC_ENGINE_HI", 0x3F02008, [], [Fld.LIC_ENGINE_HI_ENGINE_EN], .hi 4⟩,
  ⟨"BOOT_STAGE", 0x3F00000, [], [Fld.BOOT_STAGE_STAGE, Fld.BOOT_STAGE_NEXT, Fld.BOOT_STAGE_BUSY, Fld.BOOT_STAGE_FAILED], .whole⟩,
  ⟨"BOOT_STATUS", 0x3F00004, [], [Fld.BOOT_STATUS_MODE, Fld.BOOT_STATUS_SLOT, Fld.BOOT_STATUS_NEXT_DROPPED, Fld.BOOT_STATUS_ERROR, Fld.BOOT_STATUS_ERR_STAGE], .whole⟩,
  ⟨"BOOT_CTRL", 0x3F00008, [], [Fld.BOOT_CTRL_REBOOT, Fld.BOOT_CTRL_TEST], .whole⟩,
  ⟨"BOOT_IMAGE_SEQ", 0x3F0000C, [], [Fld.BOOT_IMAGE_SEQ_SEQ], .whole⟩,
  ⟨"BOOT_READY_US", 0x3F00010, [], [Fld.BOOT_READY_US_US], .whole⟩,
  ⟨"BOOT_IMG_SKIP", 0x3F00014, [], [Fld.BOOT_IMG_SKIP_COUNT], .whole⟩,
  ⟨"ECL_CTRL", 0x3F00040, [], [Fld.ECL_CTRL_GO], .whole⟩,
  ⟨"ECL_STATUS", 0x3F00044, [], [Fld.ECL_STATUS_ACTIVE, Fld.ECL_STATUS_DONE, Fld.ECL_STATUS_DROPPED], .whole⟩,
  ⟨"ECL_COUNT", 0x3F00048, [], [Fld.ECL_COUNT_COUNT], .whole⟩,
  ⟨"ECL_LAST_US", 0x3F0004C, [], [Fld.ECL_LAST_US_US], .whole⟩,
  ⟨"ECL_WR_DROP", 0x3F00050, [], [Fld.ECL_WR_DROP_COUNT], .whole⟩]

def rowsBoot1 : List RegRow := [
  ⟨"PWR_STATUS", 0x3F00080, [], [Fld.PWR_STATUS_P48V_OK, Fld.PWR_STATUS_LOSS_SEEN, Fld.PWR_STATUS_THERM_TRIP, Fld.PWR_STATUS_THERM_ALARM], .whole⟩,
  ⟨"PWR_TEMP", 0x3F00084, [], [Fld.PWR_TEMP_DEG_C], .whole⟩,
  ⟨"FLASH_ADDR", 0x3F00100, [], [Fld.FLASH_ADDR_ADDR], .whole⟩,
  ⟨"FLASH_CMD", 0x3F00104, [], [Fld.FLASH_CMD_CMD], .whole⟩,
  ⟨"FLASH_STATUS", 0x3F00108, [], [Fld.FLASH_STATUS_BUSY, Fld.FLASH_STATUS_DENIED, Fld.FLASH_STATUS_DROPPED], .whole⟩,
  ⟨"FLASH_BUF", 0x3F00200, [(64, 0x4)], [Fld.FLASH_BUF_DATA], .whole⟩,
  ⟨"FUSE_PROG_CTRL", 0x3F00400, [], [Fld.FUSE_PROG_CTRL_FIELD, Fld.FUSE_PROG_CTRL_GO], .whole⟩,
  ⟨"FUSE_PROG_STATUS", 0x3F00404, [], [Fld.FUSE_PROG_STATUS_BUSY, Fld.FUSE_PROG_STATUS_REJECTED], .whole⟩,
  ⟨"FUSE_PROG_DATA", 0x3F00420, [(8, 0x4)], [Fld.FUSE_PROG_DATA_DIGEST], .whole⟩,
  ⟨"PANEL_STATUS", 0x3F04000, [], [Fld.PANEL_STATUS_TOUCHING, Fld.PANEL_STATUS_CAGE_PRESENT, Fld.PANEL_STATUS_IDENTIFY, Fld.PANEL_STATUS_REMOVING], .whole⟩,
  ⟨"PANEL_EVENT", 0x3F04004, [], [Fld.PANEL_EVENT_SHORT_TOUCH, Fld.PANEL_EVENT_LONG_TOUCH, Fld.PANEL_EVENT_EJECT_PRESS, Fld.PANEL_EVENT_CAGE_CHANGE, Fld.PANEL_EVENT_REMOVAL_CANCELLED], .whole⟩,
  ⟨"PANEL_CTRL", 0x3F04008, [], [Fld.PANEL_CTRL_IDENTIFY, Fld.PANEL_CTRL_REMOVE, Fld.PANEL_CTRL_CANCEL], .whole⟩,
  ⟨"PANEL_DRAIN_S", 0x3F0400C, [], [Fld.PANEL_DRAIN_S_SECONDS], .whole⟩,
  ⟨"SPR_CL_CMD", 0x3F05000, [], [Fld.SPR_CL_CMD_CLUSTER, Fld.SPR_CL_CMD_GO], .whole⟩]

def rowsBoot2 : List RegRow := [
  ⟨"SPR_CL_MAP", 0x3F05004, [], [Fld.SPR_CL_MAP_REPLACED, Fld.SPR_CL_MAP_USED], .whole⟩,
  ⟨"SPR_CTRL", 0x3F05008, [], [Fld.SPR_CTRL_AUTO_CLUSTER, Fld.SPR_CTRL_AUTO_COLUMN], .whole⟩,
  ⟨"SPR_STATUS", 0x3F0500C, [], [Fld.SPR_STATUS_CL_DROPPED, Fld.SPR_STATUS_COLUMNS_EXHAUSTED], .whole⟩,
  ⟨"SPR_COL_THRESH", 0x3F05010, [], [Fld.SPR_COL_THRESH_COUNT], .whole⟩,
  ⟨"AGE_PERIODS", 0x3F06000, [], [Fld.AGE_PERIODS_COUNT], .whole⟩,
  ⟨"AGE_GB", 0x3F06010, [(4, 0x4)], [Fld.AGE_GB_STEPS, Fld.AGE_GB_AT_MAX], .whole⟩,
  ⟨"AGE_PD_MIN", 0x3F06020, [], [Fld.AGE_PD_MIN_PS], .whole⟩,
  ⟨"AGE_EYE_MIN", 0x3F06024, [], [Fld.AGE_EYE_MIN_MV], .whole⟩,
  ⟨"AGE_PD", 0x3F06100, [(17, 0x4)], [Fld.AGE_PD_PS], .whole⟩,
  ⟨"AGE_EYE", 0x3F06200, [(76, 0x4)], [Fld.AGE_EYE_MV, Fld.AGE_EYE_LOW], .whole⟩]

/-- The registers of the bring-up block. -/
def rowsBoot : List RegRow := rowsBoot0 ++ rowsBoot1 ++ rowsBoot2

def rowsVf0 : List RegRow := [
  ⟨"VF_HDR_MAGIC", 0x4000000, [(64, 0x10000)], [Fld.VF_HDR_MAGIC_MAGIC], .whole⟩,
  ⟨"VF_HDR_FORMAT", 0x4000004, [(64, 0x10000)], [Fld.VF_HDR_FORMAT_VERSION], .whole⟩,
  ⟨"VF_HDR_CAP_PTR", 0x4000008, [(64, 0x10000)], [Fld.VF_HDR_CAP_PTR_OFFSET], .whole⟩,
  ⟨"VF_HDR_HAWK", 0x400000C, [(64, 0x10000)], [Fld.VF_HDR_HAWK_MAJOR, Fld.VF_HDR_HAWK_MINOR_MAX], .whole⟩,
  ⟨"VF_HAWK_CTRL", 0x4009000, [(64, 0x10000)], [Fld.VF_HAWK_CTRL_SUBMIT], .whole⟩,
  ⟨"VF_HAWK_STATUS", 0x4009004, [(64, 0x10000)], [Fld.VF_HAWK_STATUS_BUSY, Fld.VF_HAWK_STATUS_RESP_READY, Fld.VF_HAWK_STATUS_SUBMIT_DROPPED], .whole⟩,
  ⟨"VF_STATUS", 0x400C000, [(64, 0x10000)], [Fld.VF_STATUS_PARTITION, Fld.VF_STATUS_BOUND, Fld.VF_STATUS_VF_INDEX], .whole⟩,
  ⟨"VF_APT_BASE", 0x400C004, [(64, 0x10000)], [Fld.VF_APT_BASE_BASE_GIB], .whole⟩,
  ⟨"VF_EVENT", 0x400C008, [(64, 0x10000)], [Fld.VF_EVENT_BAD_WIDTH, Fld.VF_EVENT_DB_DISCARD], .whole⟩,
  ⟨"VF_CNT_UR", 0x400C010, [(64, 0x10000)], [Fld.VF_CNT_UR_COUNT], .whole⟩,
  ⟨"VF_CNT_CA", 0x400C014, [(64, 0x10000)], [Fld.VF_CNT_CA_COUNT], .whole⟩,
  ⟨"VF_CNT_WRITE_ERR", 0x400C018, [(64, 0x10000)], [Fld.VF_CNT_WRITE_ERR_COUNT], .whole⟩,
  ⟨"SRMT_SQ_DB", 0x4002000, [(64, 0x10000), (64, 0x4)], [Fld.SRMT_SQ_DB_TAIL], .whole⟩,
  ⟨"SRMT_RQ_DB", 0x4002100, [(64, 0x10000), (64, 0x4)], [Fld.SRMT_RQ_DB_TAIL], .whole⟩]

def rowsVf1 : List RegRow := [
  ⟨"SRMT_CQ_DB", 0x4002200, [(64, 0x10000), (64, 0x4)], [Fld.SRMT_CQ_DB_HEAD, Fld.SRMT_CQ_DB_ARM], .whole⟩,
  ⟨"SRMT_AQ_BASE_LO", 0x4002300, [(64, 0x10000)], [Fld.SRMT_AQ_BASE_LO_PRA], .lo 4⟩,
  ⟨"SRMT_AQ_BASE_HI", 0x4002304, [(64, 0x10000)], [Fld.SRMT_AQ_BASE_HI_PRA], .hi 4⟩,
  ⟨"SRMT_AQ_CFG", 0x4002308, [(64, 0x10000)], [Fld.SRMT_AQ_CFG_LOG2, Fld.SRMT_AQ_CFG_VECTOR, Fld.SRMT_AQ_CFG_EN], .whole⟩,
  ⟨"SRMT_AQ_DB", 0x400230C, [(64, 0x10000)], [Fld.SRMT_AQ_DB_TAIL], .whole⟩,
  ⟨"SRMT_AQ_STATUS", 0x4002310, [(64, 0x10000)], [Fld.SRMT_AQ_STATUS_HEAD, Fld.SRMT_AQ_STATUS_ERROR], .whole⟩,
  ⟨"SRMT_SQ_STATE", 0x4002400, [(64, 0x10000), (64, 0x4)], [Fld.SRMT_SQ_STATE_HEAD, Fld.SRMT_SQ_STATE_CREATED, Fld.SRMT_SQ_STATE_WAITING, Fld.SRMT_SQ_STATE_BAD_DB], .whole⟩,
  ⟨"SRMT_RQ_STATE", 0x4002500, [(64, 0x10000), (64, 0x4)], [Fld.SRMT_RQ_STATE_HEAD, Fld.SRMT_RQ_STATE_CREATED, Fld.SRMT_RQ_STATE_BAD_DB], .whole⟩,
  ⟨"SRMT_CQ_STATE", 0x4002600, [(64, 0x10000), (64, 0x4)], [Fld.SRMT_CQ_STATE_TAIL, Fld.SRMT_CQ_STATE_CREATED, Fld.SRMT_CQ_STATE_HELD, Fld.SRMT_CQ_STATE_BAD_DB], .whole⟩,
  ⟨"STG_SQ_DB", 0x4004000, [(64, 0x10000), (17, 0x8)], [Fld.STG_SQ_DB_TAIL], .whole⟩,
  ⟨"STG_CQ_DB", 0x4004004, [(64, 0x10000), (17, 0x8)], [Fld.STG_CQ_DB_HEAD], .whole⟩,
  ⟨"STG_AQA", 0x4004100, [(64, 0x10000)], [Fld.STG_AQA_ASQS, Fld.STG_AQA_ACQS], .whole⟩,
  ⟨"STG_ASQ_LO", 0x4004108, [(64, 0x10000)], [Fld.STG_ASQ_LO_ADDR], .lo 4⟩,
  ⟨"STG_ASQ_HI", 0x400410C, [(64, 0x10000)], [Fld.STG_ASQ_HI_ADDR], .hi 4⟩]

def rowsVf2 : List RegRow := [
  ⟨"STG_ACQ_LO", 0x4004110, [(64, 0x10000)], [Fld.STG_ACQ_LO_ADDR], .lo 4⟩,
  ⟨"STG_ACQ_HI", 0x4004114, [(64, 0x10000)], [Fld.STG_ACQ_HI_ADDR], .hi 4⟩,
  ⟨"STG_ACTRL", 0x4004118, [(64, 0x10000)], [Fld.STG_ACTRL_EN, Fld.STG_ACTRL_LOC], .whole⟩,
  ⟨"STG_ASTATUS", 0x400411C, [(64, 0x10000)], [Fld.STG_ASTATUS_RDY], .whole⟩,
  ⟨"STG_QERR", 0x4004120, [(64, 0x10000)], [Fld.STG_QERR_STOPPED], .whole⟩,
  ⟨"VF_HAWK_REQ", 0x4008000, [(64, 0x10000), (512, 0x4)], [Fld.VF_HAWK_REQ_WORD], .whole⟩,
  ⟨"VF_HAWK_RSP", 0x4008800, [(64, 0x10000), (512, 0x4)], [Fld.VF_HAWK_RSP_WORD], .whole⟩,
  ⟨"VF_HAWK_EVT_RING", 0x4009800, [(64, 0x10000), (512, 0x4)], [Fld.VF_HAWK_EVT_RING_WORD], .whole⟩,
  ⟨"VF_HAWK_EVT_HEAD", 0x4009008, [(64, 0x10000)], [Fld.VF_HAWK_EVT_HEAD_HEAD], .whole⟩,
  ⟨"VF_HAWK_EVT_TAIL", 0x400900C, [(64, 0x10000)], [Fld.VF_HAWK_EVT_TAIL_TAIL], .whole⟩,
  ⟨"VF_HAWK_EVT_LOST", 0x4009010, [(64, 0x10000)], [Fld.VF_HAWK_EVT_LOST_COUNT], .whole⟩,
  ⟨"VF_MSIX_ADDR", 0x400A000, [(64, 0x10000), (64, 0x10)], [Fld.VF_MSIX_ADDR_ADDR], .whole⟩,
  ⟨"VF_MSIX_UPPER", 0x400A004, [(64, 0x10000), (64, 0x10)], [Fld.VF_MSIX_UPPER_ADDR], .whole⟩,
  ⟨"VF_MSIX_DATA", 0x400A008, [(64, 0x10000), (64, 0x10)], [Fld.VF_MSIX_DATA_DATA], .whole⟩]

def rowsVf3 : List RegRow := [
  ⟨"VF_MSIX_CTRL", 0x400A00C, [(64, 0x10000), (64, 0x10)], [Fld.VF_MSIX_CTRL_MASK], .whole⟩,
  ⟨"VF_MSIX_PBA", 0x400B000, [(64, 0x10000), (2, 0x4)], [Fld.VF_MSIX_PBA_PENDING], .whole⟩]

/-- The registers of a virtual function. -/
def rowsVf : List RegRow := rowsVf0 ++ rowsVf1 ++ rowsVf2 ++ rowsVf3

/-- The rows of the block in whose range a key falls (R12, R42). -/
def rowsAt (k : Nat) : List RegRow :=
  if 0x04000000 ≤ k then rowsVf
  else if k < 0x00100000 then rowsHdr
  else if k < 0x00200000 then rowsOrb
  else if k < 0x00400000 then rowsPt
  else if k < 0x00800000 then rowsMf
  else if k < 0x01000000 then rowsScr
  else if k < 0x02000000 then rowsCl
  else if k < 0x02800000 then rowsEth
  else if k < 0x03000000 then rowsSrmt
  else if k < 0x03400000 then rowsTl
  else if k < 0x03800000 then rowsDma
  else if k < 0x03A00000 then rowsCph
  else if k < 0x03C00000 then rowsStg
  else if k < 0x03D00000 then rowsCk
  else if k < 0x03E00000 then rowsDbg
  else if k < 0x03F00000 then rowsFw
  else rowsBoot

/-- The register at a key with its indices, if a table lists one (R12). -/
def regAt (k : Nat) : Option (RegRow × List Nat) := findRow (rowsAt k) k

/-- The fields of the register at a key; none for a key that no table lists. -/
def fldsAt (k : Nat) : List Fld :=
  match regAt k with
  | some (r, _) => r.flds
  | none => []

/-- The power-on value of the register at a key (R19): a fuse or image field is 0 here and is loaded at start. -/
def regDefault (k : Nat) : Word := (fldsAt k).foldl (fun w f => f.put w f.rst) 0

end Sys2Proof.Machine
end

