-- ==== Sys2Proof/Machine/Tab.lean ====
section
/-! DEFINITION. A sorted sparse table: the entries that differ from a default, by rising key. It holds the register
file, stored bytes and the indexed parts of the state in one canonical form. -/

namespace Sys2Proof.Machine

variable {α : Type}

/-- The entry at a key, or the default there. -/
def Tab.get (d : Nat → α) : List (Nat × α) → Nat → α
  | [], k => d k
  | (j, x) :: t, k => if j = k then x else Tab.get d t k

/-- The table without the entry at a key. -/
def Tab.erase (t : List (Nat × α)) (k : Nat) : List (Nat × α) := t.filter (fun e => e.1 != k)

/-- The table with an entry put at its place. -/
def Tab.ins : List (Nat × α) → Nat → α → List (Nat × α)
  | [], k, v => [(k, v)]
  | (j, x) :: t, k, v =>
    if k < j then (k, v) :: (j, x) :: t
    else if j = k then (k, v) :: t
    else (j, x) :: Tab.ins t k v

/-- The table with a value at a key: an entry equal to the default is not listed. -/
def Tab.set [DecidableEq α] (d : Nat → α) (t : List (Nat × α)) (k : Nat) (v : α) : List (Nat × α) :=
  if v = d k then Tab.erase t k else Tab.ins t k v

/-- The canonical form: keys strictly rising, all at or above a bound, and no entry equal to the default. -/
def Tab.wfFrom [DecidableEq α] (d : Nat → α) : Nat → List (Nat × α) → Bool
  | _, [] => true
  | lo, (j, x) :: t => decide (lo ≤ j) && decide (x ≠ d j) && Tab.wfFrom d (j + 1) t

/-- The canonical form of a table. -/
def Tab.wf [DecidableEq α] (d : Nat → α) (t : List (Nat × α)) : Bool := Tab.wfFrom d 0 t

/-- The table without the entries whose keys satisfy a test. -/
def Tab.drop (p : Nat → Bool) (t : List (Nat × α)) : List (Nat × α) := t.filter (fun e => !p e.1)

end Sys2Proof.Machine
end

