-- ==== Sys2Proof/Machine/State.lean ====
section
/-! DEFINITION. The state of the sled as plain data, its faults and refusals, and the state after reset. Every
structure below is a part of it; a table is a sorted list of the entries that differ from a default (Tab). -/

namespace Sys2Proof.Machine

/-- Who holds a slot of an Ephemeris row (R56, R57). -/
inductive Holder where
  | owner (p : Fin 16)
  | borrower (p : Fin 16)
  | housekeeping
  | idle
  deriving DecidableEq, Repr

/-- Time and the Ephemeris beside its registers (R45–R62). -/
structure TimeSt where
  /-- The orbit counter (R9). -/
  orbit : BitVec 48
  /-- The cycle within the orbit, 0 to 16,383. -/
  cycle : Nat
  /-- Device time in units of 1 / (16,384 · 10^9) ns (R47, R619). -/
  dev : Nat
  /-- The slew in force, parts per 10^9 (R619). -/
  slew : Int
  /-- The mark at which a pending Ephemeris commit takes effect (R60). -/
  commitDue : Option Nat
  /-- Writes of EPH_MODE that await their marks, oldest first (R62). -/
  modeWrites : List (Nat × BitVec 16)
  /-- The last borrower of each row (R56); a row not listed names partition 15. -/
  lastBorrower : List (Nat × Nat)
  /-- The holder of the current slot of each row; a row not listed is idle. -/
  holder : List (Nat × Holder)
  /-- Whether stage MAP_APPLY has loaded the table and the map (R64). -/
  mapped : Bool
  /-- Whether the Ephemeris serves: from the first mark after the load, at which R665's first evaluation is made. -/
  serving : Bool
  deriving DecidableEq, Repr

/-- Register latches of R14: the value that the next read of a _HI register returns, and a _LO value held until its
_HI is written. -/
structure LatchSt where
  readHi : List (Nat × Word)
  heldLo : List (Nat × Word)
  /-- What the last register read answered. -/
  last : Option Word
  deriving DecidableEq, Repr

/-- A log ring entry (R573). -/
structure LogEntry where
  seq : Nat
  cls : Nat
  src : Nat
  orbit : Nat
  record : Bytes
  deriving DecidableEq, Repr

/-- The log ring (R573, R634–R636). -/
structure LogSt where
  ring : List (Nat × LogEntry)
  /-- Slots written since P, H or K, until the ring is full. -/
  used : Nat
  /-- Entries written since P (LOG_WR_SEQ). -/
  seq : Nat
  /-- SEQ of the last journal record (PT_JRNL_SEQ). -/
  jseq : Nat
  /-- Entries of this orbit by class and source key (R635). -/
  counts : List ((Nat × Nat) × Nat)
  /-- Drops of this orbit by class and source key (R636). -/
  drops : List ((Nat × Nat) × Nat)
  deriving DecidableEq, Repr

/-- A Tail ring entry (R622). -/
structure TailEntry where
  kind : Nat
  code : Nat
  detail : Nat
  orbit : Nat
  cycle : Nat
  deriving DecidableEq, Repr

/-- A statuses of a line or scratch request (R94, R125). -/
inductive MemStatus where
  | ok
  | corrected
  | uncorrectable
  | tagMismatch
  | notReady
  | outOfRange
  | checkLineAddress
  | notOwner
  | atomicAlign
  deriving DecidableEq, Repr

/-- A remap table entry (R84–R86): the two places that were swapped, how many group pairs have moved, whether the
entry is being undone, and the orbits of its start and of its frames' last heat. -/
structure RemapEntry where
  cA : Nat
  fA : Nat
  cB : Nat
  fB : Nat
  moved : Nat
  undoing : Bool
  start : Nat
  lastHot : Nat
  deriving DecidableEq, Repr

/-- What the fabric keeps of one channel's load and scrubbing (R82, R83, R98, R103). -/
structure ChanSt where
  /-- Sum of this orbit's queue-depth samples. -/
  depthSum : Nat
  /-- Occupancies of the last 64 orbits, newest first, times 64. -/
  hist : List Nat
  /-- Consecutive orbits in which the channel was hot. -/
  hotRun : Nat
  /-- The tracker of the most-requested frames: frame and count. -/
  frames : List (Nat × Nat)
  scrubPos : Nat
  scrubLast : Nat
  /-- Corrected errors in the current scrub pass. -/
  passCe : Nat
  deriving DecidableEq, Repr

/-- The tracker of one package: requests in flight and requests stalled for an entry, oldest first (R74). -/
structure TrackSt where
  inflight : List LineReq
  stalled : List LineReq
  deriving DecidableEq, Repr

/-- A spare copy in progress (R103–R105): failing channel, spare channel, groups copied, copy ended. -/
structure SpareCopy where
  src : Nat
  dst : Nat
  pos : Nat
  ended : Bool
  deriving DecidableEq, Repr

/-- A completed line request: its status and the data returned. -/
structure LineCpl where
  req : LineReq
  status : MemStatus
  data : Bytes
  deriving DecidableEq, Repr

/-- The memory fabric and the LPDDR5X array (R71–R110). -/
structure FabSt where
  /-- Stored bytes, data lines and check lines, by stored byte address (R75, R76). -/
  cells : List Host.Cell
  /-- What unlisted bytes of a channel read as: the owner and epoch of its last initialisation (R107). -/
  fill : List (Nat × Option (Byte × Byte))
  keyWritten : Bool
  remap : List (Nat × List RemapEntry)
  chan : List (Nat × ChanSt)
  track : List (Nat × TrackSt)
  /-- The retirement list: line addresses and their hard marks (R96). -/
  retired : List (Nat × Bool)
  /-- Requests for spare service that wait, by channel number (R103). -/
  spareReq : List Nat
  spareCopy : Option SpareCopy
  /-- Packages under initialisation (R107), with the owner they are initialised for. -/
  initBusy : List (Nat × Nat)
  /-- Channels that failed training with no spare free (R585). -/
  dead : List Nat
  /-- The last line request completed. -/
  cpl : Option LineCpl
  deriving DecidableEq, Repr
/-- What a scratch request does (R121). -/
inductive ScrOp where
  | read (len : Nat)
  | full (data : Bytes)
  | part (data : Bytes)
  | add (wide : Bool) (x : DWord)
  | swap (wide : Bool) (x : DWord)
  deriving DecidableEq, Repr

/-- A scratch request (R111, R113). -/
structure ScrReq where
  cluster : Nat
  port : ScrPort
  addr : Nat
  op : ScrOp
  deriving DecidableEq, Repr

/-- A completed scratch request (R126). -/
structure ScrCpl where
  req : ScrReq
  status : MemStatus
  data : Bytes
  deriving DecidableEq, Repr

/-- The scratch banks beside their registers (R111–R130). -/
structure ScrSt where
  /-- Stored bytes: cluster · 2^25 + word · 128 + stored symbol 0–67 (data bytes, then check symbols). -/
  cells : List Host.Cell
  /-- What unlisted bytes of a cluster read as: owner and epoch symbols of its last initialisation (R128). -/
  fill : List (Nat × Option (Byte × Byte))
  initBusy : List Nat
  /-- The owner a bank had before a pending handover and the cycle of the handover (R116), by cluster · 24 + bank. -/
  handover : List (Nat × Nat)
  /-- Requests of the new owner that wait for a handover (R116), in arrival order, by cluster · 24 + bank. -/
  waiting : List (Nat × List ScrReq)
  /-- The cycle from which a bank is free (R118). -/
  busyUntil : List (Nat × Nat)
  /-- Corrected words awaiting their write-back (R119): cluster · 2^18 + word, oldest first. -/
  corrected : List Nat
  /-- The requests the last command completed. -/
  cpl : List ScrCpl
  deriving DecidableEq, Repr
/-- A decoded Trowel block: 32 steps of 64 element codes, step by step, and the 64 column scales (R200–R203). -/
structure TrwBlock where
  codes : List Nat
  scales : List Nat
  deriving DecidableEq, Repr

/-- The fetch of one command's stream by a Trowel (R153, R208–R216). -/
structure TrwFetch where
  /-- The cycle in which the fetch began. -/
  began : Nat
  /-- B_PRA and B_LINES of the command. -/
  pra : Nat
  maxLines : Nat
  /-- 6-bit elements. -/
  six : Bool
  /-- The copy of the table set: code lengths by symbol (R208). -/
  lens : List Nat
  /-- Blocks the command still needs. -/
  need : Nat
  /-- Lines received, and the bytes of the current segment received so far. -/
  received : Nat
  seg : Bytes
  /-- The first line of the current segment, and its SEG_LEN and blocks left once its header has arrived. -/
  segStart : Nat
  segLen : Option Nat
  segBlocks : Nat
  /-- The byte of the segment at which the next block starts, and the previous block's scales in the segment. -/
  pos : Nat
  prev : Option (List Nat)
  blocks : List TrwBlock
  /-- A failure found: completion status and DETAIL (R215, R217). -/
  err : Option (Nat × Nat)
  deriving DecidableEq, Repr

/-- The states of an accumulator bank (R136). -/
inductive BankSt where
  | invalid
  | valid
  | computing
  | draining
  deriving DecidableEq, Repr, Inhabited

/-- A command that has started (R155): descriptor, start cycle, LATE, its stream, and whether it is in its background
drain. -/
structure EngRun where
  desc : List Word
  start : Nat
  late : Bool
  fetch : Option TrwFetch
  deriving DecidableEq, Repr

/-- One matrix engine and its Trowel beside their registers (R136–R169, R208–R219). -/
structure EngSt where
  /-- Queued descriptors, oldest first (R140). -/
  queue : List (List Word)
  /-- The cycle in which the head reached the head of the queue (R152). -/
  headAt : Nat
  /-- The last cycle in which a command that has ended occupied the engine (R152). -/
  lastBusy : Nat
  /-- A rejection of the head that waits for a completion FIFO entry: status and DETAIL (R145). -/
  deferred : Option (Nat × Nat)
  /-- Queued commands that a flush has yet to complete (R164). -/
  flushing : Nat
  /-- The cycle from which the head has waited for a completion FIFO entry (R145). -/
  cplStall : Option Nat
  /-- Completion records, oldest first, and entries reserved by started commands (R145). -/
  cpl : List (List Word)
  reserved : Nat
  /-- The accumulator banks: states and FP32 elements by 64 · row + column. -/
  st0 : BankSt
  st1 : BankSt
  acc0 : List (Nat × Word)
  acc1 : List (Nat × Word)
  run : Option EngRun
  /-- The command whose bank drains in the background (R155). -/
  drain : Option EngRun
  /-- The stream of the next command, fetched ahead (R153). -/
  fetch : Option TrwFetch
  deriving DecidableEq, Repr, Inhabited

/-- A table set's active copy (R204–R206): none while it is not valid; its alphabet and code lengths otherwise. -/
structure TrwSet where
  six : Bool
  lens : List Nat
  deriving DecidableEq, Repr


/-- A save (restore false) or restore in progress (R404–R408): its partition, its image's PRA, the orbit of its start. -/
structure SrRun where
  part : Nat
  restore : Bool
  addr : Nat
  orbit : Nat
  deriving DecidableEq, Repr

/-- The partition controller beside its registers (R379–R408). -/
structure PtSt where
  /-- The mark at which a pending map commit takes effect (R380). -/
  commitDue : Option Nat
  /-- Partition resets, freezes, thaws and epoch advances that await their marks: partition and mark. -/
  resetDue : List (Nat × Nat)
  freezeDue : List (Nat × Nat)
  thawDue : List (Nat × Nat)
  epochDue : List (Nat × Nat)
  /-- Partitions whose freeze has taken effect and whose last work has not ended (R402). -/
  freezing : List Nat
  /-- Cores that an Eclipse left HALTED while their partition was frozen (R403). -/
  eclHalted : List Nat
  sr : Option SrRun
  deriving DecidableEq, Repr

/-- A register that an operation writes (R220): a general, address, vector or predicate register, bytes of a vector
register (R288), half of a segment register (base 2n, limit 2n + 1), or a special register. -/
inductive Dst where
  | g (n : Nat)
  | a (n : Nat)
  | v (n : Nat)
  | vpart (n off len : Nat)
  | p (n : Nat)
  | seg (n : Nat)
  | sp (n : Nat)
  deriving DecidableEq, Repr

/-- A write in flight (R228, R231): the advancing cycle it is due in, its slot, its destination, its value. -/
structure PendWrite where
  due : Nat
  slot : Nat
  dst : Dst
  val : BitVec 512
  deriving DecidableEq, Repr

/-- What an L access does at its address (R275, R276, R249). -/
inductive AccKind where
  | load (signed : Bool) (dst : Dst)
  | store (data : Bytes)
  | atom (wide swap : Bool) (x : DWord) (gd : Nat)
  | enq (data : Bytes) (pd : Nat)
  deriving DecidableEq, Repr

/-- An L access (R238): the address formed, the size, the base register, whether the address is a segment offset. -/
structure Access where
  addr : Nat
  size : Nat
  base : Nat
  kind : AccKind
  deriving DecidableEq, Repr

/-- A fault of an operation: cause, detail, data address (R255). -/
structure OpFault where
  cause : Nat
  detail : Nat
  addr : Nat
  deriving DecidableEq, Repr

/-- What a wait waits for (R250, R291). -/
inductive WaitCond where
  | counter (e i : Nat) (value : Nat)
  | orbitSlot (orbit slot : Nat)
  | doorbell (i : Nat)
  deriving DecidableEq, Repr

/-- What an operation of slot B does beside register writes (R290). -/
inductive BAct where
  | none
  | branch (tgt : Nat)
  | notTaken
  | call (tgt : Nat)
  | ret
  | tret
  | halt
  | wait (c : WaitCond) (pd limit : Nat)
  deriving DecidableEq, Repr

/-- An operation of a bundle with its operands read (R226): what it will do when its bundle issues. -/
structure Plan where
  slot : Nat
  /-- A slot that the core does not have (R225, R292). -/
  badUnit : Bool
  fault : Option OpFault
  /-- Destination, latency, value. -/
  writes : List (Dst × Nat × BitVec 512)
  /-- A read of ORBIT, POS or CYCLES into a general register, taken in the cycle of issue (R222). -/
  timed : Option (Nat × Nat)
  access : Option Access
  fence : Bool
  act : BAct
  deriving DecidableEq, Repr

/-- Why a core is stalled (R229): its bundle waits to issue, an access waits for its
answer (with the offset of its bundle), a wait operation. -/
inductive Stall where
  | none
  | bundle
  | access (a : Access) (tfpc : Nat)
  | wait (c : WaitCond) (pd limit : Nat)
  deriving DecidableEq, Repr, Inhabited

/-- A program image as loaded into a core (R260). -/
structure PxImage where
  compat : Bool
  entry : Nat
  dsLow : DWord
  dsHigh : DWord
  rsBase : Nat
  rsLimit : Nat
  segs : List DWord
  code : List Word
  deriving DecidableEq, Repr

/-- A failing answer whose trap is to be taken (R252): the fault, its slot, the offset of its bundle. -/
structure LateFault where
  fault : OpFault
  slot : Nat
  tfpc : Nat
  deriving DecidableEq, Repr

/-- A prep core (0–31) or service core (32–39): registers, stacks, program and what is in flight (R220–R265, R560). -/
structure CoreSt where
  g : List (Nat × DWord)
  a : List (Nat × DWord)
  v : List (Nat × BitVec 512)
  p : List (Nat × Bool)
  seg : List (Nat × DWord)
  tvec : DWord
  tcause : DWord
  tpc : DWord
  taddr : DWord
  tbr : DWord
  dsLow : DWord
  dsHigh : DWord
  rsBase : Nat
  rsLimit : Nat
  tfpc : DWord
  compat : Bool
  inHandler : Bool
  /-- Return offsets in hardware, newest first, and the words spilled (R242, R243). -/
  rstack : List Nat
  spilled : Nat
  pc : Nat
  /-- The image in instruction memory; none holds no code. -/
  img : Option PxImage
  /-- Advancing cycles since start, and the cycle in which the core last left EMPTY or READY. -/
  adv : Nat
  started : Nat
  pend : List PendWrite
  /-- A taken branch's target and delay bundles left (R233). -/
  branch : Option (Nat × Nat)
  /-- Operations of the bundle being presented, in memory order. -/
  bundle : List Plan
  stall : Stall
  /-- The cycle in which the stall began. -/
  since : Nat
  /-- A HALT that awaits the end of a stalled access (R258). -/
  halting : Bool
  /-- Posted stores outstanding, oldest first: address and data (R240). -/
  posted : List (Nat × Bytes)
  /-- The first failed posted store since the last fence: address and status code. -/
  storeErr : Option (Nat × Nat)
  late : List LateFault
  deriving DecidableEq, Repr, Inhabited

/-- The fuses of the die (R583, R589, R127, R498, R502): the root check, the stepping, the two security versions, owner
digests programmed by slot, slots revoked, columns that the fuses replace by 24 · cluster + bank. -/
structure FuseSt where
  rootOk : Bool
  step : Nat
  fwSvn : Nat
  imgSvn : Nat
  owner : List (Nat × Bytes)
  revoked : List Nat
  cols : List (Nat × Nat)
  deriving DecidableEq, Repr

/-- Bring-up beside its registers (R577–R590). -/
structure BootSt where
  fuse : FuseSt
  /-- The fuses as the last fuse load read them (R589). -/
  loaded : FuseSt
  /-- The configuration flash; unlisted bytes are erased (R577). -/
  flash : List Host.Cell
  /-- The HOSTED_BOOT strap (R587). -/
  strap : Bool
  /-- Bodies of the verified sections by type, and whether an owner section failed (R503, R581). -/
  secs : List (Nat × Bytes)
  ownerBad : Bool
  /-- Boot script entries left while the script runs, and the orbit at which a DELAY ends (R586). -/
  script : Option (List Bytes)
  delay : Option Nat
  /-- The cycle in which the boot began. -/
  began : Nat
  /-- A flash command held until stage IMAGE ends: command and address (R590). -/
  held : Option (Nat × Nat)
  /-- The boot began with class H, so that fields kept through H are not loaded from the image. -/
  hot : Bool
  deriving DecidableEq, Repr

/-- Power (R595, R368): the die is powered, the power-loss sequence runs, the sled stays off until P48V returns anew. -/
structure PwrSt where
  on : Bool
  seq : Bool
  stayOff : Bool
  deriving DecidableEq, Repr

/-- An Eclipse (R591, R592): the mark of a GO, the orbit of its entry, its phase: 0 none, 1 held in reset, 2 released,
3 retuned. -/
structure EclSt where
  due : Option Nat
  entry : Nat
  phase : Nat
  deriving DecidableEq, Repr

/-- A removal in progress (R653): the orbit of the request's mark, partitions frozen by step 4, whether step 4 is done. -/
structure RemSt where
  start : Nat
  frozen : List Nat
  drained : Bool
  deriving DecidableEq, Repr

/-- Panel, spares and ageing beside their registers (R648–R664). -/
structure PanelSt where
  removeDue : Option Nat
  removal : Option RemSt
  /-- The bar shows removal safe (R653 step 6). -/
  safe : Bool
  /-- The cycle in which identify began (R651). -/
  ident : Option Nat
  /-- A substitution of a cluster that awaits its mark (R655). -/
  clDue : Option (Nat × Nat)
  /-- Corrected words of this period by 1,024 · (24 · cluster + bank) + column (R657), and those
  whose replacement has begun. -/
  cols : List (Nat × Nat)
  copying : List Nat
  /-- Ageing reads in progress, guardband steps that await a mark, lanes to be re-adapted (R660–R662). -/
  reading : Bool
  gbDue : List (Nat × Nat)
  eyeDue : List Nat
  /-- Front-panel actions that wait for SV7 (R649): 0 short touch, 1 long touch, 2 eject press. -/
  todo : List Nat
  deriving DecidableEq, Repr

/-- The sideband target (R391, R392): its dynamic address, and what the next private read returns. -/
structure I3cSt where
  dyn : Option Nat
  answer : Option Bytes
  deriving DecidableEq, Repr

/-- A Hawk request that firmware has taken (R566–R571): its function (0 PF0, v + 1), minor, opcode, tag, partition or
0x40, payload, whether its role has begun it, the cores whose loads it awaits. -/
structure HawkReq where
  fn : Nat
  minor : Nat
  op : Nat
  tag : Nat
  part : Nat
  payload : Bytes
  begun : Bool
  loads : List Nat
  rejected : List Nat
  /-- The role's core stopped while the request was in progress (R556). -/
  failed : Bool
  deriving DecidableEq, Repr

/-- The firmware complex beside its registers (R555–R575). -/
structure FwSt where
  /-- Shared SRAM and the cores' local SRAM (core · 2^18 + offset), unlisted bytes zero (R557). -/
  sram : List Host.Cell
  local_ : List Host.Cell
  /-- Orbits of the restarts that count toward a storm, by core (R564). -/
  storm : List (Nat × List Nat)
  /-- Events that firmware has yet to deliver (R572), oldest first. -/
  events : List HawkEvt
  /-- Hawk requests taken and not answered, and responses that wait to be written, by function. -/
  req : List HawkReq
  rsp : List (Nat × Bytes)
  deriving DecidableEq, Repr

/-- A command that the sled sends to its cartridge as its NVMe host, by 4 KiB block (R510, R525). -/
inductive CartOp where
  | init
  | read (block n : Nat)
  | write (block : Nat) (data : Bytes) (fua : Bool)
  | flush
  | dealloc (block n : Nat)
  | record (clean : Bool) (ns : List Nat)
  | readRecord
  | lowPower
  | shutdown
  deriving DecidableEq, Repr

/-- What the sled sends out: TLPs toward the host, Tether and pair messages and control units by port (8 is the pair
link), Ethernet frames, cartridge commands, sideband answers, pins. -/
inductive Out where
  | memRead (tag addr len : Nat)
  | memWrite (addr : Nat) (data : Bytes)
  | cpl (fn status : Nat) (data : Bytes)
  | hostMsg (name : Nat)
  | flit (port : Nat) (b : Bytes)
  | frame (port : Nat) (b : Bytes)
  | cart (id : Nat) (op : CartOp)
  | i3c (b : Bytes)
  | pin (name : Nat) (level : Bool)
  deriving DecidableEq, Repr

/-- A cipher operation in a client's queue (R486–R489): its number, the share it works for (partition or 16 for the
device), its client (0 class-0 receive, 1 class-0 send, others by block), AES or KMAC, and the bytes left. -/
structure CphJob where
  op : Nat
  share : Nat
  client : Nat
  kmac : Bool
  bytes : Nat
  deriving DecidableEq, Repr

/-- The cipher complex beside its registers (R486–R508). -/
structure CphSt where
  /-- Operations whose jobs wait, oldest first. -/
  jobs : List CphJob
  /-- Jobs in progress: AES groups 0–1, KMAC cores 16–19; of a job, the bytes it carries. -/
  busy : List (Nat × CphJob)
  /-- The operation store: operations of several jobs begun and not ended, with their shares (R489). -/
  store : List (Nat × Nat)
  nextOp : Nat
  /-- The client served last, by share (R488). -/
  served : List (Nat × Nat)
  /-- Key cache: the labels of each share, most recently used first (R498). -/
  cache : List (Nat × List Bytes)
  /-- A report in progress: the bytes of its snapshot (R504). -/
  report : Option Bytes
  /-- The DRBG waits for a reseed that passes (R497). -/
  drbgDown : Bool
  /-- Capture blocks written since P, H or K, by 4 · partition + stream, and blocks in encryption (R628, R629). -/
  capSeq : List (Nat × Nat)
  capBusy : List (Nat × Bytes)
  /-- What boot measured (R505): the image's and the firmware section's digests, and the SVNs of the sections loaded. -/
  mImage : Bytes
  mFirmware : Bytes
  svnFw : Nat
  svnImg : Nat
  deriving DecidableEq, Repr

/-- The states of a granule (R535). -/
inductive GranSt where
  | clean
  | dirty
  | pending
  | held
  deriving DecidableEq, Repr

/-- A cut (R539): its mark, device time, granules in ascending order, step target, base or delta, epoch. -/
structure CkCut where
  orbit : Nat
  time : Nat
  grans : List Nat
  step : Nat
  base : Bool
  epoch : Nat
  deriving DecidableEq, Repr

/-- A shard entry of a manifest (R547): generation, shard, granules, extent, digest. -/
structure CkEntry where
  gen : Nat
  shard : Nat
  count : Nat
  extent : Nat
  digest : Bytes
  deriving DecidableEq, Repr

/-- A manifest as the engine knows it: slot (0 A, 1 B), generation, base, entries, MAC. -/
structure CkManifest where
  slot : Nat
  gen : Nat
  baseGen : Nat
  entries : List CkEntry
  mac : Bytes
  deriving DecidableEq, Repr

/-- The part of a Cure that is next: extents of the newest manifest that the remote side lacks, a shard, the Flush, the
manifest; or its manifest is written. -/
inductive CureStep where
  | stale (l : List Nat)
  | shard (i : Nat)
  | flush
  | manifest
  | written
  deriving DecidableEq, Repr

/-- A Cure in progress (R546–R549): its generation, the extents taken, entries made, its next step, the cartridge
command outstanding, the manifest made, whether no remote message has failed and whether the remote manifest is sent. -/
structure CkCure where
  gen : Nat
  extents : List Nat
  entries : List CkEntry
  next : CureStep
  cmd : Option Nat
  manifest : Option CkManifest
  remoteOk : Bool
  remoteSent : Bool
  deriving DecidableEq, Repr

/-- A restore in progress (R550, R551): source, manifests read (raw bytes by slot), the one in use, entries left,
granule directory of the shard in hand, outcome once known. -/
structure CkRestore where
  remote : Bool
  raw : List (Nat × Bytes)
  trying : Option CkManifest
  left : List CkEntry
  cmd : Option Nat
  result : Option Nat
  deriving DecidableEq, Repr

/-- The checkpoint engine of one partition beside its registers (R534–R553). A granule not listed is DIRTY. -/
structure CkSt where
  gran : List (Nat × GranSt)
  /-- The mark at which the cut of a trigger is due (R536), and that from which the Cure may start. -/
  trig : Option Nat
  skimEnd : Option Nat
  lastCut : Nat
  /-- Latest step count by Tether port (R537). -/
  steps : List (Nat × Nat)
  cut : Option CkCut
  /-- Granules whose copies have started (R541, R542). -/
  copying : List Nat
  cure : Option CkCure
  restore : Option CkRestore
  newest : Option CkManifest
  other : Option CkManifest
  /-- The MACs that the engine last wrote or read, by slot (R553). -/
  macs : List (Nat × Bytes)
  deriving DecidableEq, Repr

/-- A message of the mirror send queue (R600, R602): kind, argument, byte mask, data, and the tag of
a storage write's acknowledgement. -/
structure MirMsg where
  kind : Nat
  arg : Nat
  mask : Nat
  data : Bytes
  tag : Nat
  deriving DecidableEq, Repr

/-- The pair beside its registers (R599–R613). -/
structure PairSt where
  /-- Mirror messages queued and writes' messages that wait for room, by partition (R604). -/
  mq : List (Nat × List MirMsg)
  waiting : List (Nat × List MirMsg)
  /-- Resyncs in progress: partition, and the next granule to send (R605). -/
  resync : List (Nat × Nat)
  /-- The partner's last heartbeat, and whether one arrived in this orbit (R607). -/
  beat : Option Beat
  heard : Bool
  /-- Loss declared and not yet acted on (R609). -/
  lossDue : Bool
  lost : Bool
  /-- Partitions and namespaces whose descriptors agreed, and those treated as unmirrored (R602, R603). -/
  agreed : List Nat
  nsAgreed : List Nat
  unmir : List Nat
  nsUnmir : List Nat
  /-- Handovers asked for with their marks, those that drain, those offered (R610). -/
  handDue : List (Nat × Nat)
  draining : List Nat
  offered : List Nat
  /-- Standby takeovers commanded with the partner lost, and their marks. -/
  takeDue : List (Nat × Nat)
  /-- The sled is leaving: heartbeats carry STATE 3 (R611). -/
  leaving : Bool
  /-- The orbit of READY while a returning sled holds its partitions as standby (R612). -/
  holdFrom : Option Nat
  /-- Partitions for which the partner showed PRIMARY during the hold (R612). -/
  seenPrim : List Nat
  /-- The roles of the image (R612, R613). -/
  imgPrim : Nat
  /-- Storage writes that await their WRITE_ACK: tag, partition and namespace (R602). -/
  acks : List (Nat × Nat × Nat)
  nextTag : Nat
  deriving DecidableEq, Repr
/-- Who waits for the data of a read of host memory: a kind of requester, its number and a number of its own. -/
inductive HWho where
  | dma (e ch : Nat)
  | dmaProd (e ch : Nat)
  | srmtSqe (v q : Nat)
  | srmtRqe (v q : Nat)
  | srmtData (v q n : Nat)
  | stgData (q n : Nat)
  | replay
  deriving DecidableEq, Repr

/-- A read of host memory that the sled makes (R361–R364): its requester, its share (partition or 16), its address and
length, the bytes issued so far, the pieces that have arrived by offset, and a failure: R364 HOST_TIMEOUT (true) or
R357 HOST_POISONED (false). -/
structure HostRd where
  who : HWho
  share : Nat
  addr : Nat
  len : Nat
  issued : Nat
  got : List (Nat × Bytes)
  fail : Option Bool
  deriving DecidableEq, Repr

/-- A tag in use (R362): the requester, the offset in its read, and the bytes still to come. -/
structure HostTag where
  tag : Nat
  who : HWho
  off : Nat
  len : Nat
  deriving DecidableEq, Repr

/-- A received TLP that waits in a receive queue (R359, R360). -/
inductive Tlp where
  | bar0 (off len : Nat) (wr : Option Bytes)
  | read (off len : Nat)
  | write (off : Nat) (data : Bytes)
  deriving DecidableEq, Repr

/-- The host endpoint beside its registers (R347–R377). -/
structure HostSt where
  /-- Configuration space: doublewords that differ from their reset value, by 1,024 · function + doubleword; function 0
  is PF0, function v + 1 is VF v. -/
  cfg : List (Nat × Word)
  reads : List HostRd
  tags : List HostTag
  /-- Tags that a timeout or a squash holds, with the orbit from which (R364, R398). -/
  hold : List (Nat × Nat)
  /-- TLPs that wait for a HOST slot, by share, oldest first (R361). -/
  outq : List (Nat × List Out)
  /-- Receive queues by function, and the link input with its arrival cycles (R360). -/
  rxq : List (Nat × List Tlp)
  linkIn : List (Nat × Nat × Tlp)
  /-- The link is in L2/L3 Ready (R368). -/
  l23 : Bool
  /-- PERST# asserted; WAKE# asserted (R369, R584). -/
  perst : Bool
  wake : Bool
  /-- Virtual functions in a Function Level Reset, with the marks from which it may complete (R398). -/
  flr : List (Nat × Nat)
  /-- Held tags whose late completions count for a virtual function's reset (R398). -/
  stale : List (Nat × Nat)
  deriving DecidableEq, Repr

/-- A message that waits to be sent on a port: its header, its byte mask (WRITE_MASKED) and its data, and whether it
goes ahead of other completions (a chunk of a class-0 read, R334). -/
structure TlTx where
  h : MsgHdr
  mask : BitVec 64
  data : Bytes
  first : Bool
  deriving DecidableEq, Repr

/-- A request that the sled made on a port (R327, R329): its tag, who made it, whether it writes, the pieces of a read's
data by byte offset, and its final status once it has one (0x100 is LINK_DOWN). -/
structure TlReq where
  tag : Nat
  who : HWho
  write : Bool
  got : List (Nat × Bytes)
  status : Option Nat
  deriving DecidableEq, Repr

/-- One Tether port (0–7) or the pair link (8) beside its registers (R318–R346, R599). -/
structure PortSt where
  /-- SEQ of the last PAYLOAD flit accepted, whether a NAK has been sent for the gap, good flits in a row. -/
  rxAck : Nat
  naked : Bool
  good : Nat
  /-- SEQ of the next PAYLOAD flit, flits not acknowledged (FIRST_HDR and units by SEQ), consecutive resends. -/
  txSeq : Nat
  replay : List (Nat × Nat × List Bytes)
  resends : Nat
  /-- Units of a message not yet whole, and messages received and not acted on, oldest first. -/
  stream : List Bytes
  rxq : List (MsgHdr × BitVec 64 × Bytes)
  txq : List TlTx
  req : List TlReq
  /-- By channel (P, NP, CPL): the peer's advertised size, units sent, units that the peer freed, units received, units
  that the sled freed. -/
  adv : List Nat
  sent : List Nat
  peerFreed : List Nat
  rxUnits : List Nat
  freed : List Nat
  /-- PARAM: a valid one received, with ACK_SEEN, and one sent with ACK_SEEN (R339). -/
  paramSeen : Bool
  peerSeen : Bool
  ackSent : Bool
  /-- Time exchanges: number and T1 of the one outstanding, count since TIME, offset and delay of the last eight kept. -/
  exch : Option (Nat × Nat)
  exchNo : Nat
  exchDone : Nat
  kept : List (Int × Int)
  deriving DecidableEq, Repr

/-- A DMA descriptor in progress (R473–R483): its channel, its words, its start, the source bytes read so far and the
status and DETAIL that stopped the reading, bytes written so far, and whether its half event is sent. -/
structure DmaRun where
  ch : Nat
  desc : List Word
  start : Nat
  data : Option Bytes
  fail : Option (Nat × Nat)
  moved : Nat
  half : Bool
  deriving DecidableEq, Repr

/-- A DMA channel beside its registers (R471–R481): PROD and RESUME as last read, the consumer index of the record ring,
its phase, a record held. -/
structure DmaCh where
  prod : Nat
  resume : Nat
  tail : Nat
  phase : Bool
  held : Option Bytes
  deriving DecidableEq, Repr

/-- A DMA engine beside its registers: the channel served last, the channel selected with the descriptors left of its
batch, the cycle since which its head has waited, the descriptor in progress, its channels. -/
structure DmaSt where
  last : Nat
  batch : Option (Nat × Nat)
  since : Nat
  run : Option DmaRun
  ch : List (Nat × DmaCh)
  deriving DecidableEq, Repr, Inhabited

/-- A frame in a partition's ingress share (R421): partition, queue and class of its rule, arrival cycle, bytes. -/
structure RxFrame where
  part : Nat
  queue : Nat
  cls : Nat
  since : Nat
  bytes : Bytes
  deriving DecidableEq, Repr

/-- A slow-path frame (R422): its port, its bytes, and whether it has been reinjected before (R423). -/
structure SlowFrame where
  port : Nat
  bytes : Bytes
  again : Bool
  deriving DecidableEq, Repr

/-- Fragments of one datagram under reassembly (R422): share, key (addresses and identification), cycle of the first,
the first's bytes up to its fragment header, pieces by offset, total length once known, next header. -/
structure FragSet where
  share : Nat
  key : Bytes
  since : Nat
  head : Bytes
  nh : Nat
  parts : List (Nat × Bytes)
  total : Option Nat
  deriving DecidableEq, Repr

/-- Ethernet beside its registers (R410–R430). -/
structure EthSt where
  /-- The MODE in effect (R411). -/
  mode : Nat
  rx : List RxFrame
  slow : List (Nat × List SlowFrame)
  frags : List FragSet
  /-- Shaper queues, oldest frame first, and the cycles in which their heads became heads (R425, R428). -/
  q : List (Nat × List Bytes)
  head : List (Nat × Nat)
  /-- Queue served last by 4 · port + class, and cycles until which ports transmit (R426, R53). -/
  served : List (Nat × Nat)
  busy : List (Nat × Nat)
  deriving DecidableEq, Repr

/-- Where a packet's payload comes from (R448, R460): partition memory, read again at each resend, or bytes at hand. -/
inductive TxSrc where
  | mem (a : Nat)
  | bytes (b : Bytes)
  deriving DecidableEq, Repr

/-- A data packet of a connection (R432): its PSN once sent, type, MSN, offset and length in its message, TARGET,
WIN_OFFSET, flags LAST and ABORT, payload length and source, its TRY and TS, and whether a fast resend has been made. -/
structure TxPkt where
  psn : Nat
  typ : Nat
  msn : Nat
  off : Nat
  msgLen : Nat
  target : Nat
  winOff : Nat
  last : Bool
  abort : Bool
  len : Nat
  src : TxSrc
  shq : Nat
  tries : Nat
  ts : Nat
  fast : Bool
  acked : Bool
  deriving DecidableEq, Repr

/-- A message in reassembly (R457): its first packet's length, type and TARGET, indices received, whether it is done,
the status and DETAIL of its failure, and for a SEND its receive entry: buffer, host location, WR_ID. -/
structure RxMsg where
  msn : Nat
  len : Nat
  typ : Nat
  target : Nat
  got : List Nat
  done : Bool
  fail : Option (Nat × Nat)
  addr : Nat
  loc : Bool
  wrid : Nat
  deriving DecidableEq, Repr

/-- A message of a READ in progress (R460): its MSN, length, local place and indices received. -/
structure RdMsg where
  msn : Nat
  len : Nat
  addr : Nat
  loc : Bool
  got : List Nat
  /-- Bytes received, where the checkpoint engine reads into its own buffer. -/
  data : Option (List (Nat × Bytes))
  deriving DecidableEq, Repr

/-- A connection context (R437–R445, R461–R464); state 0 FREE, 1 OPENING, 2 ESTABLISHED, 3 CLOSING, 4 ERROR. -/
structure SrCtx where
  state : Nat
  gen : Nat
  vf : Nat
  peerAddr : Nat
  peerConn : Nat
  peerGen : Nat
  iid : Nat
  paths : Nat
  pmtu : Nat
  dscp : Nat
  retry : Nat
  rq : Nat
  ctlq : Nat
  rto : Nat
  /-- Direction keys and salts (R435, R500): 72 bytes in the resident key store, or wrapped at the service package. -/
  keys : Bytes
  wrapped : Option Bytes
  resident : Bool
  used : Nat
  nextPsn : Nat
  nextMsn : Nat
  nextSend : Nat
  path : Nat
  /-- Data packets sent and not acknowledged, and packets made and not sent. -/
  unacked : List TxPkt
  wait : List TxPkt
  peerMsn : Nat
  cwnd : Nat
  lastCut : Nat
  srtt : Option Nat
  rnr : Bool
  expiries : Nat
  connTry : Nat
  accTry : Nat
  cumPsn : Nat
  sack : List Nat
  cumMsn : Nat
  msgs : List RxMsg
  reads : List RdMsg
  nextSeq : Nat
  ackSeq : Nat
  lastAck : Nat
  ce : Bool
  ackDue : Bool
  lastTs : Nat
  /-- PSN of a CLOSE received (R440). -/
  closeAt : Option Nat
  closeSent : Bool
  deriving DecidableEq, Repr

/-- A send entry in progress (R448, R449): its fields, messages in all and taken, MSNs not completed, its status and
DETAIL once it has failed, host data or data of its own. -/
structure SrEnt where
  idx : Nat
  op : Nat
  conn : Nat
  wrid : Nat
  signal : Bool
  len : Nat
  loc : Bool
  addr : Nat
  win : Nat
  winOff : Nat
  total : Nat
  next : Nat
  left : List Nat
  status : Option (Nat × Nat)
  data : Option Bytes
  deriving DecidableEq, Repr

/-- A send queue (R447–R450). -/
structure SrSq where
  base : Nat
  log2 : Nat
  loc : Bool
  shq : Nat
  cq : Nat
  tail : Nat
  done : Nat
  since : Option Nat
  ents : List SrEnt
  /-- Entries posted but not started that complete with a status when their turn comes (R440, R443): connection, how many
  entries from the head, status, DETAIL. -/
  flush : List (Nat × Nat × Nat × Nat)
  deriving DecidableEq, Repr

/-- A receive queue (R451), with its entries read from host memory by index. -/
structure SrRq where
  base : Nat
  log2 : Nat
  loc : Bool
  cq : Nat
  tail : Nat
  done : Nat
  conn : Option Nat
  ents : List (Nat × Bytes)
  deriving DecidableEq, Repr

/-- A completion queue (R452). -/
structure SrCq where
  base : Nat
  log2 : Nat
  loc : Bool
  vec : Nat
  head : Nat
  phase : Bool
  armed : Bool
  held : List Bytes
  deriving DecidableEq, Repr

/-- A window (R455): generation, function, base, length, rights, the orbit from which it admits, and the orbit from
which a revoke fails its checks. -/
structure SrWin where
  gen : Nat
  vf : Nat
  base : Nat
  len : Nat
  wr : Bool
  rd : Bool
  opened : Option Nat
  closes : Option Nat
  deriving DecidableEq, Repr

/-- A function's admin queue beside its registers: its producer index, and a window command that awaits its mark: open
or revoke, the entry's address, the result, the orbit; a stop after an unreadable entry (R454, R455). -/
structure SrAq where
  tail : Nat
  pend : Option (Bool × Nat × Nat × Nat)
  stopped : Bool
  deriving DecidableEq, Repr

/-- SRMT beside its registers (R431–R470): contexts by 2^20 · partition + index, queues by 64 · function + queue,
windows by 2^17 · partition + index, packets in the miss buffer with their arrival cycles. Function 64 holds the
checkpoint engines' own send queues, by partition (R549). -/
structure SrmtSt where
  ctx : List (Nat × SrCtx)
  sq : List (Nat × SrSq)
  rq : List (Nat × SrRq)
  cq : List (Nat × SrCq)
  win : List (Nat × SrWin)
  aq : List (Nat × SrAq)
  miss : List (Nat × Nat × SrmtPkt)
  deriving DecidableEq, Repr

/-- Who waits for a cartridge command: a tenant command's read of a block, its write with FUA, its deallocation or its
Flush; a flush write of the buffer and the read that fills a part-written block; a self-test read; the steps of a mount,
of a format and of an eject; a Cure's or a restore's command; a block that a resync sends. -/
inductive CartWho where
  | cmdRead (cmd block : Nat)
  | cmdDealloc (cmd : Nat)
  | cmdFlush (cmd : Nat)
  | bufWrite (block : Nat)
  | bufFill (block : Nat)
  | test (p : Nat)
  | init
  | record
  | header (n : Nat)
  | manifest (p slot : Nat)
  | fmtDealloc (n : Nat)
  | fmtHeader (n : Nat)
  | ejFlush
  | ejClean
  | ejShutdown
  | cure (p : Nat)
  | restore (p : Nat)
  | resync (n block : Nat)
  | plain
  deriving DecidableEq, Repr

/-- A cartridge command: its class and share (R525), what it does, who waits, how often it has failed, whether it is
outstanding on the cartridge. -/
structure CartCmd where
  id : Nat
  cls : Nat
  share : Nat
  op : CartOp
  who : CartWho
  tries : Nat
  issued : Bool
  deriving DecidableEq, Repr

/-- A submission queue of a virtual function (R510–R513), with what has been read from host memory for its next command. -/
structure NvSq where
  made : Bool
  base : Nat
  size : Nat
  loc : Bool
  dataLoc : Bool
  cq : Nat
  head : Nat
  tail : Nat
  pre : List (Nat × (Bytes ⊕ Bool))
  deriving DecidableEq, Repr

/-- A completion queue (R514): its vector if interrupts are enabled, its phase, completions held. -/
structure NvCq where
  made : Bool
  base : Nat
  size : Nat
  loc : Bool
  iv : Option Nat
  head : Nat
  tail : Nat
  phase : Bool
  held : List Bytes
  deriving DecidableEq, Repr

/-- A block of the write buffer (R518–R520): cartridge block, partition, namespace, ciphertext, the 512-byte sectors
written, whether it awaits its flush write and how urgently, whether a write is outstanding, and whether the block has
changed since that write began. -/
structure StgBlk where
  block : Nat
  part : Nat
  ns : Nat
  data : Bytes
  mask : Nat
  dirty : Bool
  fua : Bool
  busy : Bool
  again : Bool
  deriving DecidableEq, Repr

/-- What an admitted command waits for: an earlier command's range, room in its buffer share, the cartridge or the
partner, the cartridge Flush. -/
inductive StgPhase where
  | lock
  | fill
  | cart
  | flush
  deriving DecidableEq, Repr

/-- An admitted command (R513, R518–R523): where it came from, its namespace, LBA range and rules, its data pages, the
pieces still to put into the buffer (block, first sector, ciphertext), the cartridge blocks it waits for, what a read has
received, the mirror acknowledgements it waits for, and a failure. -/
structure StgCmd where
  id : Nat
  part : Nat
  v : Nat
  y : Nat
  cid : Nat
  op : Nat
  ns : Nat
  lba : Nat
  nlb : Nat
  fua : Bool
  phase : StgPhase
  pages : List (Nat × Nat)
  dataLoc : Bool
  data : Bytes
  todo : List (Nat × Nat × Bytes)
  left : List Nat
  got : List (Nat × Bytes)
  tags : List Nat
  failed : Option Nat
  deriving DecidableEq, Repr

/-- A self-test of a partition (R526): short or extended, the NSID it names, the namespaces left with the next extent. -/
structure StgTest where
  code : Nat
  nsid : Nat
  left : List (Nat × Nat)
  deriving DecidableEq, Repr

/-- The storage service beside its registers (R510–R531). -/
structure StgSt where
  /-- Submission and completion queues by 32 · function + number. -/
  sq : List (Nat × NvSq)
  cq : List (Nat × NvCq)
  buf : List StgBlk
  cmds : List StgCmd
  cart : List CartCmd
  nextId : Nat
  /-- The share served last, by class (R525). -/
  served : List (Nat × Nat)
  tests : List (Nat × StgTest)
  /-- Self-test results of a partition, newest first, of 28 bytes each. -/
  results : List (Nat × List Bytes)
  /-- Namespaces whose buffered data was lost, and those that the cartridge's flush record lists (R522, R530). -/
  lost : List Nat
  listed : List Nat
  /-- The size of the cartridge in blocks. -/
  blocks : Nat
  /-- A cartridge lies in the bay. -/
  bay : Bool
  deriving DecidableEq, Repr

/-- A replay of a partition (R645): the orbit of its recording's START, the mark at which it began (none before), the
block of stream 0 to read next, and the record bytes read and not yet injected. -/
structure ReplaySt where
  o0 : Nat
  start : Option Nat
  block : Nat
  buf : Bytes
  deriving DecidableEq, Repr

/-- The telemetry and debug state beside its registers (R615–R646). -/
structure DbgSt where
  /-- The register file as the last orbit sample recorded it (R615). -/
  sample : List (Nat × Word)
  /-- Tail rings by UNIT, newest entry first (R622). -/
  tails : List (Nat × List TailEntry)
  /-- The mark at which a requested stop takes effect (R637). -/
  stopDue : Option Nat
  /-- Records waiting in the staging buffer of a stream, with their orbits, oldest first, by 4 · partition + stream
  (R630). -/
  stage : List (Nat × List (Nat × Bytes))
  /-- Changes of RECORD that await their marks: mark, partition, new value (R642). -/
  recDue : List (Nat × Nat × Bool)
  replay : List (Nat × ReplaySt)
  /-- A decryption of capture blocks in progress: its outcome (R631). -/
  decrypt : Option Nat
  /-- A dump in progress (R640). -/
  dumping : Bool
  /-- Frames that the Ethernet ports keep during a global stop, with their orbits (R639). -/
  capEth : List (Nat × List (Nat × Bytes))
  deriving DecidableEq, Repr

/-- The whole state of the sled. -/
structure State where
  /-- The commands that wait, first in, first out. -/
  pending : List Instr
  /-- Every register field of the spec's register tables, by key; a key not listed holds its reset value. -/
  rf : List (Nat × Word)
  latch : LatchSt
  tm : TimeSt
  log : LogSt
  dbg : DbgSt
  fab : FabSt
  scr : ScrSt
  /-- The engines ME0–ME63. -/
  eng : List (Nat × EngSt)
  /-- PX0–PX31 and SV0–SV7 (32–39). -/
  cores : List (Nat × CoreSt)
  pt : PtSt
  fw : FwSt
  boot : BootSt
  pwr : PwrSt
  ecl : EclSt
  panel : PanelSt
  i3c : I3cSt
  cph : CphSt
  /-- Checkpoint engines by partition. -/
  ck : List (Nat × CkSt)
  pair : PairSt
  host : HostSt
  /-- DMA engines D0–D15. -/
  dma : List (Nat × DmaSt)
  eth : EthSt
  srmt : SrmtSt
  stg : StgSt
  /-- Tether ports 0–7 and the pair link 8. -/
  ports : List (Nat × PortSt)
  /-- What the sled has sent, oldest first. -/
  out : List Out
  /-- The valid table sets by 16 · cluster + set (R204). -/
  trw : List (Nat × Option TrwSet)
  /-- The number of the next free value drawn (DRBG words). -/
  draws : Nat
  deriving DecidableEq, Repr

/-- Why the sled stops. The spec gives every command an effect in every state, so nothing raises a fault. -/
inductive Fault where
  /-- Raised by no command. Safe: a run never ends in it. -/
  | none
  deriving DecidableEq, Repr

/-- Why a command is refused. -/
inductive Refusal where
  /-- A command whose meaning is not modelled, by its mnemonic; no command of this model is. Safe: it only stops a run. -/
  | notModelled (mnemonic : String)
  deriving DecidableEq, Repr

/-- The fuses of a die on which nothing has been programmed (DESIGN CHOICE: a die's fuses are its own). -/
def FuseSt.blank : FuseSt := ⟨true, 0, 0, 0, [], [], []⟩

/-- The sled right after class P: every register at its reset value, the boot in stage FUSES (R583, R584). -/
def State.reset : State where
  pending := []
  rf := []
  latch := ⟨[], [], none⟩
  tm := ⟨0, 0, 0, 0, none, [], [], [], false, false⟩
  log := ⟨[], 0, 0, 0, [], []⟩
  dbg := ⟨[], [], none, [], [], [], none, false, []⟩
  fab := ⟨[], [], false, [], [], [], [], [], none, [], [], none⟩
  scr := ⟨[], [], [], [], [], [], [], []⟩
  eng := []
  cores := []
  pt := ⟨none, [], [], [], [], [], [], none⟩
  fw := ⟨[], [], [], [], [], []⟩
  boot := ⟨FuseSt.blank, FuseSt.blank, [], false, [], false, none, none, 0, none, false⟩
  pwr := ⟨true, false, false⟩
  ecl := ⟨none, 0, 0⟩
  panel := ⟨none, none, false, none, none, [], [], false, [], [], []⟩
  i3c := ⟨none, none⟩
  cph := ⟨[], [], [], 0, [], [], none, false, [], [], [], [], 0, 0⟩
  ck := []
  pair := ⟨[], [], [], none, false, false, true, [], [], [], [], [], [], [], [], false, none, [], 0, [], 0⟩
  host := ⟨[], [], [], [], [], [], [], false, false, false, [], []⟩
  dma := []
  eth := ⟨0, [], [], [], [], [], [], []⟩
  srmt := ⟨[], [], [], [], [], [], []⟩
  stg := ⟨[], [], [], [], [], 0, [], [], [], [], [], 0, false⟩
  ports := []
  out := []
  trw := []
  draws := 0

end Sys2Proof.Machine
end

