-- ==== Sys2Proof/Machine/Ops.lean ====
section
/-! DEFINITION. The operations that every block shares: registers and their fields, the partition map, time and the
marks at which pending changes take effect, the log ring, the Tail rings, service alarms and the management
journal. -/

namespace Sys2Proof.Machine

/-! Registers. -/

/-- The stored word of the register at a key. -/
def State.reg (s : State) (k : Nat) : Word := Tab.get regDefault s.rf k

/-- The state with the register at a key set to a word. -/
def State.setReg (s : State) (k : Nat) (v : Word) : State := { s with rf := Tab.set regDefault s.rf k v }

/-- A field of the register at a key. -/
def State.fld (s : State) (k : Nat) (f : Fld) : Nat := f.get (s.reg k)

/-- The state with a field set, cut to its width. -/
def State.setFld (s : State) (k : Nat) (f : Fld) (n : Nat) : State := s.setReg k (f.put (s.reg k) n)

/-- Whether a one-bit field reads 1. -/
def State.flag (s : State) (k : Nat) (f : Fld) : Bool := s.fld k f == 1

/-- Bit `i` of a field. -/
def State.bit (s : State) (k : Nat) (f : Fld) (i : Nat) : Bool := (s.fld k f).testBit i

/-- The state with bit `i` of a field set or cleared. -/
def State.setBit (s : State) (k : Nat) (f : Fld) (i : Nat) (b : Bool) : State :=
  let n := s.fld k f
  s.setFld k f (if n.testBit i == b then n else if b then n + 2 ^ i else n - 2 ^ i)

/-- The state with a counter field advanced; it wraps at its width. -/
def State.bumpBy (s : State) (k : Nat) (f : Fld) (n : Nat) : State := s.setFld k f (s.fld k f + n)

/-- The state with a counter field advanced by one. -/
def State.bump (s : State) (k : Nat) (f : Fld) : State := s.bumpBy k f 1

/-- The quantity in a _LO and _HI pair (R14). -/
def State.reg64 (s : State) (lo hi : Nat) : Nat := (s.reg lo).toNat + 2 ^ 32 * (s.reg hi).toNat

/-- The state with a _LO and _HI pair set. -/
def State.setReg64 (s : State) (lo hi n : Nat) : State :=
  (s.setReg lo (BitVec.ofNat 32 n)).setReg hi (BitVec.ofNat 32 (n / 2 ^ 32))

/-! Time. -/

/-- Cycles in an orbit (R7). -/
def orbitCycles : Nat := 16384

/-- The core cycles since the orbit counter last stood at 0. -/
def State.now (s : State) : Nat := s.tm.orbit.toNat * orbitCycles + s.tm.cycle

/-- The orbit counter as a number. -/
def State.orbitN (s : State) : Nat := s.tm.orbit.toNat

/-- The orbit number that a partition observes: shifted while its replay runs (R645). -/
def State.obsOrbit (s : State) (o : Option Nat) : Nat :=
  match o with
  | none => s.orbitN
  | some p =>
    match s.dbg.replay.find? (fun e => e.1 == p) with
    | some (_, r) =>
      match r.start with
      | some m => (s.orbitN + 2 ^ 48 + r.o0 - m) % 2 ^ 48
      | none => s.orbitN
    | none => s.orbitN

/-- The mark at which a change written now takes effect (R60). -/
def State.markDue (s : State) : Nat := s.orbitN + (if s.tm.cycle ≤ 16127 then 1 else 2)

/-- Device time in whole nanoseconds (R47, R619). -/
def State.devNs (s : State) : Nat := s.tm.dev / (16384 * 10 ^ 9) % 2 ^ 64

/-- Device time advanced by some cycles (R47, R619): 8,000 ns and the slew per orbit, evenly. -/
def State.devAdvance (s : State) (cycles : Nat) : State :=
  { s with tm := { s.tm with dev := s.tm.dev + cycles * (8000 * (10 ^ 9 + s.tm.slew)).toNat } }

/-! The partition map (R379). -/

/-- Entry `i` of the active partition map: packages 0–31, clusters 32–47, Tether ports 48–55, DMA engines 56–71,
virtual functions 72–135. -/
def State.mapEntry (s : State) (i : Nat) : Nat := bitsOf (s.reg (Reg.PT_MAP_ACT (i / 4))).toNat (8 * (i % 4)) 8

/-- The partition that an entry names, if any. -/
def asPart (e : Nat) : Option Nat := if e < 16 then some e else none

/-- The owner of package `k` (R71). -/
def State.pkgOwner (s : State) (k : Nat) : Option Nat := asPart (s.mapEntry k)
/-- The owner of cluster `c`. -/
def State.clOwner (s : State) (c : Nat) : Option Nat := asPart (s.mapEntry (32 + c))
/-- The owner of Tether port `n` in the active map. -/
def State.portOwner (s : State) (n : Nat) : Option Nat := asPart (s.mapEntry (48 + n))
/-- The owner of DMA engine `e`, if a partition owns it. -/
def State.dmaOwner (s : State) (e : Nat) : Option Nat := asPart (s.mapEntry (56 + e))
/-- Whether firmware holds DMA engine `e`. -/
def State.dmaFirmware (s : State) (e : Nat) : Bool := s.mapEntry (56 + e) == 0x10
/-- The partition that virtual function `v` is bound to in VF_STATUS (R350). -/
def State.vfPart (s : State) (v : Nat) : Option Nat :=
  if s.flag (Reg.VF_STATUS v) Fld.VF_STATUS_BOUND then some (s.fld (Reg.VF_STATUS v) Fld.VF_STATUS_PARTITION) else none

/-- The packages a partition owns, in order (R72). -/
def State.pkgsOf (s : State) (p : Nat) : List Nat := (List.range 32).filter (fun k => s.pkgOwner k == some p)
/-- The clusters a partition owns, in order. -/
def State.clustersOf (s : State) (p : Nat) : List Nat := (List.range 16).filter (fun c => s.clOwner c == some p)
/-- The Tether ports a partition owns, in order. -/
def State.portsOf (s : State) (p : Nat) : List Nat := (List.range 8).filter (fun n => s.portOwner n == some p)
/-- The DMA engines a partition owns, in order. -/
def State.dmasOf (s : State) (p : Nat) : List Nat := (List.range 16).filter (fun e => s.dmaOwner e == some p)
/-- The virtual functions bound to a partition, in order. -/
def State.vfsOf (s : State) (p : Nat) : List Nat := (List.range 64).filter (fun v => s.vfPart v == some p)

/-- The key epoch of a partition (R384). -/
def State.epoch (s : State) (p : Nat) : Nat := s.fld (Reg.PT_EPOCH p) Fld.PT_EPOCH_EPOCH

/-- The mode in force: whether partition `p` is sealed (R55, R62). -/
def State.isSealed (s : State) (p : Nat) : Bool := s.bit Reg.EPH_MODE_ACT Fld.EPH_MODE_ACT_SEALED p

/-- Whether partition `p` is frozen (R402). -/
def State.isFrozen (s : State) (p : Nat) : Bool := s.bit Reg.PT_FROZEN Fld.PT_FROZEN_PARTS p

/-- Whether the compute side starts no work: D3hot (R154), a global stop (R638), an Eclipse reset (R592). -/
def State.computeHeld (s : State) : Bool :=
  s.fld Reg.EP_STATUS Fld.EP_STATUS_DSTATE == 3 || s.flag Reg.DBG_STATUS Fld.DBG_STATUS_STOPPED
    || s.flag Reg.ECL_STATUS Fld.ECL_STATUS_ACTIVE

/-- Whether an owner is neither frozen nor freezing (R402). -/
def State.ownerThawed (s : State) (o : Option Nat) : Bool :=
  match o with
  | some p => !s.isFrozen p && !s.pt.freezing.contains p
  | none => true

/-- Whether a partition is a standby that only receives its mirror (R606). -/
def State.isStandby (s : State) (p : Nat) : Bool :=
  s.flag Reg.PAIR_STATUS Fld.PAIR_STATUS_PAIR_MODE && s.bit Reg.PAIR_MIRRORED Fld.PAIR_MIRRORED_PARTS p
    && !s.bit Reg.PAIR_PRIMARY Fld.PAIR_PRIMARY_PARTS p && !s.pair.unmir.contains p

/-- Whether the agents of an owner start work: it is not frozen nor freezing (R402) and no standby (R606). -/
def State.ownerRuns (s : State) (o : Option Nat) : Bool :=
  match o with
  | some p => s.ownerThawed (some p) && !s.isStandby p
  | none => true

/-- Whether the boot has reached READY (R583). -/
def State.ready (s : State) : Bool := s.fld Reg.BOOT_STAGE Fld.BOOT_STAGE_STAGE == 8

/-! Units (R614). -/

def Unit.me (e : Nat) : Nat := e
def Unit.trowel (e : Nat) : Nat := 0x40 + e
def Unit.px (x : Nat) : Nat := 0x80 + x
def Unit.pkg (k : Nat) : Nat := 0xA0 + k
def Unit.port (n : Nat) : Nat := 0xD0 + n
def Unit.eth (n : Nat) : Nat := 0xE0 + n
def Unit.shaper : Nat := 0xE8
def Unit.srmt : Nat := 0xE9
def Unit.dma (e : Nat) : Nat := 0xF0 + e
def Unit.scratch (c : Nat) : Nat := 0x100 + c
def Unit.sv (i : Nat) : Nat := 0x110 + i
def Unit.cipher : Nat := 0x120
def Unit.storage : Nat := 0x121
def Unit.ckpt : Nat := 0x122
def Unit.host : Nat := 0x123
def Unit.boot : Nat := 0x124
def Unit.policy : Nat := 0x125
def Unit.panel : Nat := 0x126

/-- The partition that owns a unit (R614); none for a device unit or an unowned one. -/
def State.unitOwner (s : State) (u : Nat) : Option Nat :=
  if u < 0x40 then s.clOwner (u / 4)
  else if u < 0x80 then s.clOwner ((u - 0x40) / 4)
  else if u < 0xA0 then s.clOwner ((u - 0x80) / 2)
  else if u < 0xC0 then s.pkgOwner (u - 0xA0)
  else if 0xD0 ≤ u ∧ u < 0xD8 then s.portOwner (u - 0xD0)
  else if 0xF0 ≤ u ∧ u < 0x100 then s.dmaOwner (u - 0xF0)
  else if 0x100 ≤ u ∧ u < 0x110 then s.clOwner (u - 0x100)
  else none

/-! Capture staging (R628, R630). -/

/-- The bytes that wait in a staging buffer. -/
def stagedBytes (l : List (Nat × Bytes)) : Nat := (l.map (fun e => e.2.length)).sum

/-- A record put into the staging buffer of stream 1, 2 or 3 of a partition; dropped and counted when the 64 KiB
buffer is full (R630); nothing while the region is bad or of length 0 (R628) or the stream's invocation counter stands
at its limit (R507). -/
def State.capPush (s : State) (p str : Nat) (r : Bytes) : State :=
  if s.flag (Reg.DBG_CAP_STATUS p) Fld.DBG_CAP_STATUS_CAP_BAD || s.fld (Reg.DBG_CAP_LEN p) Fld.DBG_CAP_LEN_UNITS == 0
      || s.flag (Reg.CPH_DBG_INV_HI p str) Fld.CPH_DBG_INV_HI_COUNT then s
  else
    let q := Tab.get (fun _ => []) s.dbg.stage (4 * p + str)
    if stagedBytes q + r.length > 65536 then s.bump (Reg.DBG_CAP_DROP p) Fld.DBG_CAP_DROP_COUNT
    else { s with dbg := { s.dbg with stage := Tab.set (fun _ => []) s.dbg.stage (4 * p + str) (q ++ [(s.orbitN, r)]) } }

/-! Tail rings (R622–R624). -/

/-- A Tail entry as its 16 bytes. -/
def TailEntry.bytes (t : TailEntry) : Bytes :=
  le 1 t.kind ++ le 1 t.code ++ le 2 t.detail ++ le 6 t.orbit ++ le 6 t.cycle

/-- A unit's ring records an event, unless the rings are frozen (R622, R623). -/
def State.tailEvent (s : State) (unit kind code detail : Nat) : State :=
  if s.flag Reg.DBG_STATUS Fld.DBG_STATUS_TAIL_FROZEN then s
  else
    let e : TailEntry := ⟨kind, code, detail, s.orbitN, s.tm.cycle⟩
    let l := Tab.get (fun _ => []) s.dbg.tails unit
    { s with dbg := { s.dbg with tails := Tab.set (fun _ => []) s.dbg.tails unit ((e :: l).take 64) } }

/-! The log ring (R573, R634, R635). -/

/-- The rank of a class, 1 highest (R634). -/
def logRank (cls : Nat) : Nat := if cls == 1 || cls == 5 then 1 else cls

/-- The lowest rank present in the ring, as the largest rank number; 0 in an empty ring. -/
def lowestRank (l : List (Nat × LogEntry)) : Nat := l.foldl (fun m e => max m (logRank e.2.cls)) 0

/-- The slot of the oldest entry of a rank. -/
def oldestOf (r : Nat) (l : List (Nat × LogEntry)) : Option (Nat × LogEntry) :=
  l.foldl (fun acc e =>
    if logRank e.2.cls == r then
      match acc with
      | some a => if e.2.seq < a.2.seq then some e else acc
      | none => some e
    else acc) none

/-- A count list advanced by one for a key. -/
def countUp (l : List ((Nat × Nat) × Nat)) (k : Nat × Nat) : List ((Nat × Nat) × Nat) :=
  match l with
  | [] => [(k, 1)]
  | (j, n) :: t => if j = k then (j, n + 1) :: t else (j, n) :: countUp t k

/-- A count list's value for a key. -/
def countOf (l : List ((Nat × Nat) × Nat)) (k : Nat × Nat) : Nat :=
  match l with
  | [] => 0
  | (j, n) :: t => if j = k then n else countOf t k

/-- The class a drop is counted under (R634): class 5 counts as class 1. -/
def dropClass (cls : Nat) : Nat := if cls == 5 then 1 else cls

/-- A displaced or dropped entry is counted (R634, R395, R636). -/
def State.countDrop (s : State) (cls key : Nat) : State :=
  let s := { s with log := { s.log with drops := countUp s.log.drops (dropClass cls, key) } }
  if cls == 2 then s.bump Reg.PT_JRNL_LOST Fld.PT_JRNL_LOST_COUNT
  else s.bump (Reg.DBG_DROP (dropClass cls % 8)) Fld.DBG_DROP_COUNT

/-- The key of the source that an entry counts against (R635): the UNIT its record names, or 0x8000 + SOURCE. -/
def LogEntry.key (e : LogEntry) : Nat :=
  if e.cls == 3 && e.src != 11 || e.cls == 2 then 0x8000 + e.src else leAt e.record 0 2

/-- The limit of a class per source and orbit (R635); none for the journal and for summaries. -/
def State.logLimit (s : State) (cls : Nat) : Option Nat :=
  if cls == 1 then some (s.fld Reg.DBG_RATE Fld.DBG_RATE_ERR)
  else if cls == 3 then some (s.fld Reg.DBG_RATE Fld.DBG_RATE_TRACE)
  else if cls == 4 then some (s.fld Reg.DBG_RATE Fld.DBG_RATE_SAMPLE)
  else none

/-- An entry put into a slot of the ring, with the next sequence number (R573). -/
def State.logPut (s : State) (slot : Nat) (e : LogEntry) : State :=
  let q := s.log.seq + 1
  let s := { s with log := { s.log with seq := q, ring := Tab.ins s.log.ring slot { e with seq := q } } }
  s.setReg64 Reg.LOG_WR_SEQ_LO Reg.LOG_WR_SEQ_HI q

/-- Slots of the log ring (R573). -/
def logSlots : Nat := 65536

/-- An entry written to the ring by the rank rule of R634, after the rate limit of R635. -/
def State.logWrite (s : State) (e : LogEntry) : State :=
  let key := e.key
  let atLimit : Bool := match s.logLimit e.cls with
    | some n => n ≤ countOf s.log.counts (e.cls, key)
    | none => false
  if atLimit then s.countDrop e.cls key
  else
    let s := { s with log := { s.log with counts := countUp s.log.counts (e.cls, key) } }
    if s.log.used < logSlots then
      let n := s.log.used
      ({ s with log := { s.log with used := n + 1 } }).logPut n e
    else
      let q := lowestRank s.log.ring
      if logRank e.cls ≤ q then
        match oldestOf q s.log.ring with
        | some (slot, old) => (s.countDrop old.cls old.key).logPut slot e
        | none => s.countDrop e.cls key
      else s.countDrop e.cls key

/-- The bytes of an error record (R633). -/
def State.errBytes (s : State) (unit code detail addr alarm : Nat) : Bytes :=
  let part := match s.unitOwner unit with
    | some p => p
    | none => 0x40
  le 2 unit ++ le 1 part ++ le 1 code ++ le 4 detail ++ le 8 addr ++ le 1 alarm ++ zeros 7

/-- An error record of the sled's hardware (R573, R633), with its Tail event (R622 KIND 3). -/
def State.errRecord (s : State) (unit code detail addr alarm : Nat) : State :=
  let e : LogEntry := ⟨0, 1, 11, s.orbitN, s.errBytes unit code detail addr alarm⟩
  (s.logWrite e).tailEvent unit 3 code detail

/-- The rings freeze (R623), and the rings of units whose owner exports them go to the owner's stream 2 (R624). -/
def State.tailFreeze (s : State) : State :=
  let s1 := (s.setFld Reg.DBG_STATUS Fld.DBG_STATUS_TAIL_FROZEN 1).setReg64 Reg.DBG_TAIL_ORBIT_LO Reg.DBG_TAIL_ORBIT_HI s.orbitN
  s1.dbg.tails.foldl (fun t e =>
    match t.unitOwner e.1 with
    | some p =>
      if t.flag (Reg.PT_DEBUG p) Fld.PT_DEBUG_TAIL_EXPORT then
        t.capPush p 2 (le 2 e.1 ++ zeros 14 ++ (e.2.map TailEntry.bytes).flatten)
      else t
    | none => t) s1

/-- A bit of DBG_ALARM is set; a first alarm freezes the Tail rings and may request a stop (R623, R632, R637). -/
def State.alarmBit (s : State) (bit : Nat) : State :=
  if s.bit Reg.DBG_ALARM Fld.DBG_ALARM_ALARMS bit then s
  else
    let s := s.setBit Reg.DBG_ALARM Fld.DBG_ALARM_ALARMS bit true
    let s :=
      if s.flag Reg.DBG_CTRL Fld.DBG_CTRL_STOP_ON_ALARM && s.dbg.stopDue.isNone
          && !s.flag Reg.DBG_STATUS Fld.DBG_STATUS_STOPPED then
        ({ s with dbg := { s.dbg with stopDue := some (s.orbitN + 1) } }).setFld Reg.DBG_STATUS Fld.DBG_STATUS_STOP_PENDING 1
      else s
    if s.flag Reg.DBG_STATUS Fld.DBG_STATUS_TAIL_FROZEN then s else s.tailFreeze

/-- A service alarm (R632): its record, then its bit, so that the rings hold the record's event when they freeze. -/
def State.alarm (s : State) (bit unit code detail addr : Nat) : State :=
  (s.errRecord unit code detail addr (bit + 1)).alarmBit bit

/-- A service alarm for which the unit's chapter names no status code. -/
def State.alarmFree (s : State) (bit unit occ addr : Nat) : State :=
  s.alarm bit unit (Config.alarmCode bit occ).toNat (Config.alarmDetail bit occ).toNat addr

/-! The management journal (R394, R395). -/

/-- The SOURCE code of a writer (R394). -/
def srcCode : Src → Nat
  | .pf0 => 0
  | .i3c => 1
  | .boot => 2
  | .sv i => 3 + i.val

/-- A journal record of a register write. -/
def State.journal (s : State) (src : Src) (off : Nat) (old written : Word) (discarded : Bool) (effect : Nat) : State :=
  let q := s.log.jseq + 1
  let lost := s.reg Reg.PT_JRNL_LOST
  let r := le 8 q ++ le 6 s.orbitN ++ le 1 (srcCode src) ++ le 1 (if discarded then 1 else 0) ++ le 4 off
    ++ le 4 old.toNat ++ le 4 written.toNat ++ le 4 effect
  let s := ({ s with log := { s.log with jseq := q } }).setReg64 Reg.PT_JRNL_SEQ_LO Reg.PT_JRNL_SEQ_HI q
  let s := s.logWrite ⟨0, 2, srcCode src, s.orbitN, r⟩
  if s.reg Reg.PT_JRNL_LOST = lost then s else s.alarm 8 Unit.policy 8 0 0

/-- Whether writes of the register at a key are journalled: R394 and the notes above each register table. -/
def journalled (k : Nat) : Bool :=
  let within (a n : Nat) : Bool := decide (a ≤ k) && decide (k < a + n)
  within 0x00200000 0x200000 || within 0x00101000 0x400 || k == Reg.EPH_CTRL || k == Reg.EPH_MODE
    || within (Reg.MF_HASH_KEY 0) 16 || k == Reg.MF_SPARE_CMD || k == Reg.MF_INIT_CMD || within (Reg.EP_VF_APT 0) 256
    || (within 0x03E00000 0x800 && k % 256 == 0) || within 0x03E01000 0x800
    || k == Reg.CPH_ATT_CTRL || k == Reg.CPH_ATT_OUT_LO || k == Reg.CPH_ATT_OUT_HI
    || (within 0x03C00000 0x10000 && (decide (k % 4096 ≤ 4) || (decide (12 ≤ k % 4096) && decide (k % 4096 ≤ 28))
          || (decide (0x40 ≤ k % 4096) && decide (k % 4096 ≤ 0x50))))
    || k == Reg.PAIR_HANDOVER || k == Reg.DBG_CTRL || k == Reg.DBG_DUMP_LO || k == Reg.DBG_DUMP_HI || within 0x03D00200 0x200
    || k == Reg.DBG_DEC_CTRL || (within 0x03D01000 0x400 && (decide (k % 64 ≤ 8) || k % 64 == 0x1C))
    || k == Reg.BOOT_CTRL || k == Reg.ECL_CTRL || k == Reg.FLASH_CMD || k == Reg.FUSE_PROG_CTRL
    || k == Reg.PANEL_CTRL || k == Reg.SPR_CL_CMD || k == Reg.SPR_CTRL

/-- Whether register writes are discarded: an Eclipse is active or a global stop in effect (R593, R639). -/
def State.wrDrops (s : State) : Bool :=
  s.flag Reg.ECL_STATUS Fld.ECL_STATUS_ACTIVE || s.flag Reg.DBG_STATUS Fld.DBG_STATUS_STOPPED

/-- Whether an effect due at a mark may take place: the mark has come, and it is not put off by an Eclipse (R594) or a
global stop (R638). -/
def State.markReached (s : State) (due : Nat) : Bool := decide (due ≤ s.orbitN) && !s.wrDrops

/-- The answer of a command with the effect `t`: the queue is the sender's, and only the clock's own rows and those of
power move the orbit counter and the cycle (R44, R46). -/
def State.answer (s t : State) : Host.Outcome State Fault Refusal :=
  .next { t with pending := s.pending, tm := { t.tm with orbit := s.tm.orbit, cycle := s.tm.cycle } }

/-- The answer of a row of the clock: the time is the one given. -/
def State.answerAt (s t : State) (o : BitVec 48) (c : Nat) : Host.Outcome State Fault Refusal :=
  .next { t with pending := s.pending, tm := { t.tm with orbit := o, cycle := c } }

/-- The answer of a row of power: time stands, or restarts at 0 with P and K (R46). -/
def State.answerPower (s t : State) : Host.Outcome State Fault Refusal :=
  if t.tm.orbit = s.tm.orbit ∧ t.tm.cycle = s.tm.cycle then s.answer t else s.answerAt t 0 0

/-- What a unit of the die does by itself: nothing while the die has no power, and nothing while a global stop holds every
unit in its state (R638), until the power-loss sequence takes over (R595). -/
def State.unitAct (s : State) (f : State → State) : State :=
  if !s.pwr.on || (s.flag Reg.DBG_STATUS Fld.DBG_STATUS_STOPPED && !s.pwr.seq) then s else f s

/-- A register write of the management plane: discarded, counted and journalled where R593 says so, but for the bring-up
block; a die without power takes none. -/
def State.hostGate (s : State) (src : Src) (k : Nat) (v : Word) (f : State → State) : State :=
  if !s.pwr.on then s
  else if s.wrDrops && !(decide (0x03F00000 ≤ k) && decide (k < 0x04000000)) then
    let s := s.bump Reg.ECL_WR_DROP Fld.ECL_WR_DROP_COUNT
    if journalled k then s.journal src k (s.reg k) v true s.orbitN else s
  else f s

/-- A write of a cluster register: a prep core's reaches it as ever (R259). -/
def State.clGate (s : State) (w : ClWriter) (k : Nat) (v : Word) (f : State → State) : State :=
  match w with
  | .mgmt src => s.hostGate src k v f
  | .px _ => f s

/-- A write that a virtual function's driver makes in its BAR0 (R593). -/
def State.vfGate (s : State) (f : State → State) : State :=
  if !s.pwr.on then s else if s.wrDrops then s.bump Reg.ECL_WR_DROP Fld.ECL_WR_DROP_COUNT else f s

/-- An event that firmware is to deliver: code, partition, detail bytes. -/
def State.raiseEvent (s : State) (code p : Nat) (detail : Bytes) : State :=
  { s with fw := { s.fw with events := s.fw.events ++ [⟨BitVec.ofNat 16 code, Fin.ofNat 16 p, detail⟩] } }

/-- A word of the on-die random source, a free value. -/
def State.draw (s : State) : Word × State := (Config.drbg s.draws, { s with draws := s.draws + 1 })

end Sys2Proof.Machine
end

