-- ==== Sys2Proof/Machine/Orbit.lean ====
section
/-! DEFINITION. The Ephemeris: entries and what they mean, who gets a slot, class-0 qualification, and the writes and
effects of its registers (chapter Orbit, Slots and the Ephemeris). -/

namespace Sys2Proof.Machine

/-- Whether an EPH_SLOT or EPH_ACTIVE register holds entries of a reserved row (5–7). -/
def ephReserved (n : Nat) : Bool := 80 ≤ n && n < 128

/-- A register of entries as it reads: slot 63 always reads housekeeping, the reserved rows read zero (R51). -/
def ephView (n : Nat) (w : Word) : Word :=
  if ephReserved n then 0
  else if n % 16 == 15 then (w &&& 0x00FFFFFF) ||| 0x10000000
  else w

/-- The active entry of a row and slot (R49, R50). -/
def State.ephEntry (s : State) (row slot : Nat) : Nat :=
  let n := row * 16 + slot / 4
  bitsOf (ephView n (s.reg (Reg.EPH_ACTIVE n))).toNat (8 * (slot % 4)) 8

/-- What an entry stands for. -/
inductive Entry where
  | part (p : Nat)
  | housekeeping
  | free
  deriving DecidableEq, Repr

/-- The meaning of an entry in its row (R50, R52): in a Tether row only the port's owner may be named. -/
def State.entryOf (s : State) (row e : Nat) : Entry :=
  if e == 0x10 then .housekeeping
  else if e < 16 && (row < 8 || s.portOwner (row - 8) == some e) then .part e
  else .free

/-- Whether an entry acts as Free without being coded so (R50, R52). -/
def State.entryBad (s : State) (row e : Nat) : Bool := s.entryOf row e == .free && e != 0x1F

/-- The rows that exist (R49). -/
def ephRows : List Nat := [0, 1, 2, 3, 4, 8, 9, 10, 11, 12, 13, 14, 15]

/-- BAD_CODE evaluated over the whole active copy (R665). -/
def State.evalBadCode (s : State) : State :=
  if ephRows.any (fun r => (List.range 64).any (fun t => s.entryBad r (s.ephEntry r t))) then
    s.setFld Reg.EPH_STATUS Fld.EPH_STATUS_BAD_CODE 1
  else s

/-- The last borrower of a row (R56). -/
def State.lastBorrower (s : State) (row : Nat) : Nat := Tab.get (fun _ => 15) s.tm.lastBorrower row

/-- The next lending partition with eligible work after the last borrower (R56). -/
def State.nextBorrower (s : State) (elig : Nat → Bool) (row : Nat) : Option Nat :=
  ((List.range 16).map (fun i => (s.lastBorrower row + 1 + i) % 16)).find? (fun p => !s.isSealed p && elig p)

/-- A slot that its owner does not take: a borrower, then housekeeping, then nobody (R56, R57). -/
def State.lendSlot (s : State) (elig : Nat → Bool) (hk : Bool) (row : Nat) : Holder × State :=
  match s.nextBorrower elig row with
  | some p =>
    (.borrower (Fin.ofNat 16 p), { s with tm := { s.tm with lastBorrower := Tab.set (fun _ => 15) s.tm.lastBorrower row p } })
  | none => (if hk then .housekeeping else .idle, s)

/-- Who holds a slot of a row, decided in its cycle 0 (R55–R57): `elig p` says whether partition p has eligible work
on the row, `hk` whether its housekeeping queue has. -/
def State.slotHolder (s : State) (elig : Nat → Bool) (hk : Bool) (row slot : Nat) : Holder × State :=
  match s.entryOf row (s.ephEntry row slot) with
  | .housekeeping => (.housekeeping, s)
  | .part p =>
    if 8 ≤ row || s.isSealed p || elig p then (.owner (Fin.ofNat 16 p), s) else s.lendSlot elig hk row
  | .free => if 8 ≤ row then (if hk then .housekeeping else .idle, s) else s.lendSlot elig hk row

/-- The slot of every row given to its holder. -/
def State.giveSlots (s : State) (elig : State → Nat → Nat → Bool) (hk : State → Nat → Bool) (slot : Nat) : State :=
  ephRows.foldl (fun t row =>
    let (h, t') := t.slotHolder (elig s row) (hk s row) row slot
    { t' with tm := { t'.tm with holder := Tab.set (fun _ => Holder.idle) t'.tm.holder row h } }) s

/-- Who holds the current slot of a row. -/
def State.holderOf (s : State) (row : Nat) : Holder := Tab.get (fun _ => Holder.idle) s.tm.holder row

/-- Whether the current slot of a row serves a partition. -/
def State.servesPart (s : State) (row p : Nat) : Bool :=
  match s.holderOf row with
  | .owner q => q.val == p
  | .borrower q => q.val == p
  | _ => false

/-- Whether a CIPH slot qualifies for a partition: it also owns the next EGR slot (R65). -/
def State.qualSlot (s : State) (p t : Nat) : Bool :=
  s.entryOf 2 (s.ephEntry 2 t) == .part p && s.entryOf 0 (s.ephEntry 0 ((t + 1) % 64)) == .part p

/-- Whether a partition meets R65. -/
def State.c0ok (s : State) (p : Nat) : Bool :=
  s.isSealed p
  && (List.range 64).all (fun w => (List.range 8).any (fun i => s.qualSlot p ((w + i) % 64)))
  && (s.portsOf p).all (fun n => (List.range 63).all (fun t => s.entryOf (8 + n) (s.ephEntry (8 + n) t) == .part p))

/-- EPH_C0_OK recomputed (R65). -/
def State.recomputeC0 (s : State) : State :=
  s.setFld Reg.EPH_C0_OK Fld.EPH_C0_OK_QUALIFIED
    (((List.range 16).map (fun p => if s.c0ok p then 2 ^ p else 0)).sum)

/-- A write of EPH_CTRL (R60, R61, R63): a commit is scheduled unless one is pending. -/
def State.ephCommit (s : State) (src : Src) (v : Word) : State :=
  if !v.getLsbD 0 || s.tm.commitDue.isSome then s.journal src Reg.EPH_CTRL 0 v true s.orbitN
  else
    let due := s.markDue
    (({ s with tm := { s.tm with commitDue := some due } }).setFld Reg.EPH_STATUS Fld.EPH_STATUS_COMMIT_PENDING 1).journal
      src Reg.EPH_CTRL 0 v false due

/-- The shadow table copied into the active copy, all rows at once. -/
def State.ephCopy (s : State) : State :=
  (List.range 256).foldl (fun t n => t.setReg (Reg.EPH_ACTIVE n) (ephView n (t.reg (Reg.EPH_SLOT n)))) s

/-- A pending commit takes effect once its mark has been reached (R60, R665). -/
def State.ephCommitEffect (s : State) : State :=
  match s.tm.commitDue with
  | some due =>
    if s.markReached due then
      let s := { s with tm := { s.tm with commitDue := none } }
      let s := s.setFld Reg.EPH_STATUS Fld.EPH_STATUS_COMMIT_PENDING 0
      (s.ephCopy.setReg64 Reg.EPH_COMMIT_ORBIT_LO Reg.EPH_COMMIT_ORBIT_HI s.orbitN).evalBadCode.recomputeC0
    else s
  | none => s

/-- A write of a shadow entry register (R51, R61, R63). -/
def State.ephSlotWrite (s : State) (src : Src) (n : Nat) (v : Word) : State :=
  let k := Reg.EPH_SLOT n
  let old := ephView n (s.reg k)
  if ephReserved n then s.journal src k old v true s.orbitN
  else if s.tm.commitDue.isSome then
    (s.setFld Reg.EPH_STATUS Fld.EPH_STATUS_WRITE_DROPPED 1).journal src k old v true s.orbitN
  else (s.setReg k (ephView n v)).journal src k old v false s.orbitN

/-- A write of EPH_MODE (R61, R62, R63). -/
def State.ephModeWrite (s : State) (src : Src) (v : Word) : State :=
  let old := s.reg Reg.EPH_MODE
  if s.tm.commitDue.isSome then
    (s.setFld Reg.EPH_STATUS Fld.EPH_STATUS_WRITE_DROPPED 1).journal src Reg.EPH_MODE old v true s.orbitN
  else
    let due := s.markDue
    let s := s.setFld Reg.EPH_MODE Fld.EPH_MODE_SEALED v.toNat
    ({ s with tm := { s.tm with modeWrites := s.tm.modeWrites ++ [(due, v.setWidth 16)] } }).journal
      src Reg.EPH_MODE old v false due

/-- The pending mode writes whose marks have come are applied in the order written (R62). -/
def State.ephModeApply (s : State) : State :=
  let dueNow := s.tm.modeWrites.filter (fun w => s.markReached w.1)
  let rest := s.tm.modeWrites.filter (fun w => !s.markReached w.1)
  if dueNow.isEmpty then s
  else
    State.recomputeC0 (dueNow.foldl (fun (t : State) w => t.setFld Reg.EPH_MODE_ACT Fld.EPH_MODE_ACT_SEALED w.2.toNat)
      { s with tm := { s.tm with modeWrites := rest } })

end Sys2Proof.Machine
end

