-- ==== Sys2Proof/Machine/Code.lean ====
section
/-! DEFINITION. The line check code: the shortened Reed-Solomon code RS(70,66) over GF(2^8) of R88–R90, used for
memory lines, check lines, scratch words and fabric transfers. -/

namespace Sys2Proof.Machine

/-- Multiplication by α = 0x02 modulo x^8 + x^4 + x^3 + x^2 + 1. -/
def gfDouble (a : Byte) : Byte := if a.getLsbD 7 then (a <<< 1) ^^^ 0x1D else a <<< 1

/-- The shift-and-add loop of a product. -/
def gfMulAux : Nat → Byte → Byte → Byte → Byte
  | 0, _, _, acc => acc
  | n + 1, a, b, acc => gfMulAux n (gfDouble a) (b >>> 1) (if b.getLsbD 0 then acc ^^^ a else acc)

/-- The product in GF(2^8). -/
def gfMul (a b : Byte) : Byte := gfMulAux 8 a b 0

/-- α to a power. -/
def gfPow : Nat → Byte
  | 0 => 1
  | n + 1 => gfDouble (gfPow n)

/-- The four remainder symbols while dividing by g(x), lowest first. -/
structure Rem4 where
  r0 : Byte
  r1 : Byte
  r2 : Byte
  r3 : Byte
  deriving DecidableEq, Repr

/-- One division step: the next lower message symbol enters. -/
def rsStep (m : Byte) (r : Rem4) : Rem4 :=
  let f := m ^^^ r.r3
  ⟨gfMul 64 f, r.r0 ^^^ gfMul 120 f, r.r1 ^^^ gfMul 54 f, r.r2 ^^^ gfMul 15 f⟩

/-- The check symbols c_0–c_3 of the message symbols c_4 and up (R88). -/
def rsCheck (msg : Bytes) : Bytes :=
  let r := msg.foldr rsStep ⟨0, 0, 0, 0⟩
  [r.r0, r.r1, r.r2, r.r3]

/-- The syndromes S_0–S_3 of a codeword (R90). -/
def rsSyn (cw : Bytes) : Rem4 :=
  cw.foldr (fun c r =>
    ⟨r.r0 ^^^ c, gfDouble r.r1 ^^^ c, gfDouble (gfDouble r.r2) ^^^ c, gfDouble (gfDouble (gfDouble r.r3)) ^^^ c⟩) ⟨0, 0, 0, 0⟩

/-- What the decoder finds (R90). -/
inductive Decoded where
  | clean
  | single (i : Nat) (e : Byte)
  | tag
  | bad
  deriving DecidableEq, Repr

/-- Whether the syndromes are those of one error at symbol `i`. -/
def rsSingleAt (r : Rem4) (i : Nat) : Bool :=
  let b := gfPow i
  gfMul b r.r0 == r.r1 && gfMul b r.r1 == r.r2 && gfMul b r.r2 == r.r3

/-- Whether errors at two given symbols alone satisfy all four syndromes. -/
def rsPairAt (r : Rem4) (i j : Nat) : Bool :=
  let a := gfPow i ^^^ gfPow j
  let b := gfMul (gfPow i) (gfPow j)
  (gfMul a r.r1 ^^^ gfMul b r.r0) == r.r2 && (gfMul a r.r2 ^^^ gfMul b r.r1) == r.r3

/-- The decoder of R90 on a codeword of `n` stored symbols followed by two implicit ones. -/
def rsDecode (n : Nat) (cw : Bytes) : Decoded :=
  let r := rsSyn cw
  if r = ⟨0, 0, 0, 0⟩ then .clean
  else
    match if r.r0 = 0 then none else (List.range (n + 2)).find? (rsSingleAt r) with
    | some i => if i < n then .single i r.r0 else .tag
    | none => if rsPairAt r n (n + 1) then .tag else .bad

/-- The codeword of a data line or bank word: check symbols, data, owner and epoch (R88). -/
def lineWord (chk data : Bytes) (owner epoch : Byte) : Bytes := chk ++ data ++ [owner, epoch]

/-- The check symbols of a data line under an owner and an epoch. -/
def lineCheck (data : Bytes) (owner epoch : Byte) : Bytes := rsCheck (data ++ [owner, epoch])

/-- A data line decoded: what was found and the corrected data. -/
def lineDecode (chk data : Bytes) (owner epoch : Byte) : Decoded × Bytes :=
  let d := rsDecode 68 (lineWord chk data owner epoch)
  match d with
  | .single i e => (d, if 4 ≤ i then data.modify (i - 4) (· ^^^ e) else data)
  | _ => (d, data)

/-- A check line decoded: its stored bytes 60–63 are c_0–c_3 and bytes 0–59 are c_4–c_63 (R89). -/
def checkDecode (cl : Bytes) (owner epoch : Byte) : Decoded × Bytes :=
  let d := rsDecode 64 (cl.drop 60 ++ cl.take 60 ++ [owner, epoch])
  match d with
  | .single i e => (d, cl.modify (if i < 4 then 60 + i else i - 4) (· ^^^ e))
  | _ => (d, cl)

/-- A check line with its own symbols encoded afresh (R92). -/
def checkSeal (cl : Bytes) (owner epoch : Byte) : Bytes := cl.take 60 ++ rsCheck (cl.take 60 ++ [owner, epoch])

end Sys2Proof.Machine
end

