-- ==== Sys2Proof/Machine/Fabric.lean ====
section
/-! DEFINITION. The memory fabric: translation from partition addresses to stored places, reads and writes of lines
under the check code, the retirement list, and what is reported of failures (chapter Memory Fabric). -/

namespace Sys2Proof.Machine

/-- Whose memory a request names: a partition's or the service region's (R73). -/
inductive Space where
  | part (p : Nat)
  | svc
  deriving DecidableEq, Repr

/-- The code of a status (R94, R126). -/
def MemStatus.code : MemStatus → Nat
  | .ok => 0
  | .corrected => 1
  | .uncorrectable => 2
  | .tagMismatch => 3
  | .notReady => 4
  | .outOfRange => 5
  | .checkLineAddress => 6
  | .notOwner => 7
  | .atomicAlign => 8

/-- Whether a status returns data. -/
def MemStatus.good : MemStatus → Bool
  | .ok => true
  | .corrected => true
  | _ => false

/-- The owner symbol of a space (R88). -/
def Space.owner : Space → Byte
  | .part p => byte p
  | .svc => 0x40

/-- The key epoch that a request on behalf of a space is decoded under (R88). -/
def State.spaceEpoch (s : State) : Space → Byte
  | .part p => byte (s.epoch p)
  | .svc => 0

/-! Places and stored bytes (R75, R76). -/

/-- A stored line: physical channel, line group and line within the group. -/
structure Place where
  ch : Nat
  r : Nat
  k : Nat
  deriving DecidableEq, Repr

/-- The device physical address of a place (R76). -/
def Place.dpa (a : Place) : Nat := a.ch * 2 ^ 33 + a.r * 1024 + a.k * 64

/-- The place and byte that a device physical address names. -/
def placeOf (dpa : Nat) : Place := ⟨dpa / 2 ^ 33, dpa / 1024 % 2 ^ 23, dpa / 64 % 16⟩

/-- What an unlisted stored byte reads as: zero before the channel's first initialisation, and after it the zero line
with the check symbols of the owner and epoch it was initialised under (R107). -/
def memDefault (fill : List (Nat × Option (Byte × Byte))) (a : Nat) : Byte :=
  match Tab.get (fun _ => none) fill (a / 2 ^ 33) with
  | none => 0
  | some (o, e) =>
    let off := a % 1024
    if off < 960 then 0
    else
      let c := lineCheck (zeros 64) o e
      let cl := checkSeal ((List.replicate 15 c).flatten ++ zeros 4) o e
      cl.getD (off - 960) 0

/-- `n` stored bytes from an address. -/
def FabSt.bytes (m : FabSt) (a n : Nat) : Bytes := (List.range n).map (fun i => Tab.get (memDefault m.fill) m.cells (a + i))

/-- Stored bytes written from an address. -/
def FabSt.store (m : FabSt) (a : Nat) : Bytes → FabSt
  | [] => m
  | b :: t => FabSt.store { m with cells := Tab.set (memDefault m.fill) m.cells a b } (a + 1) t

/-- The check line of a group as stored. -/
def FabSt.checkLine (m : FabSt) (ch r : Nat) : Bytes := m.bytes ((⟨ch, r, 15⟩ : Place).dpa) 64

/-- A line decoded through its group's check line (R89, R91): the status and the data. -/
def FabSt.decode (m : FabSt) (a : Place) (owner epoch : Byte) : MemStatus × Bytes :=
  let (cd, cl) := checkDecode (m.checkLine a.ch a.r) owner epoch
  match cd with
  | .tag => (.tagMismatch, [])
  | .bad => (.uncorrectable, [])
  | _ =>
    let (d, data) := lineDecode (slice cl (4 * a.k) 4) (m.bytes a.dpa 64) owner epoch
    match d with
    | .clean => (if cd = .clean then .ok else .corrected, data)
    | .single _ _ => (.corrected, data)
    | .tag => (.tagMismatch, [])
    | .bad => (.uncorrectable, [])

/-! Channels and their substitution (R72, R77, R105). -/

/-- The spare in service for a channel, if any (MF_SPARE_MAP). -/
def State.spareFor (s : State) (ch : Nat) : Option Nat :=
  (List.range 16).find? (fun i =>
    s.flag (Reg.MF_SPARE_MAP i) Fld.MF_SPARE_MAP_VALID && s.fld (Reg.MF_SPARE_MAP i) Fld.MF_SPARE_MAP_REPLACED == ch)

/-- The physical channel that serves a channel of the table. -/
def State.physChan (s : State) (ch : Nat) : Nat :=
  match s.spareFor ch with
  | some i => 264 + i
  | none => ch

/-- Whether spare `i` is in service. -/
def State.spareValid (s : State) (i : Nat) : Bool := s.flag (Reg.MF_SPARE_MAP i) Fld.MF_SPARE_MAP_VALID

/-- The package whose tracker and initialisation a physical channel shares: a spare's is that of the channel it
replaces (R74). -/
def State.chanPkg (s : State) (ch : Nat) : Nat :=
  if ch < 264 then ch / 8 else s.fld (Reg.MF_SPARE_MAP (ch - 264)) Fld.MF_SPARE_MAP_REPLACED / 8

/-- The channels of a space before substitution, by logical number (R72, R73). -/
def State.channels (s : State) : Space → List Nat
  | .part p => ((s.pkgsOf p).map (fun k => (List.range 8).map (fun i => 8 * k + i))).flatten
  | .svc => (List.range 8).map (256 + ·)

/-- The number of logical channels of a space (R72). -/
def State.numChan (s : State) : Space → Nat
  | .part p => 8 * (s.pkgsOf p).length
  | .svc => 8

/-- The size of a space in bytes (R78). -/
def State.spaceSize (s : State) (sp : Space) : Nat := s.numChan sp * 8053063680

/-! Translation (R78, R79). -/

/-- A 32-bit XOR with its own right shift. -/
def xsr (x : Word) (n : Nat) : Word := x ^^^ (x >>> n)

/-- The rotation of a row (R79). -/
def hashRot (k0 k1 k2 k3 : Word) (row0 n : Nat) : Nat :=
  let x := xsr ((BitVec.ofNat 32 row0 ^^^ k0) * 0x6c8e944d) 15
  let x := xsr ((x ^^^ k1) * 0xb5a317c9) 13
  let x := xsr ((x ^^^ k2) * 0x6c8e944d) 16
  let x := x ^^^ k3
  ((x >>> 16).toNat * n % 2 ^ 32) / 2 ^ 16

/-- Whether a remap entry is in effect for a group of its frames (R85). -/
def RemapEntry.active (e : RemapEntry) (off : Nat) : Bool :=
  if e.undoing then decide (e.moved ≤ off) else decide (off < e.moved)

/-- The place that an entry's swap sends a place to. -/
def RemapEntry.swap (e : RemapEntry) (cf : Nat × Nat) : Nat × Nat :=
  if cf = (e.cA, e.fA) then (e.cB, e.fB) else if cf = (e.cB, e.fB) then (e.cA, e.fA) else cf

/-- The remap look-up of a partition, oldest entry first (R78, R85). -/
def remapLookup (l : List RemapEntry) (off : Nat) (cf : Nat × Nat) : Nat × Nat :=
  l.foldl (fun x e => if e.active off then e.swap x else x) cf

/-- The remap table of a space. -/
def State.remapOf (s : State) : Space → List RemapEntry
  | .part p => Tab.get (fun _ => []) s.fab.remap p
  | .svc => []

/-- A space address as its place; none at or above the space's size (R78). -/
def State.translate (s : State) (sp : Space) (pra : Nat) : Option Place :=
  if s.spaceSize sp ≤ pra then none
  else
    let n := s.numChan sp
    let line := pra / 64
    let group := line / 15
    let row0 := group / n
    let rot := hashRot (s.reg (Reg.MF_HASH_KEY 0)) (s.reg (Reg.MF_HASH_KEY 1)) (s.reg (Reg.MF_HASH_KEY 2))
      (s.reg (Reg.MF_HASH_KEY 3)) row0 n
    let off := row0 % 2048
    let (c, f) := remapLookup (s.remapOf sp) off ((group % n + rot) % n, row0 / 2048)
    some ⟨s.physChan ((s.channels sp).getD c 0), f * 2048 + off, line % 15⟩

/-- What a device physical address request is refused with, if anything (R77). -/
def State.dpaStatus (s : State) (a : Nat) : Option MemStatus :=
  let ch := a / 2 ^ 33 % 2 ^ 9
  if a / 2 ^ 42 ≠ 0 || 279 < ch || (264 ≤ ch && !s.spareValid (ch - 264)) then some .outOfRange
  else if a / 64 % 16 = 15 then some .checkLineAddress
  else none

/-! Reports (R95, R96). -/

/-- The last failed request recorded. -/
def State.lastErr (s : State) (owner : Byte) (dpa : Nat) (st : MemStatus) : State :=
  let s := s.setReg64 Reg.MF_LAST_ERR_DPA_LO Reg.MF_LAST_ERR_DPA_HI dpa
  (s.setFld Reg.MF_LAST_ERR_INFO Fld.MF_LAST_ERR_INFO_STATUS st.code).setFld Reg.MF_LAST_ERR_INFO Fld.MF_LAST_ERR_INFO_OWNER owner.toNat

/-- The channel record of the fabric. -/
def chanDefault : ChanSt := ⟨0, [], 0, [], 0, 0, 0⟩

/-- What the fabric keeps of a channel. -/
def State.chan (s : State) (ch : Nat) : ChanSt := Tab.get (fun _ => chanDefault) s.fab.chan ch

/-- A channel's record set. -/
def State.setChan (s : State) (ch : Nat) (c : ChanSt) : State :=
  { s with fab := { s.fab with chan := Tab.set (fun _ => chanDefault) s.fab.chan ch c } }

/-- A status counted and recorded as R95 says: `owner` is the owner symbol the request was decoded under. -/
def State.memReport (s : State) (owner : Byte) (a : Place) (st : MemStatus) : State :=
  let p := owner.toNat
  match st with
  | .corrected =>
    let s := s.bump (Reg.MF_CH_CE a.ch) Fld.MF_CH_CE_COUNT
    let c := s.chan a.ch
    let s := s.setChan a.ch { c with passCe := c.passCe + 1 }
    if p < 16 then s.bump (Reg.MF_PART_CE p) Fld.MF_PART_CE_COUNT else s
  | .uncorrectable =>
    let s := s.lastErr owner a.dpa st
    let s := if p < 16 then
        (s.bump (Reg.MF_PART_UE p) Fld.MF_PART_UE_COUNT).setBit Reg.MF_PART_ALARM Fld.MF_PART_ALARM_UE p true
      else s
    s.errRecord (Unit.pkg (a.ch / 8)) 2 0 a.dpa 0
  | .tagMismatch =>
    let s := s.lastErr owner a.dpa st
    let s := if p < 16 then
        (s.bump (Reg.MF_PART_TAG p) Fld.MF_PART_TAG_COUNT).setBit Reg.MF_PART_ALARM Fld.MF_PART_ALARM_TAG p true
      else s
    s.errRecord (Unit.pkg (a.ch / 8)) 3 0 a.dpa 0
  | _ => s

/-- Whether a line is listed for retirement (R96). -/
def State.isRetired (s : State) (dpa : Nat) : Bool := s.fab.retired.any (fun e => e.1 == dpa)

/-- The retirement list set, with its count register. -/
def State.setRetired (s : State) (l : List (Nat × Bool)) : State :=
  ({ s with fab := { s.fab with retired := l } }).setFld Reg.MF_RETIRE_COUNT Fld.MF_RETIRE_COUNT_ENTRIES l.length

/-- The list found full: the overflow is latched and the memory alarm raised (R95). -/
def State.retireOverflow (s : State) (dpa : Nat) : State :=
  (s.setFld Reg.MF_STATUS Fld.MF_STATUS_RETIRE_OVERFLOW 1).alarm 1 (Unit.pkg (dpa / 2 ^ 33 / 8)) 2 0 dpa

/-- Entries that uses other than spare copies may fill (R96). -/
def retireLimit : Nat := 3840

/-- A line listed for retirement, once, while the list has room below a limit (R96). -/
def State.retire (s : State) (limit dpa : Nat) : State :=
  if s.isRetired dpa then s
  else if s.fab.retired.length < limit then s.setRetired (s.fab.retired ++ [(dpa, false)])
  else s.retireOverflow dpa

/-! Requests to a place. -/

/-- Whether the package of a channel is under initialisation (R107). -/
def State.chanBusy (s : State) (ch : Nat) : Bool := s.fab.initBusy.any (fun e => e.1 == s.chanPkg ch)

/-- A read of a line at a place under an owner and epoch (R90, R91, R95, R96). -/
def State.readPlace (s : State) (a : Place) (owner epoch : Byte) : State × MemStatus × Bytes :=
  if s.chanBusy a.ch then (s, .notReady, [])
  else if s.fab.dead.contains a.ch then (s.memReport owner a .uncorrectable, .uncorrectable, [])
  else if s.isRetired a.dpa then (s.memReport owner a .uncorrectable, .uncorrectable, [])
  else
    let (st, data) := s.fab.decode a owner epoch
    let s := s.memReport owner a st
    let s := if st = .uncorrectable then s.retire retireLimit a.dpa else s
    (s, st, data)

/-- Where a write to a channel also goes: the spare that a copy in progress fills, for groups already copied (R104). -/
def State.mirrorChan (s : State) (ch r : Nat) : Option Nat :=
  match s.fab.spareCopy with
  | some c => if c.src = ch ∧ r < c.pos then some c.dst else none
  | none => none

/-- A line and the check line that goes with it stored at a place, and at its copy while a spare is being filled. -/
def State.storeLine (s : State) (a : Place) (data cl : Bytes) : State :=
  let put (m : FabSt) (ch : Nat) : FabSt :=
    (m.store ((⟨ch, a.r, a.k⟩ : Place).dpa) data).store ((⟨ch, a.r, 15⟩ : Place).dpa) cl
  let m := put s.fab a.ch
  { s with fab := match s.mirrorChan a.ch a.r with
      | some d => put m d
      | none => m }

/-- A channel's hard-listed lines counted, saturating (R95). -/
def State.countHard (s : State) (ch : Nat) : State :=
  let n := s.fld (Reg.MF_CH_HARD ch) Fld.MF_CH_HARD_COUNT
  if n < 255 then s.setFld (Reg.MF_CH_HARD ch) Fld.MF_CH_HARD_COUNT (n + 1) else s

/-- The read-back of a full write to a listed line (R96). -/
def State.readBack (s : State) (a : Place) (owner epoch : Byte) : State :=
  if !s.isRetired a.dpa then s
  else if (s.fab.decode a owner epoch).1 = .ok then s.setRetired (s.fab.retired.filter (fun e => e.1 != a.dpa))
  else
    let fresh := s.fab.retired.any (fun e => e.1 == a.dpa && !e.2)
    let s := s.setRetired (s.fab.retired.map (fun e => if e.1 == a.dpa then (e.1, true) else e))
    if fresh then s.countHard a.ch else s

/-- The other data lines of a group. -/
def otherLines (a : Place) : List Nat :=
  ((List.range 15).filter (· != a.k)).map (fun k => ({ a with k := k } : Place).dpa)

/-- A full write at a place (R92): the group's check line is decoded under the writer, kept, resealed, or its other
lines listed first. -/
def State.writePlace (s : State) (a : Place) (owner epoch : Byte) (data : Bytes) : State × MemStatus :=
  if s.chanBusy a.ch then (s, .notReady)
  else if s.fab.dead.contains a.ch then (s.memReport owner a .uncorrectable, .uncorrectable)
  else
    let (cd, cl) := checkDecode (s.fab.checkLine a.ch a.r) owner epoch
    let resealed (b : Bytes) : Bytes := checkSeal (overlay b (4 * a.k) (lineCheck data owner epoch)) owner epoch
    match cd with
    | .bad =>
      let new := (otherLines a).filter (fun d => !s.isRetired d)
      if retireLimit < s.fab.retired.length + new.length then
        ((s.retireOverflow a.dpa).memReport owner a .uncorrectable, .uncorrectable)
      else
        let s := s.setRetired (s.fab.retired ++ new.map (·, false))
        ((s.storeLine a data (resealed (s.fab.checkLine a.ch a.r))).readBack a owner epoch, .ok)
    | .tag => ((s.storeLine a data (resealed (s.fab.checkLine a.ch a.r))).readBack a owner epoch, .ok)
    | _ => ((s.storeLine a data (resealed cl)).readBack a owner epoch, .ok)

/-- A write of fewer than 64 bytes at a place: a read-modify-write (R92). -/
def State.mergePlace (s : State) (a : Place) (owner epoch : Byte) (off : Nat) (data : Bytes) : State × MemStatus :=
  let (s, st, old) := s.readPlace a owner epoch
  if st.good then
    let (s, w) := s.writePlace a owner epoch (overlay old off data)
    (s, if w = .ok then st else w)
  else (s, st)

/-! Requests of a space. -/

/-- A request counted in the tracker of hot frames of its channel (R83): 16 entries, the lowest replaced. -/
def trackFrame (l : List (Nat × Nat)) (f : Nat) : List (Nat × Nat) :=
  if l.any (fun e => e.1 == f) then l.map (fun e => if e.1 == f then (e.1, e.2 + 1) else e)
  else if l.length < 16 then l ++ [(f, 1)]
  else
    let m := l.foldl (fun m e => min m e.2) (l.headD (0, 0)).2
    match l.findIdx? (fun e => e.2 == m) with
    | some i => l.set i (f, 1)
    | none => l

/-- A partition's request counted for the remapper (R83). -/
def State.countFrame (s : State) (sp : Space) (a : Place) : State :=
  match sp with
  | .part _ =>
    let c := s.chan a.ch
    s.setChan a.ch { c with frames := trackFrame c.frames (a.r / 2048) }
  | .svc => s

/-- The line of a space that holds an address, read (R78, R90). -/
def State.readLine (s : State) (sp : Space) (pra : Nat) : State × MemStatus × Bytes :=
  match s.translate sp pra with
  | none => (s, .outOfRange, [])
  | some a => (s.countFrame sp a).readPlace a sp.owner (s.spaceEpoch sp)

/-- Bytes within one line of a space written: a full write or a read-modify-write (R92). -/
def State.writeLine (s : State) (sp : Space) (pra : Nat) (data : Bytes) : State × MemStatus :=
  match s.translate sp pra with
  | none => (s, .outOfRange)
  | some a =>
    let s := s.countFrame sp a
    if data.length = 64 ∧ pra % 64 = 0 then s.writePlace a sp.owner (s.spaceEpoch sp) data
    else s.mergePlace a sp.owner (s.spaceEpoch sp) (pra % 64) data

/-- `n` bytes of a space from an address, line by line (at most `fuel` lines): the first failing status ends the
read. -/
def State.readSpan (s : State) (sp : Space) : Nat → Nat → Nat → State × MemStatus × Bytes
  | 0, _, _ => (s, .ok, [])
  | fuel + 1, a, n =>
    if n = 0 then (s, .ok, [])
    else
      let m := min n (64 - a % 64)
      let (s, st, d) := s.readLine sp a
      if !st.good then (s, st, [])
      else
        let (s', st', d') := State.readSpan s sp fuel (a + m) (n - m)
        (s', if st' = .ok then st else st', slice d (a % 64) m ++ d')

/-- `n` bytes of a space from an address. -/
def State.readBytes (s : State) (sp : Space) (a n : Nat) : State × MemStatus × Bytes := s.readSpan sp (n / 64 + 2) a n

end Sys2Proof.Machine
end

