-- ==== Sys2Proof/Machine/FabricCtl.lean ====
section
/-! DEFINITION. The fabric's controllers: the request trackers and the commands of line requests, the hot-spot
remapper, scrubbing, spare-channel service and package initialisation (R74, R82–R86, R93, R97–R107). -/

namespace Sys2Proof.Machine

/-! Trackers (R74). -/

def trackDefault : TrackSt := ⟨[], []⟩

/-- The tracker of a package. -/
def State.track (s : State) (pkg : Nat) : TrackSt := Tab.get (fun _ => trackDefault) s.fab.track pkg

/-- A package's tracker set. -/
def State.setTrack (s : State) (pkg : Nat) (t : TrackSt) : State :=
  { s with fab := { s.fab with track := Tab.set (fun _ => trackDefault) s.fab.track pkg t } }

/-- Tracker entries of a package (R74). -/
def trackCap (pkg : Nat) : Nat := if pkg = 32 then 512 else 496

/-- What a line request resolves to: its place, owner and epoch, or the status that ends it at once (R77, R78). -/
structure Resolved where
  place : Place
  owner : Byte
  epoch : Byte
  space : Option Space
  deriving DecidableEq, Repr

/-- A line request resolved. -/
def State.resolve (s : State) (a : LineAddr) : Resolved ⊕ MemStatus :=
  match a with
  | .pra p x =>
    match s.translate (.part p) x.toNat with
    | some pl => .inl ⟨pl, byte p, s.spaceEpoch (.part p), some (.part p)⟩
    | none => .inr .outOfRange
  | .svc x =>
    match s.translate .svc x.toNat with
    | some pl => .inl ⟨pl, 0x40, 0, some .svc⟩
    | none => .inr .outOfRange
  | .dpa o e x =>
    match s.dpaStatus x.toNat with
    | some st => .inr st
    | none => .inl ⟨placeOf x.toNat, o, e, none⟩

/-- The byte within its line that a request's address names. -/
def lineOff : LineAddr → Nat
  | .pra _ x => x.toNat % 64
  | .svc x => x.toNat % 64
  | .dpa _ _ x => x.toNat % 64

/-- A line request's completion recorded. -/
def State.lineCpl (s : State) (rq : LineReq) (st : MemStatus) (d : Bytes) : State :=
  { s with fab := { s.fab with cpl := some ⟨rq, st, d⟩ } }

/-- A request presents itself for a tracker entry of its package: it takes a free one or stalls (R74). -/
def State.admitLine (s : State) (rq : LineReq) : State :=
  match s.resolve rq.addr with
  | .inr _ => s
  | .inl r =>
    let pkg := s.chanPkg r.place.ch
    let t := s.track pkg
    if t.inflight.length < trackCap pkg then s.setTrack pkg ⟨t.inflight ++ [rq], t.stalled.erase rq⟩
    else if rq ∈ t.stalled then s
    else s.setTrack pkg { t with stalled := t.stalled ++ [rq] }

/-- Whether a request may proceed now: it holds an entry, or one is free (R74). -/
def State.mayProceed (s : State) (pkg : Nat) (rq : LineReq) : Bool :=
  let t := s.track pkg
  rq ∈ t.inflight || t.inflight.length < trackCap pkg

/-- A request that ends frees its entry. -/
def State.freeLine (s : State) (pkg : Nat) (rq : LineReq) : State :=
  let t := s.track pkg
  s.setTrack pkg ⟨t.inflight.erase rq, t.stalled.erase rq⟩

/-- A request run at its place once it holds an entry, stalled otherwise; early statuses end it at once. Without power,
during an Eclipse and in a global stop no request is carried out (R108, R638). -/
def State.withEntry (s : State) (rq : LineReq) (run : State → Resolved → State × MemStatus × Bytes) : State :=
  if !s.pwr.on || s.wrDrops then s
  else
    match s.resolve rq.addr with
    | .inr st => s.lineCpl rq st []
    | .inl r =>
      let pkg := s.chanPkg r.place.ch
      if s.mayProceed pkg rq then
        let (s, st, d) := run s r
        (s.freeLine pkg rq).lineCpl rq st d
      else s.admitLine rq

/-! The fabric transfer (R93). -/

/-- A codeword's stored symbols with transfer errors laid over them. -/
def xferErrors (cw : Bytes) (xs : List (Fin 68 × Byte)) : Bytes := xs.foldl (fun w x => w.modify x.1.val (· ^^^ x.2)) cw

/-- The transfer of a read's data to its requester, decoded again at the port (R93). -/
def State.transfer (s : State) (r : Resolved) (st : MemStatus) (data : Bytes) (xs : List (Fin 68 × Byte)) :
    State × MemStatus × Bytes :=
  let cw := xferErrors (lineCheck data r.owner r.epoch ++ data) xs
  let (d, out) := lineDecode (cw.take 4) (cw.drop 4) r.owner r.epoch
  match d with
  | .clean => (s, st, out)
  | .single _ _ => (s.bump Reg.MF_FABRIC_ERR Fld.MF_FABRIC_ERR_CORRECTED, st, out)
  | _ => ((s.bump Reg.MF_FABRIC_ERR Fld.MF_FABRIC_ERR_UNCORRECTABLE).errRecord (Unit.pkg (r.place.ch / 8)) 2 0 r.place.dpa 0,
      .uncorrectable, [])

/-! The hot-spot remapper (R82–R86). -/

/-- The requests of a package that address a channel, in flight or stalled. -/
def State.chanDepth (s : State) (ch : Nat) : Nat :=
  let t := s.track (s.chanPkg ch)
  ((t.inflight ++ t.stalled).filter (fun rq =>
    match s.resolve rq.addr with
    | .inl r => r.place.ch == ch
    | .inr _ => false)).length

/-- The physical channels of a partition by logical number. -/
def State.physOf (s : State) (p : Nat) : List Nat := (s.channels (.part p)).map s.physChan

/-- Every partition's channel queue depths sampled in a slot (R82). -/
def State.sampleDepths (s : State) : State :=
  (List.range 32).foldl (fun t k =>
    if (t.track k).inflight.isEmpty && (t.track k).stalled.isEmpty then t
    else (List.range 8).foldl (fun u i =>
      let ch := u.physChan (8 * k + i)
      let c := u.chan ch
      u.setChan ch { c with depthSum := c.depthSum + u.chanDepth ch }) t) s

/-- The hottest frame of a tracker, the first of equals. -/
def hottest (l : List (Nat × Nat)) : Option Nat :=
  (l.foldl (fun (acc : Option (Nat × Nat)) e =>
    match acc with
    | some a => if a.2 < e.2 then some e else acc
    | none => some e) none).map (·.1)

/-- The orbit's occupancies taken and hot runs counted for one partition (R82). -/
def State.occupancyPart (s : State) (p : Nat) : State :=
  let chs := s.physOf p
  let total := (chs.map (fun c => (s.chan c).depthSum)).sum
  chs.foldl (fun t ch =>
    let c := t.chan ch
    let hot := decide (2 * total < c.depthSum * chs.length) && decide (8 * 64 ≤ c.depthSum)
    let t := t.setChan ch { c with
      depthSum := 0
      hist := if c.depthSum = 0 ∧ c.hist = [] then [] else (c.depthSum :: c.hist).take 64
      hotRun := if hot then c.hotRun + 1 else 0 }
    match if hot then hottest c.frames else none with
    | some f =>
      let i := chs.idxOf ch
      let l := (t.remapOf (.part p)).map (fun e =>
        if (e.cA, e.fA) = (i, f) ∨ (e.cB, e.fB) = (i, f) then { e with lastHot := t.orbitN } else e)
      { t with fab := { t.fab with remap := Tab.set (fun _ => []) t.fab.remap p l } }
    | none => t) s

/-- The mark's occupancies of every partition. -/
def State.occupancyMark (s : State) : State := (List.range 16).foldl State.occupancyPart s

/-- Whether an entry's copy is in progress. -/
def RemapEntry.inFlight (e : RemapEntry) : Bool := e.undoing || decide (e.moved < 2048)

/-- A partition's remap table set, with its status register. -/
def State.setRemap (s : State) (p : Nat) (l : List RemapEntry) : State :=
  let s := { s with fab := { s.fab with remap := Tab.set (fun _ => []) s.fab.remap p l } }
  let s := s.setFld (Reg.MF_REMAP_STATUS p) Fld.MF_REMAP_STATUS_ENTRIES l.length
  s.setFld (Reg.MF_REMAP_STATUS p) Fld.MF_REMAP_STATUS_IN_FLIGHT (l.filter RemapEntry.inFlight).length

/-- Whether a logical channel takes part in a swap in progress (R84). -/
def chanSwapping (l : List RemapEntry) (c : Nat) : Bool := l.any (fun e => e.inFlight && (e.cA == c || e.cB == c))

/-- Whether a frame has taken part in a swap within the last 1,024 orbits (R84). -/
def frameRecent (l : List RemapEntry) (now c f : Nat) : Bool :=
  l.any (fun e => ((e.cA, e.fA) == (c, f) || (e.cB, e.fB) == (c, f)) && decide (now < e.start + 1024))

/-- The target frame: the index itself, or the next higher one that the tracker and recent swaps do not hold (R83). -/
def targetFrame (busy : Nat → Bool) : Nat → Nat → Nat
  | 0, f => f
  | n + 1, f => if busy f then targetFrame busy n ((f + 1) % 4096) else f

/-- The target channel: the lowest occupancy over the last 64 orbits among channels free to swap (R83). -/
def State.targetChan (s : State) (p c : Nat) : Option Nat :=
  let chs := s.physOf p
  let l := s.remapOf (.part p)
  let ok (i : Nat) : Bool := i != c && !chanSwapping l i &&
    (match s.fab.spareCopy with
     | some sc => sc.src != chs.getD i 0
     | none => true)
  let occ (i : Nat) : Nat := (s.chan (chs.getD i 0)).hist.sum
  (List.range chs.length).foldl (fun acc i =>
    if !ok i then acc
    else match acc with
      | some j => if occ i < occ j then some i else acc
      | none => some i) none

/-- The oldest entry that may be undone (R86). -/
def undoCandidate (l : List RemapEntry) (now : Nat) : Option Nat :=
  l.findIdx? (fun e => !e.inFlight && decide (e.lastHot + 1024 ≤ now))

/-- A swap started for a hot channel of a partition, or an undo to free an entry (R83, R84, R86). -/
def State.swapStart (s : State) (p c : Nat) : State :=
  let chs := s.physOf p
  let l := s.remapOf (.part p)
  let ch := chs.getD c 0
  if c ≥ chs.length || !s.flag Reg.MF_CTRL Fld.MF_CTRL_REMAP_EN || (s.chan ch).hotRun < 64 || chanSwapping l c
      || 4 ≤ (l.filter RemapEntry.inFlight).length then s
  else if 256 ≤ l.length then
    match undoCandidate l s.orbitN with
    | some i =>
      (s.setRemap p (l.modify i (fun e => { e with undoing := true, moved := 0 }))).setFld
        (Reg.MF_REMAP_STATUS p) Fld.MF_REMAP_STATUS_FULL 0
    | none => s.setFld (Reg.MF_REMAP_STATUS p) Fld.MF_REMAP_STATUS_FULL 1
  else
    match hottest ((s.chan ch).frames.filter (fun e => !frameRecent l s.orbitN c e.1)), s.targetChan p c with
    | some f, some d =>
      let busy (g : Nat) : Bool := (s.chan (chs.getD d 0)).frames.any (fun e => e.1 == g) || frameRecent l s.orbitN d g
      let g := targetFrame busy 4096 f
      let s := s.setRemap p (l ++ [⟨c, f, d, g, 0, false, s.orbitN, s.orbitN⟩])
      let s := s.setFld (Reg.MF_REMAP_STATUS p) Fld.MF_REMAP_STATUS_FULL 0
      s.setChan ch { s.chan ch with hotRun := 0 }
    | _, _ => s

/-- Two stored line groups exchanged. -/
def FabSt.exchange (m : FabSt) (a b : Nat) : FabSt :=
  let x := m.bytes a 1024
  let y := m.bytes b 1024
  (m.store a y).store b x

/-- One pair of groups of the `i`-th swap in progress of a partition copied (R84, R85). -/
def State.swapCopy (s : State) (p i : Nat) : State :=
  let l := s.remapOf (.part p)
  let idx := ((List.range l.length).filter (fun j => (l.getD j ⟨0, 0, 0, 0, 2048, false, 0, 0⟩).inFlight))[i]?
  match idx with
  | none => s
  | some j =>
    match l[j]? with
    | none => s
    | some e =>
      let later := l.drop (j + 1)
      let chs := s.physOf p
      let at_ (cf : Nat × Nat) : Nat :=
        let (c, f) := if e.undoing then remapLookup later e.moved cf else cf
        (⟨chs.getD c 0, f * 2048 + e.moved, 0⟩ : Place).dpa
      let s := { s with fab := s.fab.exchange (at_ (e.cA, e.fA)) (at_ (e.cB, e.fB)) }
      let e' := { e with moved := e.moved + 1 }
      if e'.undoing ∧ e'.moved = 2048 then s.setRemap p (l.eraseIdx j) else s.setRemap p (l.set j e')

/-! Spare-channel service (R103–R106). -/

/-- A spare not in service. -/
def State.freeSpare (s : State) : Option Nat := (List.range 16).find? (fun i => !s.spareValid i)

/-- A channel's cells dropped, and what its unlisted bytes read as set. -/
def FabSt.refill (m : FabSt) (ch : Nat) (f : Option (Byte × Byte)) : FabSt :=
  { m with cells := Tab.drop (fun a => a / 2 ^ 33 == ch) m.cells, fill := Tab.set (fun _ => none) m.fill ch f }

/-- The next waiting request for spare service started, one at a time, in channel order (R103). -/
def State.spareStart (s : State) : State :=
  match s.fab.spareCopy, s.fab.spareReq, s.freeSpare with
  | none, ch :: rest, some i =>
    let m := s.fab.refill (264 + i) none
    let s := { s with fab := { m with spareReq := rest, spareCopy := some ⟨ch, 264 + i, 0, false⟩ } }
    (s.setFld Reg.MF_STATUS Fld.MF_STATUS_SPARE_BUSY 1).setFld Reg.MF_SPARE_PROGRESS Fld.MF_SPARE_PROGRESS_GROUPS 0
  | _, _, _ => s

/-- Whether a channel can be put into spare service: an addressed channel, not yet served by a spare nor waiting. -/
def State.sparable (s : State) (ch : Nat) : Bool :=
  decide (ch < 264) && (s.spareFor ch).isNone && !s.fab.spareReq.contains ch && s.freeSpare.isSome
  && (match s.fab.spareCopy with
      | some c => c.src != ch
      | none => true)

/-- Spare service requested for a channel (R103). -/
def State.spareRequest (s : State) (ch : Nat) : State :=
  if s.sparable ch then
    ({ s with fab := { s.fab with
        spareReq := s.fab.spareReq.filter (· < ch) ++ [ch] ++ s.fab.spareReq.filter (ch < ·) } }).spareStart
  else s

/-- The automatic triggers of R103. -/
def State.autoSpare (s : State) (ch : Nat) : State :=
  if s.flag Reg.MF_CTRL Fld.MF_CTRL_AUTO_SPARE
      && (8 ≤ s.fld (Reg.MF_CH_HARD ch) Fld.MF_CH_HARD_COUNT || 4096 < (s.chan ch).passCe) then s.spareRequest ch
  else s

/-- The owner and epoch a channel's lines are decoded under by the scrubber and the copy; none for an unowned one. -/
def State.chanOwner (s : State) (ch : Nat) : Option (Byte × Byte) :=
  let k := s.chanPkg ch
  if k = 32 then some (0x40, 0)
  else match s.pkgOwner k with
    | some p => some (byte p, s.spaceEpoch (.part p))
    | none => none

/-- A line group as the copy and the scrubber correct it: its 15 data lines' outcomes, and its bytes corrected where
a single error was found (R98, R104). -/
structure GroupScan where
  check : Decoded
  lines : List Decoded
  bytes : Bytes
  deriving DecidableEq, Repr

/-- A line group decoded whole. -/
def FabSt.scan (m : FabSt) (ch r : Nat) (o e : Byte) : GroupScan :=
  let (cd, cl) := checkDecode (m.checkLine ch r) o e
  match cd with
  | .tag => ⟨cd, List.replicate 15 .tag, m.bytes ((⟨ch, r, 0⟩ : Place).dpa) 1024⟩
  | .bad => ⟨cd, List.replicate 15 .bad, m.bytes ((⟨ch, r, 0⟩ : Place).dpa) 1024⟩
  | _ =>
    let ls := (List.range 15).map (fun k => lineDecode (slice cl (4 * k) 4) (m.bytes ((⟨ch, r, k⟩ : Place).dpa) 64) o e)
    let cl' := (List.range 15).foldl (fun b k =>
      match (ls.getD k (.clean, [])).1 with
      | .single i x => if i < 4 then b.modify (4 * k + i) (· ^^^ x) else b
      | _ => b) cl
    ⟨cd, ls.map (·.1), (ls.map (·.2)).flatten ++ checkSeal cl' o e⟩

/-- Whether an outcome is a correction. -/
def Decoded.isSingle : Decoded → Bool
  | .single _ _ => true
  | _ => false

/-- One page of two groups copied to the spare (R104); the copy pauses while the retirement list has no room for the
page's uncorrectable lines. -/
def State.spareCopyPage (s : State) : State :=
  match s.fab.spareCopy with
  | none => s
  | some c =>
    if c.ended then s
    else
      let scanOf (r : Nat) : GroupScan :=
        match s.chanOwner c.src with
        | some (o, e) => s.fab.scan c.src r o e
        | none => ⟨.clean, [], s.fab.bytes ((⟨c.src, r, 0⟩ : Place).dpa) 1024⟩
      let badOf (r : Nat) (g : GroupScan) : List Nat :=
        ((List.range 15).filter (fun k => g.lines.getD k .clean == .bad || s.isRetired ((⟨c.src, r, k⟩ : Place).dpa))).map
          (fun k => (⟨c.dst, r, k⟩ : Place).dpa)
      let g0 := scanOf c.pos
      let g1 := scanOf (c.pos + 1)
      let bad := (badOf c.pos g0 ++ badOf (c.pos + 1) g1).filter (fun d => !s.isRetired d)
      if 4096 < s.fab.retired.length + bad.length then s.setFld Reg.MF_STATUS Fld.MF_STATUS_SPARE_STALLED 1
      else
        let s := (s.setFld Reg.MF_STATUS Fld.MF_STATUS_SPARE_STALLED 0).setRetired (s.fab.retired ++ bad.map (·, false))
        let corrected := (g0.lines ++ g1.lines).countP Decoded.isSingle
        let s := s.bumpBy (Reg.MF_CH_CE c.src) Fld.MF_CH_CE_COUNT corrected
        let m := (s.fab.store ((⟨c.dst, c.pos, 0⟩ : Place).dpa) g0.bytes).store ((⟨c.dst, c.pos + 1, 0⟩ : Place).dpa) g1.bytes
        let pos := c.pos + 2
        ({ s with fab := { m with spareCopy := some { c with pos := pos, ended := decide (2 ^ 23 ≤ pos) } } }).setFld
          Reg.MF_SPARE_PROGRESS Fld.MF_SPARE_PROGRESS_GROUPS pos

/-- The channel table takes the spare once the copy has ended (R105, R106). -/
def State.spareSwitch (s : State) : State :=
  match s.fab.spareCopy with
  | none => s
  | some c =>
    if !c.ended then s
    else
      let i := c.dst - 264
      let s := s.setRetired (s.fab.retired.filter (fun e => e.1 / 2 ^ 33 != c.src))
      let s := { s with fab := { s.fab with spareCopy := none } }
      let s := (s.setFld (Reg.MF_SPARE_MAP i) Fld.MF_SPARE_MAP_REPLACED c.src).setFld (Reg.MF_SPARE_MAP i) Fld.MF_SPARE_MAP_VALID 1
      let s := s.setFld Reg.MF_STATUS Fld.MF_STATUS_SPARE_BUSY 0
      let s :=
        if s.freeSpare.isNone then
          ((s.setFld Reg.MF_STATUS Fld.MF_STATUS_SPARES_EXHAUSTED 1).alarmFree 1 (Unit.pkg (c.src / 8)) 0 0)
        else s
      s.spareStart

/-- A write of MF_SPARE_CMD (R103). -/
def State.spareCmd (s : State) (src : Src) (v : Word) : State :=
  let ch := (v &&& 0x1FF).toNat
  if v.getLsbD 31 && s.sparable ch then (s.spareRequest ch).journal src Reg.MF_SPARE_CMD 0 v false s.orbitN
  else s.journal src Reg.MF_SPARE_CMD 0 v true s.orbitN

/-! Scrubbing (R97–R99). -/

/-- Whether a channel is active: its package has an owner or is the service package, and no copy replaces it. -/
def State.scrubbable (s : State) (ch : Nat) : Bool :=
  (decide (ch < 264) && (s.spareFor ch).isNone || decide (264 ≤ ch) && s.spareValid (ch - 264)) && (s.chanOwner ch).isSome
  && (match s.fab.spareCopy with
      | some c => c.src != ch
      | none => true)

/-- One data line of a scrubbed group: counted, listed, or counted as a mismatch (R98). -/
def State.scrubLine (s : State) (o : Byte) (a : Place) (d : Decoded) : State :=
  if s.isRetired a.dpa then s
  else match d with
    | .clean => s
    | .single _ _ => s.memReport o a .corrected
    | .bad => (s.memReport o a .uncorrectable).retire retireLimit a.dpa
    | .tag => if o.toNat < 16 then s.bump (Reg.MF_PART_TAG o.toNat) Fld.MF_PART_TAG_COUNT else s

/-- One line group of a channel scrubbed (R98): corrections are written back; in this model nothing comes between the
scrub's read and its write-back, so R99's case does not arise. -/
def State.scrubGroup (s : State) (ch : Nat) : State :=
  let c := s.chan ch
  let pace := max 1 (s.fld Reg.MF_CTRL Fld.MF_CTRL_SCRUB_PACE)
  if !s.flag Reg.MF_CTRL Fld.MF_CTRL_SCRUB_EN || !s.scrubbable ch || s.orbitN < c.scrubLast + pace then s
  else
    match s.chanOwner ch with
    | none => s
    | some (o, e) =>
      let r := c.scrubPos
      let g := s.fab.scan ch r o e
      let onlyCheck := g.check.isSingle && !g.lines.any Decoded.isSingle
      let s := if g.check.isSingle || g.lines.any Decoded.isSingle then
          { s with fab := s.fab.store ((⟨ch, r, 0⟩ : Place).dpa) g.bytes }
        else s
      let s := if onlyCheck then s.memReport o ⟨ch, r, 15⟩ .corrected else s
      let s := (List.range 15).foldl (fun t k => t.scrubLine o ⟨ch, r, k⟩ (g.lines.getD k .clean)) s
      let c := s.chan ch
      let pos := (r + 1) % 2 ^ 23
      let s := s.autoSpare ch
      s.setChan ch { c with scrubPos := pos, scrubLast := s.orbitN, passCe := if pos = 0 then 0 else c.passCe }

/-! Initialisation (R107) and the hash key (R80). -/

/-- Initialisation of packages started for a partition. -/
def State.initPkgs (s : State) (p : Nat) (pkgs : List Nat) : State :=
  if pkgs.isEmpty then s
  else
    ({ s with fab := { s.fab with
        initBusy := s.fab.initBusy.filter (fun (e : Nat × Nat) => !pkgs.contains e.1) ++ pkgs.map (·, p) } }).setFld
      Reg.MF_STATUS Fld.MF_STATUS_INIT_BUSY 1

/-- A write of MF_INIT_CMD (R107). -/
def State.initCmd (s : State) (src : Src) (v : Word) : State :=
  let parts := (List.range 16).filter (fun p => v.getLsbD p && !(s.pkgsOf p).isEmpty)
  (parts.foldl (fun t p => t.initPkgs p (t.pkgsOf p)) s).journal src Reg.MF_INIT_CMD 0 v parts.isEmpty s.orbitN

/-- A package's initialisation ends: every line of its channels is zero under its owner and epoch (R107). -/
def State.pkgInitDone (s : State) (pkg : Nat) : State :=
  match s.fab.initBusy.find? (fun e => e.1 == pkg) with
  | none => s
  | some (_, p) =>
    let f := some (byte p, byte (s.epoch p))
    let chs := (List.range 8).map (fun i => s.physChan (8 * pkg + i))
    let extra := match s.fab.spareCopy with
      | some c => if chs.contains c.src then [c.dst] else []
      | none => []
    let m := (chs ++ extra).foldl (fun m ch => m.refill ch f) s.fab
    let s := { s with fab := { m with initBusy := m.initBusy.filter (fun e => e.1 != pkg) } }
    let s := s.setRetired (s.fab.retired.filter (fun (e : Nat × Bool) => !(chs ++ extra).contains (e.1 / 2 ^ 33)))
    if s.fab.initBusy.isEmpty then s.setFld Reg.MF_STATUS Fld.MF_STATUS_INIT_BUSY 0 else s

/-- A write of a hash key word (R80). -/
def State.hashKeyWrite (s : State) (src : Src) (n : Nat) (v : Word) : State :=
  let k := Reg.MF_HASH_KEY n
  if s.flag Reg.MF_STATUS Fld.MF_STATUS_MAP_LOCKED then s.journal src k 0 v true s.orbitN
  else (({ s with fab := { s.fab with keyWritten := true } }).setReg k v).journal src k 0 v false s.orbitN

/-- The map locked at its first application, the key filled from the DRBG where no word of it was written (R80). -/
def State.lockMap (s : State) : State :=
  if s.flag Reg.MF_STATUS Fld.MF_STATUS_MAP_LOCKED then s
  else
    let s := s.setFld Reg.MF_STATUS Fld.MF_STATUS_MAP_LOCKED 1
    if s.fab.keyWritten then s
    else (List.range 4).foldl (fun t n => let (w, t) := t.draw; t.setReg (Reg.MF_HASH_KEY n) w) s

end Sys2Proof.Machine
end

