-- ==== Sys2Proof/Machine/PartMem.lean ====
section
/-! DEFINITION. Partition memory as its writers see it: copy-before-write of a checkpoint, the granule map, and the
forwarding of a mirrored partition's writes (R534, R535, R541–R543, R602, R604). -/

namespace Sys2Proof.Machine

/-! The granule map (R534, R535). -/

/-- A checkpoint engine at reset: every granule DIRTY. -/
def ckDefault : CkSt := ⟨[], none, none, 0, [], none, [], none, none, none, none, []⟩

/-- The checkpoint engine of a partition. -/
def State.ckpt (s : State) (p : Nat) : CkSt := Tab.get (fun _ => ckDefault) s.ck p

/-- A checkpoint engine set. -/
def State.setCkpt (s : State) (p : Nat) (c : CkSt) : State := { s with ck := Tab.set (fun _ => ckDefault) s.ck p c }

/-- A granule's state. -/
def CkSt.state (c : CkSt) (g : Nat) : GranSt := Tab.get (fun _ => GranSt.dirty) c.gran g

/-- A granule's state set. -/
def CkSt.mark (c : CkSt) (g : Nat) (x : GranSt) : CkSt := { c with gran := Tab.set (fun _ => GranSt.dirty) c.gran g x }

/-- The checkpointed range of a partition (R534). -/
def State.ckRange (s : State) (p : Nat) : Nat × Nat :=
  (s.fld (Reg.CK_RANGE_LO p) Fld.CK_RANGE_LO_GRANULE, s.fld (Reg.CK_RANGE_HI p) Fld.CK_RANGE_HI_GRANULE)

/-- Whether a granule lies in the range. -/
def State.inRange (s : State) (p g : Nat) : Bool :=
  let (lo, hi) := s.ckRange p
  decide (lo ≤ g) && decide (g < hi)

/-- The base of the Skim area. -/
def State.skimBase (s : State) (p : Nat) : Nat := s.reg64 (Reg.CK_SKIM_LO p) (Reg.CK_SKIM_HI p)

/-- DIRTY granules counted (CK_DIRTY). -/
def State.ckDirty (s : State) (p n : Nat) : State := s.setFld (Reg.CK_DIRTY p) Fld.CK_DIRTY_GRANULES n

/-- A granule written: DIRTY from any other state, counted where it lies in the range (R535). -/
def State.granWritten (s : State) (p g : Nat) : State :=
  let c := s.ckpt p
  if c.state g = .dirty then s
  else
    let s := s.setCkpt p (c.mark g .dirty)
    if s.inRange p g then s.ckDirty p (s.fld (Reg.CK_DIRTY p) Fld.CK_DIRTY_GRANULES + 1) else s

/-! Copies (R540–R543). -/

/-- Lines copied one after another, the first failing status ending the copy. -/
def State.copyLines (s : State) (p src dst : Nat) : Nat → State × MemStatus
  | 0 => (s, .ok)
  | n + 1 =>
    let (s, st, d) := s.readLine (.part p) src
    if !st.good then (s, st)
    else
      let (s, st) := s.writeLine (.part p) dst d
      if st.good then State.copyLines s p (src + 64) (dst + 64) n else (s, st)

/-- The end of a checkpoint without DONE (R553): its taken granules DIRTY again, the result latched and counted. -/
def State.ckFail (s : State) (p result : Nat) : State :=
  let c := s.ckpt p
  let back := c.gran.filter (fun e => e.2 == .pending || e.2 == .held)
  let gen := match c.cure with
    | some u => u.gen
    | none => s.reg64 (Reg.CK_GEN_LO p) (Reg.CK_GEN_HI p)
  let c := { back.foldl (fun c e => c.mark e.1 .dirty) c with cut := none, copying := [], cure := none, skimEnd := none }
  let n := (back.filter (fun e => s.inRange p e.1)).length
  let s := (s.setCkpt p c).ckDirty p (s.fld (Reg.CK_DIRTY p) Fld.CK_DIRTY_GRANULES + n)
  let s := (s.setFld (Reg.CK_STATUS p) Fld.CK_STATUS_PHASE 0).setFld (Reg.CK_STATUS p) Fld.CK_STATUS_LAST_RESULT result
  let s := s.raiseEvent 5 p (le 1 result ++ le 8 gen)
  (s.setFld (Reg.CK_EVENT p) Fld.CK_EVENT_FAILED 1).bump (Reg.CK_CNT_FAIL p) Fld.CK_CNT_FAIL_COUNT

/-- The slot of a granule of the cut (R540). -/
def CkSt.slotOf (c : CkSt) (g : Nat) : Nat := ((c.cut.map CkCut.grans).getD []).idxOf g

/-- The granules of the range that still wait to be copied. -/
def CkSt.pendingLeft (c : CkSt) : List Nat := ((c.cut.map CkCut.grans).getD []).filter (fun g => c.state g == .pending)

/-- A PENDING granule copied to its slot and HELD (R540, R541); a line that fails ends the Skim (R543). -/
def State.granCopy (s : State) (p g : Nat) : State :=
  let c := s.ckpt p
  if c.state g ≠ .pending then s
  else
    let (s, st) := s.copyLines p (g * 65536) (s.skimBase p + 65536 * c.slotOf g) 1024
    if st.good then
      let c := s.ckpt p
      let c := { c.mark g .held with copying := c.copying.filter (· != g) }
      let c := if c.pendingLeft.isEmpty then { c with skimEnd := some (s.orbitN + 1) } else c
      (s.setCkpt p c).bump (Reg.CK_PROGRESS p) Fld.CK_PROGRESS_GRANULES
    else s.ckFail p 0x07

/-- A write's copy-before-write: it waits for its PENDING granule, which is copied at once (R542, R543). -/
def State.copyBefore (s : State) (p g : Nat) : State :=
  if (s.ckpt p).state g = .pending then (s.bump (Reg.CK_CNT_COW_STALL p) Fld.CK_CNT_COW_STALL_COUNT).granCopy p g else s

/-! Mirroring (R602, R604). -/

/-- Whether the sled forwards a partition's writes: mirrored, primary, its descriptors agreed, and either in sync or
resyncing (R602–R605). -/
def State.mirrors (s : State) (p : Nat) : Bool :=
  s.flag Reg.PAIR_STATUS Fld.PAIR_STATUS_PAIR_MODE && s.bit Reg.PAIR_MIRRORED Fld.PAIR_MIRRORED_PARTS p
    && s.bit Reg.PAIR_PRIMARY Fld.PAIR_PRIMARY_PARTS p && s.pair.agreed.contains p && !s.pair.unmir.contains p
    && !s.pair.lost
    && (s.bit Reg.PAIR_SYNCED Fld.PAIR_SYNCED_PARTS p || s.pair.resync.any (fun e => e.1 == p))

/-- Whether a granule lies in a partition's mirror range. -/
def State.mirRange (s : State) (p g : Nat) : Bool :=
  let first := s.fld (Reg.PAIR_MIR_FIRST p) Fld.PAIR_MIR_FIRST_GRANULE
  decide (first ≤ g) && decide (g < first + s.fld (Reg.PAIR_MIR_COUNT p) Fld.PAIR_MIR_COUNT_GRANULES)

/-- Bytes of a queue of mirror messages. -/
def mirBytes (l : List MirMsg) : Nat := (l.map (fun m => m.data.length)).sum

/-- A mirror message queued; one that finds the partition's share full waits for room (R604). -/
def State.mirQueue (s : State) (p : Nat) (m : MirMsg) : State :=
  let q := Tab.get (fun _ => []) s.pair.mq p
  let w := Tab.get (fun _ => []) s.pair.waiting p
  let share := s.fld (Reg.PAIR_MQ_SHARE p) Fld.PAIR_MQ_SHARE_MIB * 2 ^ 20
  if w.isEmpty && decide (mirBytes q + m.data.length ≤ share) then
    { s with pair := { s.pair with mq := Tab.set (fun _ => []) s.pair.mq p (q ++ [m]) } }
  else
    ({ s with pair := { s.pair with waiting := Tab.set (fun _ => []) s.pair.waiting p (w ++ [m]) } }).bump
      (Reg.PAIR_CNT_STALL p) Fld.PAIR_CNT_STALL_COUNT

/-- The byte mask of `n` bytes at an offset of a line. -/
def lineMask (off n : Nat) : Nat := (2 ^ n - 1) * 2 ^ off

/-- A completed write forwarded to the partner, a granule already sent or in sync only (R602, R605). -/
def State.mirForward (s : State) (p pra : Nat) (data : Bytes) : State :=
  let g := pra / 65536
  let sent := match s.pair.resync.find? (fun e => e.1 == p) with
    | some (_, next) => decide (g < next)
    | none => true
  if s.mirrors p && s.mirRange p g && sent then
    s.mirQueue p ⟨0, pra / 64 * 64, lineMask (pra % 64) data.length, overlay (zeros 64) (pra % 64) data, 0⟩
  else s

/-! Reads and writes of partition memory. -/

/-- Bytes within one line of a partition written, with all that a completed write causes (R92, R535, R542, R602). -/
def State.partWrite (s : State) (p pra : Nat) (data : Bytes) : State × MemStatus :=
  let g := pra / 65536
  let s := s.copyBefore p g
  let (s, st) := s.writeLine (.part p) pra data
  if st.good then ((s.granWritten p g).mirForward p pra data, st) else (s, st)

/-- A run of bytes written line by line, with at most `fuel` lines; the first failing status ends it. -/
def State.spaceWriteSpan (s : State) (sp : Space) : Nat → Nat → Bytes → State × MemStatus
  | 0, _, _ => (s, .ok)
  | fuel + 1, a, d =>
    if d.isEmpty then (s, .ok)
    else
      let m := min d.length (64 - a % 64)
      let (s, st) := match sp with
        | .part p => s.partWrite p a (d.take m)
        | .svc => s.writeLine .svc a (d.take m)
      if st.good then State.spaceWriteSpan s sp fuel (a + m) (d.drop m) else (s, st)

/-- A run of bytes written to a space. -/
def State.writeBytes (s : State) (sp : Space) (a : Nat) (d : Bytes) : State × MemStatus :=
  s.spaceWriteSpan sp (d.length / 64 + 2) a d

/-- Bytes read from partition memory: the R94 code of a failure, or the bytes. -/
def State.partRead (s : State) (p a n : Nat) : State × (Bytes ⊕ Nat) :=
  if s.spaceSize (.part p) < a + n then (s, .inr MemStatus.outOfRange.code)
  else
    let (s, st, d) := s.readBytes (.part p) a n
    (s, if st.good then .inl d else .inr st.code)

end Sys2Proof.Machine
end

