-- ==== Sys2Proof/Machine/Cipher.lean ====
section
/-! DEFINITION. The cipher complex: derived keys and their cache, the operations of its clients, the scheduler of the
CIPH row, capture blocks, and attestation reports (chapter Cipher Engine, Keys and Attestation). A client's operation
is computed in the client's own command; its jobs queue here and take their slots. -/

namespace Sys2Proof.Machine

/-! Keys derived from the root (R493–R498). -/

/-- The share of the device. -/
def deviceShare : Nat := 16

/-- The bytes of an ASCII name. -/
def ascii (n : String) : Bytes := n.toList.map (fun c => byte c.toNat)

/-- A field of the 32-byte label of a purpose and object (R493, R494). -/
def State.keyLabel (s : State) (p purpose obj : Nat) : Bytes :=
  let current := purpose != 5
  let nonce := purpose == 4 || purpose == 5
  ascii "RLQK" ++ le 1 purpose ++ le 1 p ++ le 1 (if current then s.epoch p else 0) ++ le 1 0 ++ le 8 obj
    ++ le 8 (if nonce then s.reg64 Reg.CPH_BOOT_NONCE_LO Reg.CPH_BOOT_NONCE_HI else 0)
    ++ le 4 (if current then s.fld (Reg.PT_EPOCH_ERA p) Fld.PT_EPOCH_ERA_ERA else 0) ++ zeros 4

/-- Bytes of a derived key. -/
def keyLen (purpose : Nat) : Nat := if purpose == 1 || purpose == 3 then 64 else 32

/-- A partition's derived key through the cache, the least recently used entry replaced (R498); none when the root
check failed. -/
def State.deriveKey (s : State) (p purpose obj : Nat) : State × Option Bytes :=
  if s.flag Reg.CPH_STATUS Fld.CPH_STATUS_ROOT_BAD then (s, none)
  else
    let label := s.keyLabel p purpose obj
    let key := fixLen (keyLen purpose) (Config.kmac Config.rootKey label (keyLen purpose) (ascii "RLQ74 KDF"))
    let l := Tab.get (fun _ => []) s.cph.cache p
    let s1 := if l.contains label then s else s.bump (Reg.CPH_CNT_KEYMISS p) Fld.CPH_CNT_KEYMISS_COUNT
    let l' := (label :: l.filter (· != label)).take 6
    ({ s1 with cph := { s1.cph with cache := Tab.set (fun _ => []) s1.cph.cache p l' } }, some key)

/-- What an epoch advance does to the complex (R495): entries of the old epoch go, invocation counters restart. -/
def State.cphEpoch (s : State) (p : Nat) : State :=
  let l := Tab.get (fun _ => []) s.cph.cache p
  let s := { s with cph := { s.cph with cache := Tab.set (fun _ => []) s.cph.cache p (l.filter (fun b => byteAt b 4 == 5)) } }
  (List.range 4).foldl (fun t i => t.setReg64 (Reg.CPH_DBG_INV_LO p i) (Reg.CPH_DBG_INV_HI p i) 0) s

/-! Operations (R489, R490, R492). -/

/-- A client's operation queued. -/
def State.cphQueue (s : State) (share client : Nat) (kmac : Bool) (bytes : Nat) : State :=
  { s with cph := { s.cph with jobs := s.cph.jobs ++ [⟨s.cph.nextOp, share, client, kmac, bytes⟩], nextOp := s.cph.nextOp + 1 } }

/-- A PARAM or INVOCATION_LIMIT completion counted. -/
def State.cphLimit (s : State) (p : Nat) : State := s.bump (Reg.CPH_CNT_LIMIT p) Fld.CPH_CNT_LIMIT_COUNT

/-- A TAG_FAIL completion counted. -/
def State.cphTagFail (s : State) (p : Nat) : State := s.bump (Reg.CPH_CNT_TAGFAIL p) Fld.CPH_CNT_TAGFAIL_COUNT

/-- Whether an AES-256-GCM operation keeps the limits of R490. -/
def gcmParam (iv aad data : Bytes) : Bool :=
  iv.length == 12 && decide (aad.length ≤ 64) && decide (data.length ≤ 16777216)

/-- An AES-256-GCM encryption for a client: status, cipher text and tag. -/
def State.gcmSeal (s : State) (p client : Nat) (key iv aad data : Bytes) : State × Nat × Bytes × Bytes :=
  if !gcmParam iv aad data then (s.cphLimit p, 2, [], [])
  else
    let ct := fixLen data.length (Config.gcmEnc key iv aad data)
    (s.cphQueue p client false data.length, 0, ct, fixLen 16 (Config.gcmTag key iv aad ct))

/-- An AES-256-GCM decryption for a client: status and plain text, none released unless the tag checks (R492). -/
def State.gcmOpen (s : State) (p client : Nat) (key iv aad ct tag : Bytes) : State × Nat × Bytes :=
  if !gcmParam iv aad ct then (s.cphLimit p, 2, [])
  else
    let s := s.cphQueue p client false ct.length
    if fixLen 16 (Config.gcmTag key iv aad ct) == tag then (s, 0, fixLen ct.length (Config.gcmDec key iv aad ct))
    else (s.cphTagFail p, 1, [])

/-- An AES-256-XTS key derived for a client: the status that stops its operation, or the key (R490, R492). -/
def State.xtsKey (s : State) (p purpose obj : Nat) : State × (Nat ⊕ Bytes) :=
  match s.deriveKey p purpose obj with
  | (s, none) => (s, .inl 3)
  | (s, some k) => if k.take 32 == k.drop 32 then (s, .inl 5) else (s, .inr k)

/-- Data units of `unit` bytes, numbered from `n`, each under the tweak of its number. -/
def xtsUnits (f : Bytes → Nat → Bytes → Bytes) (key : Bytes) (unit : Nat) : Nat → Nat → Bytes → Bytes
  | 0, _, _ => []
  | fuel + 1, n, d =>
    if d.isEmpty then []
    else fixLen unit (f key n (d.take unit)) ++ xtsUnits f key unit fuel (n + 1) (d.drop unit)

/-- An AES-256-XTS operation for a client over whole data units (R490). -/
def State.xts (s : State) (p client : Nat) (dec : Bool) (key : Bytes) (unit n : Nat) (d : Bytes) : State × Bytes :=
  (s.cphQueue p client false d.length,
   xtsUnits (if dec then Config.xtsDec else Config.xtsEnc) key unit (d.length / unit + 1) n d)

/-- A SHAKE256 digest for a client. -/
def State.shake (s : State) (p client : Nat) (d : Bytes) (n : Nat) : State × Bytes :=
  (s.cphQueue p client true d.length, fixLen n (Config.shake d n))

/-- A KMAC256 code for a client under a derived key: status and code. -/
def State.mac (s : State) (p client purpose obj : Nat) (d : Bytes) (n : Nat) (custom : Bytes) : State × Nat × Bytes :=
  match s.deriveKey p purpose obj with
  | (s, none) => (s, 3, [])
  | (s, some k) => (s.cphQueue p client true d.length, 0, fixLen n (Config.kmac k d n custom))

/-! Capture blocks (R628–R631). -/

/-- The clients of the complex in the order of their queues (R488). -/
def Client.rx0 : Nat := 0
def Client.tx0 : Nat := 1
def Client.srmt : Nat := 2
def Client.storage : Nat := 3
def Client.ckpt : Nat := 4
def Client.capture : Nat := 5
def Client.device : Nat := 6

/-- Data bytes of a capture block (R629). -/
def capData : Nat := 4016

/-- Whether a stream's source still adds records. -/
def State.capOpen (s : State) (p str : Nat) : Bool :=
  match str with
  | 0 => s.flag (Reg.DBG_CAP_STATUS p) Fld.DBG_CAP_STATUS_REC_ACTIVE
  | 1 => s.flag (Reg.PT_DEBUG p) Fld.PT_DEBUG_TENSOR_WATCH
  | 3 => s.flag (Reg.PT_DEBUG p) Fld.PT_DEBUG_SYNC_TRACE
  | _ => false

/-- Whether a stream has a block to encrypt: a full one, or what is left once its source adds no more. -/
def State.capReady (s : State) (p str : Nat) : Bool :=
  let n := stagedBytes (Tab.get (fun _ => []) s.dbg.stage (4 * p + str))
  decide (capData ≤ n) || (decide (0 < n) && !s.capOpen p str)

/-- A number of bytes taken from the front of the staged records. -/
def takeStaged : List (Nat × Bytes) → Nat → Bytes × List (Nat × Bytes)
  | [], _ => ([], [])
  | (o, r) :: t, n =>
    if n = 0 then ([], (o, r) :: t)
    else if r.length ≤ n then
      let (b, rest) := takeStaged t (n - r.length)
      (r ++ b, rest)
    else (r.take n, (o, r.drop n) :: t)

/-- The invocation counter of a stream (R491). -/
def State.invocations (s : State) (p str : Nat) : Nat := s.reg64 (Reg.CPH_DBG_INV_LO p str) (Reg.CPH_DBG_INV_HI p str)

/-- The base and the length in bytes of a partition's capture region (R628). -/
def State.capRegion (s : State) (p : Nat) : Nat × Nat :=
  (s.reg64 (Reg.DBG_CAP_LO p) (Reg.DBG_CAP_HI p), s.fld (Reg.DBG_CAP_LEN p) Fld.DBG_CAP_LEN_UNITS * 2 ^ 18)

/-- Blocks of a stream's quarter. -/
def State.capBlocks (s : State) (p : Nat) : Nat := (s.capRegion p).2 / 4 / 4096

/-- A block of a stream sealed (R629): its operation queued, the block kept until its job ends. -/
def State.capSeal (s : State) (p str : Nat) : State :=
  let k := 4 * p + str
  let staged := Tab.get (fun _ => []) s.dbg.stage k
  let inv := s.invocations p str
  if 2 ^ 32 ≤ inv then
    let s := { s with dbg := { s.dbg with stage := Tab.set (fun _ => []) s.dbg.stage k [] } }
    (s.cphLimit p).alarm 4 Unit.cipher 4 str 0
  else
    match s.deriveKey p 4 str with
    | (s, none) => { s with dbg := { s.dbg with stage := Tab.set (fun _ => []) s.dbg.stage k [] } }
    | (s, some key) =>
      let (d, rest) := takeStaged staged capData
      let seq := Tab.get (fun _ => 0) s.cph.capSeq k
      let orbit := (staged.head?.map Prod.fst).getD 0
      let aad := le 1 str ++ le 1 p ++ le 2 d.length ++ zeros 4 ++ le 8 seq ++ le 8 orbit ++ le 8 inv ++ zeros 32
      let iv := le 8 inv ++ le 4 str
      let (s, _, ct, tag) := s.gcmSeal p Client.capture key iv aad (padTo capData d)
      let s := s.setReg64 (Reg.CPH_DBG_INV_LO p str) (Reg.CPH_DBG_INV_HI p str) (inv + 1)
      { s with
        dbg := { s.dbg with stage := Tab.set (fun _ => []) s.dbg.stage k rest }
        cph := { s.cph with
          capSeq := Tab.set (fun _ => 0) s.cph.capSeq k (seq + 1)
          capBusy := s.cph.capBusy ++ [(k, le 8 seq ++ aad ++ ct ++ tag)] } }

/-- A sealed block written to its place in the stream's quarter (R628, R644). -/
def State.capWrite (s : State) (k : Nat) (b : Bytes) : State :=
  let p := k / 4
  let str := k % 4
  let n := s.capBlocks p
  if n = 0 || s.flag (Reg.DBG_CAP_STATUS p) Fld.DBG_CAP_STATUS_CAP_BAD then s
  else
    let (base, len) := s.capRegion p
    (s.writeBytes (.part p) (base + str * (len / 4) + leAt b 0 8 % n * 4096) (b.drop 8)).1

/-! The scheduler (R486–R488). -/

/-- Whom the current CIPH slot serves: a partition's share, or the device's in housekeeping and Free slots. -/
def State.ciphShare (s : State) : Nat :=
  match s.holderOf 2 with
  | .owner p => p.val
  | .borrower p => p.val
  | _ => deviceShare

/-- Whether an operation's next job may be admitted: no job of it in progress, and its state has a store entry or finds
room (R489). -/
def State.jobReady (s : State) (j : CphJob) : Bool :=
  !s.cph.busy.any (fun b => b.2.op == j.op)
  && (s.cph.store.any (fun e => e.2 == j.op) || decide ((s.cph.store.filter (fun e => e.1 == j.share)).length < 64))

/-- The order of R488: class-0 receive, class-0 send, then the other queues after the one served last. -/
def State.clientOrder (s : State) (share : Nat) : List Nat :=
  let last := Tab.get (fun _ => 6) s.cph.served share
  [0, 1] ++ (List.range 5).map (fun i => 2 + (last - 2 + 1 + i) % 5)

/-- The next operation of a share for a unit of one kind. -/
def State.nextJob (s : State) (share : Nat) (kmac : Bool) : Option CphJob :=
  (s.clientOrder share).findSome? (fun c =>
    match s.cph.jobs.find? (fun j => j.share == share && j.client == c && j.kmac == kmac) with
    | some j => if s.jobReady j then some j else none
    | none => none)

/-- Bytes that one job carries at most (R486, R487). -/
def jobBytes (kmac : Bool) : Nat := if kmac then 1088 else 4096

/-- Capture blocks of a partition that are ready are sealed and join its capture queue. -/
def State.capQueue (s : State) (p : Nat) : State :=
  (List.range 4).foldl (fun t str => if t.capReady p str then t.capSeal p str else t) s

/-- CIPH_JOB_ADMIT (R488): a free unit takes the next job of the slot's holder. -/
def State.jobAdmit (s : State) (kmac : Bool) (unit : Nat) : State :=
  let key := (if kmac then 16 else 0) + unit
  let share := s.ciphShare
  if s.computeHeld || decide (239 < s.tm.cycle % 256) || (!kmac && decide (2 ≤ unit))
      || s.cph.busy.any (fun b => b.1 == key) then s
  else
    let s := if share < 16 then s.capQueue share else s
    match s.nextJob share kmac with
    | none => s
    | some j =>
      let n := min j.bytes (jobBytes kmac)
      let last := decide (j.bytes ≤ jobBytes kmac)
      let jobs := if last then s.cph.jobs.filter (fun i => i.op != j.op)
        else s.cph.jobs.map (fun i => if i.op == j.op then { i with bytes := i.bytes - n } else i)
      let store := (s.cph.store.filter (fun e => e.2 != j.op)) ++ (if last then [] else [(share, j.op)])
      let served := if 2 ≤ j.client then Tab.set (fun _ => 6) s.cph.served share j.client else s.cph.served
      let s := { s with cph := { s.cph with
        jobs := jobs, store := store, served := served
        busy := s.cph.busy ++ [(key, { j with bytes := n })] } }
      if share < 16 then s.bump (Reg.CPH_CNT_JOBS share) Fld.CPH_CNT_JOBS_COUNT else s

/-- CIPH_JOB_COMPLETE (R486): the unit is free, its AES bytes are counted, and a capture block is written. -/
def State.jobComplete (s : State) (kmac : Bool) (unit : Nat) : State :=
  let key := (if kmac then 16 else 0) + unit
  match s.cph.busy.find? (fun b => b.1 == key) with
  | none => s
  | some (_, j) =>
    let s := { s with cph := { s.cph with busy := s.cph.busy.filter (fun b => b.1 != key) } }
    let s := if !kmac && decide (j.share < 16) then
        s.bumpBy (Reg.CPH_CNT_BYTES j.share) Fld.CPH_CNT_BYTES_COUNT ((j.bytes + 63) / 64)
      else s
    if j.client == Client.capture then
      match s.cph.capBusy.find? (fun b => b.1 / 4 == j.share) with
      | some b => ({ s with cph := { s.cph with capBusy := s.cph.capBusy.erase b } }).capWrite b.1 b.2
      | none => s
    else s

/-- Whether a partition has eligible work on the CIPH row. -/
def State.ciphWork (s : State) (p : Nat) : Bool :=
  s.cph.jobs.any (fun j => j.share == p) || (List.range 4).any (fun str => s.capReady p str)

/-! The DRBG (R497). -/

/-- DRBG_RESEED: a health test that fails stops the users of the DRBG until a reseed passes. -/
def State.reseed (s : State) (healthy : Bool) : State :=
  let s := { s with cph := { s.cph with drbgDown := !healthy } }
  if healthy then s
  else (s.setFld Reg.CPH_STATUS Fld.CPH_STATUS_DRBG_FAIL 1).alarmFree 4 Unit.cipher 0 0

/-- A boot nonce drawn, invocation counters at 0 (R496). -/
def State.drawNonce (s : State) : State :=
  let (a, s) := s.draw
  let (b, s) := s.draw
  let s := (s.setReg Reg.CPH_BOOT_NONCE_LO a).setReg Reg.CPH_BOOT_NONCE_HI b
  (List.range 16).foldl (fun t p =>
    (List.range 4).foldl (fun u i => u.setReg64 (Reg.CPH_DBG_INV_LO p i) (Reg.CPH_DBG_INV_HI p i) 0) t) s

/-! Identity and attestation (R501, R504–R506). -/

/-- The 96 bytes from which the identity key pair is generated. -/
def idKey : Bytes := fixLen 96 (Config.shake (Config.idSeed ++ ascii "RLQ74-ID") 96)

/-- DIE_ID. -/
def dieId : Bytes := fixLen 32 (Config.shake (Config.slhPublic idKey) 32)

/-- The identity key pair generated: DIE_ID readable. -/
def State.genIdentity (s : State) : State :=
  ((List.range 8).foldl (fun t i => t.setReg (Reg.CPH_DIE_ID i) (BitVec.ofNat 32 (leAt dieId (4 * i) 4))) s).setFld
    Reg.CPH_STATUS Fld.CPH_STATUS_ID_READY 1

/-- A run of registers as little-endian bytes. -/
def State.regBytes (s : State) (k : Nat → Nat) (n : Nat) : Bytes :=
  ((List.range n).map (fun i => le 4 (s.reg (k i)).toNat)).flatten

/-- The active Ephemeris with the mode in force, as R505 measures it. -/
def State.ephBytes (s : State) : Bytes :=
  ((List.range 256).map (fun n => le 4 (ephView n (s.reg (Reg.EPH_ACTIVE n))).toNat)).flatten ++ le 4 (s.reg Reg.EPH_MODE_ACT).toNat

/-- PART_STATE of a report. -/
def State.partState (s : State) (p : Nat) : Nat :=
  let b (x : Bool) (n : Nat) : Nat := if x then 2 ^ n else 0
  s.epoch p + b (s.isSealed p) 8 + b (s.bit Reg.EPH_C0_OK Fld.EPH_C0_OK_QUALIFIED p) 9
    + (s.reg (Reg.PT_DEBUG p)).toNat % 16 * 2 ^ 10 + b (s.isFrozen p) 14

/-- The 384 bytes of a report (R505). -/
def State.attReport (s : State) (dev : Bool) (p : Nat) : Bytes :=
  le 4 0x41545354 ++ le 2 1 ++ le 1 (if dev then 0x40 else p) ++ le 1 0 ++ le 8 s.orbitN ++ le 8 s.devNs
    ++ s.regBytes Reg.CPH_ATT_NONCE 8 ++ s.regBytes Reg.CPH_DIE_ID 8
    ++ le 4 (s.reg Reg.LIC_STATUS).toNat ++ le 4 (s.reg Reg.CPH_VERIFY).toNat
    ++ fixLen 64 s.cph.mImage ++ fixLen 64 s.cph.mFirmware
    ++ fixLen 64 (Config.shake (s.regBytes Reg.PT_MAP_ACT 34) 64) ++ fixLen 64 (Config.shake s.ephBytes 64)
    ++ le 8 (s.reg64 Reg.PT_JRNL_SEQ_LO Reg.PT_JRNL_SEQ_HI) ++ le 4 (if dev then 0 else s.partState p)
    ++ le 2 s.cph.svnFw ++ le 2 s.cph.svnImg ++ zeros 16

/-- A write of CPH_ATT_CTRL (R504). -/
def State.attCtrl (s : State) (src : Src) (v : Word) : State :=
  let busy := s.flag Reg.CPH_ATT_STATUS Fld.CPH_ATT_STATUS_BUSY
  let go := v.getLsbD 31
  let s := s.journal src Reg.CPH_ATT_CTRL 0 v (go && busy) s.orbitN
  if !go then s
  else if busy then s.setFld Reg.CPH_ATT_STATUS Fld.CPH_ATT_STATUS_ATT_DROPPED 1
  else
    let r := s.attReport (v.getLsbD 4) (v.toNat % 16)
    let s := { s with cph := { s.cph with report := some r } }
    (s.cphQueue deviceShare Client.device true 384).setFld Reg.CPH_ATT_STATUS Fld.CPH_ATT_STATUS_BUSY 1

/-- A report's end (R506): report and signature written, DONE set, BUSY cleared. -/
def State.attDone (s : State) : State :=
  match s.cph.report with
  | none => s
  | some r =>
    let sig := fixLen 49856 (Config.slhSign idKey (ascii "RLQ74-ATTEST") r)
    let s := { s with cph := { s.cph with report := none } }
    let s := (s.writeBytes .svc (s.reg64 Reg.CPH_ATT_OUT_LO Reg.CPH_ATT_OUT_HI) (r ++ sig)).1
    (s.setFld Reg.CPH_ATT_STATUS Fld.CPH_ATT_STATUS_BUSY 0).setFld Reg.CPH_ATT_STATUS Fld.CPH_ATT_STATUS_DONE 1

/-! Resets (R508). -/

/-- A partition's cipher work and keys lost. -/
def State.cphPartReset (s : State) (p : Nat) : State :=
  { s with cph := { s.cph with
    jobs := s.cph.jobs.filter (fun j => j.share != p)
    busy := s.cph.busy.filter (fun b => b.2.share != p)
    store := s.cph.store.filter (fun e => e.1 != p)
    cache := Tab.erase s.cph.cache p
    capBusy := s.cph.capBusy.filter (fun b => b.1 / 4 != p) } }

/-- Queued jobs, the operation store and the key caches lost (P, K, H, E). -/
def State.cphClear (s : State) : State :=
  { s with cph := { s.cph with jobs := [], busy := [], store := [], cache := [], capBusy := [], report := none } }

/-! The commands. -/

/-- CIPH_JOB_ADMIT (R488). -/
def execCiphJobAdmit (kmac : Bool) (unit : Fin 4) (s : State) : Host.Outcome State Fault Refusal := s.answer (s.jobAdmit kmac unit)

/-- CIPH_JOB_COMPLETE (R486). -/
def execCiphJobComplete (kmac : Bool) (unit : Fin 4) (s : State) : Host.Outcome State Fault Refusal :=
  s.answer (s.unitAct (fun s => s.jobComplete kmac unit))

/-- DRBG_RESEED (R497). -/
def execDrbgReseed (healthy : Bool) (s : State) : Host.Outcome State Fault Refusal := s.answer (s.reseed healthy)

/-- ATTEST_GO (R504). -/
def execAttestGo (src : Src) (v : Word) (s : State) : Host.Outcome State Fault Refusal := s.answer (s.hostGate src Reg.CPH_ATT_CTRL v (fun s => s.attCtrl src v))

/-- ATTEST_DONE (R506). -/
def execAttestDone (s : State) : Host.Outcome State Fault Refusal := s.answer (s.unitAct (fun s => s.attDone))

end Sys2Proof.Machine
end

