-- ==== Sys2Proof/Machine/Trace.lean ====
section
/-! DEFINITION. The records that waits and drains leave for a partition's capture streams: the synchronisation trace
(R625) and the tensor watch (R626). -/

namespace Sys2Proof.Machine

/-- A synchronisation trace record (R625). -/
def State.waitRecord (s : State) (waiter outcome kind target value seen start : Nat) : Bytes :=
  le 2 waiter ++ le 1 outcome ++ le 1 kind ++ le 4 target ++ le 4 value ++ le 4 seen
    ++ le 6 (start / orbitCycles) ++ le 2 (start % orbitCycles) ++ le 6 s.orbitN ++ le 2 s.tm.cycle

/-- A wait ended: a Tail event (R622 KIND 4), and the record to the owner's stream 3 while SYNC_TRACE is 1, or to the
log ring for a firmware waiter (R625). -/
def State.waitTrace (s : State) (waiter outcome kind target value seen start : Nat) (owner : Option Nat) : State :=
  let s' := s.tailEvent waiter 4 outcome (target % 65536)
  match owner with
  | some p =>
    if s.flag (Reg.PT_DEBUG p) Fld.PT_DEBUG_SYNC_TRACE then
      s'.capPush p 3 (s.waitRecord waiter outcome kind target value seen start)
    else s'
  | none =>
    if 0xF0 ≤ waiter ∧ waiter < 0x100 then
      s'.logWrite ⟨0, 3, 11, s.orbitN, s.waitRecord waiter outcome kind target value seen start⟩
    else s'

/-! Input recording (R642–R644). -/

/-- Whether a partition's inputs are recorded. -/
def State.recording (s : State) (p : Nat) : Bool := s.flag (Reg.DBG_CAP_STATUS p) Fld.DBG_CAP_STATUS_REC_ACTIVE

/-- Whether a partition's replay runs (R645). -/
def State.replaying (s : State) (p : Nat) : Bool := s.dbg.replay.any (fun e => e.1 == p && e.2.start.isSome)

/-- A record of stream 0 (R643): 16 bytes of header, its content, padding. -/
def State.recBytes (s : State) (kind source : Nat) (c : Bytes) : Bytes :=
  let hdr := kind + source % 256 * 2 ^ 8 + c.length % 65536 * 2 ^ 16 + s.orbitN * 2 ^ 32 + s.tm.cycle / 256 * 2 ^ 80
  let b := le 16 hdr ++ c
  b ++ zeros ((16 - b.length % 16) % 16)

/-- A record put into stream 0's staging buffer; none while the capture region is bad (R628). -/
def State.recPut (s : State) (p : Nat) (b : Bytes) : State :=
  if s.flag (Reg.DBG_CAP_STATUS p) Fld.DBG_CAP_STATUS_CAP_BAD then s
  else
    let q := Tab.get (fun _ => []) s.dbg.stage (4 * p)
    { s with dbg := { s.dbg with stage := Tab.set (fun _ => []) s.dbg.stage (4 * p) (q ++ [(s.orbitN, b)]) } }

/-- Bytes of stream 0 since the recording's START, in blocks written and in the staging buffer; the sequence number of
the block that START goes into is kept at key 64 + p. -/
def State.recBytesUsed (s : State) (p : Nat) : Nat :=
  (Tab.get (fun _ => 0) s.cph.capSeq (4 * p) - Tab.get (fun _ => 0) s.cph.capSeq (64 + p)) * 4016
    + stagedBytes (Tab.get (fun _ => []) s.dbg.stage (4 * p))

/-- Bytes that a quarter of the capture region holds (R628, R629): 16 blocks of 4,016 bytes for each unit of its length. -/
def State.recRoom (s : State) (p : Nat) : Nat := s.fld (Reg.DBG_CAP_LEN p) Fld.DBG_CAP_LEN_UNITS * 16 * 4016

/-- A recording ended with an END record and its reason (R642, R644). -/
def State.recEnd (s : State) (p reason : Nat) : State :=
  if s.recording p then
    (s.recPut p (s.recBytes 7 0 (le 1 reason))).setFld (Reg.DBG_CAP_STATUS p) Fld.DBG_CAP_STATUS_REC_ACTIVE 0
  else s

/-- An input of a partition recorded while it records; a full staging buffer or a full quarter, in which an END record
still finds room, ends the recording (R644). -/
def State.recItem (s : State) (p kind source : Nat) (c : Bytes) : State :=
  if !s.recording p then s
  else
    let b := s.recBytes kind source c
    if 65536 < stagedBytes (Tab.get (fun _ => []) s.dbg.stage (4 * p)) + b.length then
      (s.recEnd p 2).setFld (Reg.DBG_CAP_STATUS p) Fld.DBG_CAP_STATUS_REC_OVERFLOW 1
    else if s.recRoom p < s.recBytesUsed p + b.length + 32 then
      (s.recEnd p 3).setFld (Reg.DBG_CAP_STATUS p) Fld.DBG_CAP_STATUS_REC_FULL 1
    else s.recPut p b

end Sys2Proof.Machine
end

