-- ==== Sys2Proof/Machine/Host.lean ====
section
/-! DEFINITION. The host endpoint: configuration space, requests that the sled makes and their tags, MSI-X, answers to
received requests, and the aperture (chapter Host Endpoint). -/

namespace Sys2Proof.Machine

/-! Configuration space (R347, R357). The places of the capabilities and of their fields are the PCI Express
specification's. -/

/-- A function's number in configuration space: PF0 is 0, VF v is v + 1. -/
def fnIdx : Fn → Nat
  | .pf => 0
  | .vf v => v.val + 1

/-- The reset value of a doubleword of a function. -/
def cfgReset (f dw : Nat) : Nat :=
  let vf := f != 0
  match dw with
  | 0 => if vf then 0xFFFFFFFF else 0
  | 1 => 0x00100000
  | 2 => 0x12000000
  | 4 => if vf then 0 else 4
  | 13 => 0x40
  | 16 => 0xC0035001
  | 17 => 8
  | 20 => if vf then 0x003F7011 else 0x00FF7011
  | 21 => if vf then 0xA000 else 0x8000
  | 22 => if vf then 0xB000 else 0x9000
  | 28 => 0x00020010
  | 29 => if vf then 0x10008022 else 0x00008022
  | 30 => 0x2000
  | 37 => 0xF
  | 64 => if vf then 0x00020001 else 0x14020001
  | 69 => 0x2000
  | 80 => if vf then 0 else 0x18010010
  | 83 => if vf then 0 else 0x00400040
  | 85 => if vf then 0 else 0x00010001
  | 89 => if vf then 0 else 4
  | 91 => if vf then 0 else 0xC
  | 96 => if vf then 0 else 0x0001002F
  | 97 => if vf then 0 else 6
  | _ => 0

/-- The bits of a doubleword that a write sets. -/
def cfgRw (f dw : Nat) : Nat :=
  let vf := f != 0
  match dw with
  | 1 => if vf then 4 else 0x546
  | 4 => if vf then 0 else 0xFC000000
  | 5 => if vf then 0 else 0xFFFFFFFF
  | 17 => 0x103
  | 20 => 0xC0000000
  | 30 => if vf then 0xF else 0x71EF
  | 38 => if vf then 0 else 0xF
  | 66 => 0x0011D000
  | 67 => 0x0011D000
  | 69 => 0x2000
  | 82 => if vf then 0 else 0x19
  | 84 => if vf then 0 else 0xFFFF
  | 89 => if vf then 0 else 0xFFFF0000
  | 90 => if vf then 0 else 0xFFFFFFFF
  | 92 => if vf then 0 else 0xFFFFFFF0
  | 98 => if vf then 0 else 4
  | _ => 0

/-- The bits of a doubleword that a write of 1 clears. -/
def cfgW1c (dw : Nat) : Nat :=
  match dw with
  | 17 => 0x8000
  | 30 => 0xF0000
  | 65 => 0x0011D000
  | 68 => 0x2000
  | _ => 0

/-- The reset value by the key of the table. -/
def cfgDefault (k : Nat) : Word := BitVec.ofNat 32 (cfgReset (k / 1024) (k % 1024))

/-- A doubleword of configuration space. -/
def State.cfg (s : State) (f dw : Nat) : Nat := (Tab.get cfgDefault s.host.cfg (f * 1024 + dw)).toNat

/-- A doubleword set. -/
def State.setCfg (s : State) (f dw n : Nat) : State :=
  { s with host := { s.host with cfg := Tab.set cfgDefault s.host.cfg (f * 1024 + dw) (BitVec.ofNat 32 n) } }

/-- Bits of a doubleword set to 1. -/
def State.cfgOr (s : State) (f dw n : Nat) : State := s.setCfg f dw (s.cfg f dw ||| n)

/-- The 32-bit mask of four byte enables. -/
def byteEnables (be : BitVec 4) : Nat := ((List.range 4).map (fun i => if be.getLsbD i then 0xFF * 2 ^ (8 * i) else 0)).sum

/-- A write of a doubleword under its byte enables; a power state that the sled lacks is not taken. -/
def State.cfgWrite (s : State) (f dw : Nat) (w : Word) (be : BitVec 4) : State :=
  let en := byteEnables be
  let old := s.cfg f dw
  let rw := cfgRw f dw &&& en
  let new := (old &&& (0xFFFFFFFF ^^^ rw)) ||| (w.toNat &&& rw)
  let new := new &&& (0xFFFFFFFF ^^^ (w.toNat &&& cfgW1c dw &&& en))
  let new := if dw == 17 && (new % 4 == 1 || new % 4 == 2) then new / 4 * 4 + old % 4 else new
  s.setCfg f dw new

/-- AER: bits of the uncorrectable status (R357, R365): 12 poisoned, 14 completion timeout, 15 completer abort,
16 unexpected completion, 20 unsupported request. -/
def State.aer (s : State) (f bit : Nat) : State := s.cfgOr f 65 (2 ^ bit)

/-- A power state of a function. -/
def State.fnD3 (s : State) (f : Nat) : Bool := s.cfg f 17 % 4 == 3

/-- Whether memory requests to a function are unsupported (R351, R357, R398). -/
def State.memOff (s : State) (f : Nat) : Bool :=
  let mse := if f = 0 then (s.cfg 0 1).testBit 1 else (s.cfg 0 82).testBit 3 && (s.cfg 0 82).testBit 0
  !mse || (f != 0 && s.host.flr.any (fun e => e.1 + 1 == f)) || s.fnD3 f || s.fnD3 0 || s.fld Reg.EP_STATUS Fld.EP_STATUS_DSTATE == 3

/-- Max_Payload_Size and Max_Read_Request_Size in bytes (R347, R363). -/
def State.maxPayload (s : State) : Nat := 128 * 2 ^ min 2 (s.cfg 0 30 / 32 % 8)
def State.maxRead (s : State) : Nat := 128 * 2 ^ min 5 (s.cfg 0 30 / 4096 % 8)

/-! What the sled sends to the host (R361, R363). -/

/-- The share in whose HOST slots a function's traffic goes (R361). -/
def State.fnShare (s : State) (f : Nat) : Nat := if f = 0 then 16 else (s.vfPart (f - 1)).getD 16

/-- A TLP queued for a share's HOST slots. -/
def State.hostPost (s : State) (share : Nat) (o : Out) : State :=
  let q := Tab.get (fun _ => []) s.host.outq share
  { s with host := { s.host with outq := Tab.set (fun _ => []) s.host.outq share (q ++ [o]) } }

/-- A write to host memory in pieces of at most Max_Payload_Size that cross no 4 KiB boundary. -/
def State.hostWritePieces (s : State) (share : Nat) : Nat → Nat → Bytes → State
  | 0, _, _ => s
  | fuel + 1, a, d =>
    if d.isEmpty then s
    else
      let m := min (min d.length s.maxPayload) (4096 - a % 4096)
      State.hostWritePieces (s.hostPost share (.memWrite a (d.take m))) share fuel (a + m) (d.drop m)

/-- A write to host memory. -/
def State.hostWrite (s : State) (share a : Nat) (d : Bytes) : State := s.hostWritePieces share (d.length / 128 + 2) a d

/-- A completion to a function's read. -/
def State.hostCpl (s : State) (f status : Nat) (d : Bytes) : State := s.hostPost (s.fnShare f) (.cpl f status d)

/-! Reads of host memory (R361–R364). -/

/-- A read of host memory asked for. -/
def State.hostRead (s : State) (who : HWho) (share a len : Nat) : State :=
  { s with host := { s.host with reads := s.host.reads ++ [⟨who, share, a, len, 0, [], none⟩] } }

/-- Whether 14-bit tags are in use (R363). -/
def State.tag14 (s : State) : Bool := s.flag Reg.EP_STATUS Fld.EP_STATUS_FLIT && (s.cfg 0 98).testBit 2

/-- The first tag and the number of tags of a share (R362). -/
def State.tagRange (s : State) (share : Nat) : Nat × Nat :=
  if s.tag14 then (if share < 16 then (240 * share, 240) else (3840, 256))
  else if s.flag Reg.EP_STATUS Fld.EP_STATUS_FLIT then (if share < 16 then (15 * share, 15) else (240, 16))
  else (if share < 16 then (60 * share, 60) else (960, 64))

/-- A free tag of a share. -/
def State.freeTag (s : State) (share : Nat) : Option Nat :=
  let (base, n) := s.tagRange share
  ((List.range n).map (base + ·)).find? (fun t =>
    !s.host.tags.any (fun h => h.tag == t) && !s.host.hold.any (fun h => h.1 == t))

/-- One piece of a read issued under a free tag (R363); none when nothing of the share is left to issue or no tag is
free. -/
def State.hostIssue (s : State) (share : Nat) : Option (State × Nat × Nat × Nat) :=
  match s.host.reads.find? (fun r => r.share == share && decide (r.issued < r.len) && r.fail.isNone), s.freeTag share with
  | some r, some t =>
    let a := r.addr + r.issued
    let m := min (min (r.len - r.issued) s.maxRead) (4096 - a % 4096)
    let reads := s.host.reads.map (fun x => if x.who = r.who then { x with issued := x.issued + m } else x)
    some ({ s with host := { s.host with reads := reads, tags := s.host.tags ++ [⟨t, r.who, r.issued, m⟩] } }, t, a, m)
  | _, _ => none

/-- The data of a finished read, in order of offset. -/
def HostRd.data (r : HostRd) : Bytes := r.got.foldl (fun b e => overlay b e.1 e.2) (zeros r.len)

/-- A finished read taken: none while it runs; its data, or whether it timed out. -/
def State.hostTake (s : State) (who : HWho) : Option (State × (Bytes ⊕ Bool)) :=
  match s.host.reads.find? (fun r => r.who = who) with
  | none => none
  | some r =>
    if s.host.tags.any (fun t => t.who = who) then none
    else
      let s' := { s with host := { s.host with reads := s.host.reads.filter (fun x => !decide (x.who = who)) } }
      match r.fail with
      | some b => some (s', .inr b)
      | none => if r.issued = r.len then some (s', .inl r.data) else none

/-- Reads that satisfy a test given up, their tags held (R364, R398). -/
def State.hostSquash (s : State) (p : HWho → Bool) : State :=
  let gone := (s.host.tags.filter (fun t => p t.who)).map (fun t => (t.tag, s.orbitN))
  { s with host := { s.host with
    reads := s.host.reads.filter (fun r => !p r.who)
    tags := s.host.tags.filter (fun t => !p t.who)
    hold := s.host.hold ++ gone } }

/-- A read failed. -/
def State.hostFail (s : State) (who : HWho) (timeout : Bool) : State :=
  { s with host := { s.host with reads := s.host.reads.map (fun x => if x.who = who then { x with fail := some timeout } else x) } }

/-- HOST_COMPLETION (R357, R363, R398). -/
def State.hostCompletion (s : State) (tag : Nat) (k : CplKind) : State :=
  match s.host.tags.find? (fun t => t.tag == tag) with
  | none =>
    match s.host.stale.find? (fun e => e.1 == tag) with
    | some (_, v) => s.bump (Reg.PT_FLR_STAT v) Fld.PT_FLR_STAT_STALE_CPL
    | none => ((s.setFld Reg.EP_EVENT Fld.EP_EVENT_UNEXP_CPL 1).aer 0 16).cfgOr 0 68 0x2000
  | some t =>
    let rest := s.host.tags.filter (fun x => x.tag != tag)
    match k with
    | .poisoned =>
      ((({ s with host := { s.host with tags := rest } }).hostFail t.who false).setFld Reg.EP_EVENT Fld.EP_EVENT_POISON_RX 1).aer 0 12
    | .ok d =>
      let d := d.take t.len
      let reads := s.host.reads.map (fun x => if x.who = t.who then { x with got := x.got ++ [(t.off, d)] } else x)
      let rest := if d.length < t.len then rest ++ [⟨tag, t.who, t.off + d.length, t.len - d.length⟩] else rest
      { s with host := { s.host with tags := rest, reads := reads } }

/-- COMPLETION_TIMEOUT (R364). -/
def State.cplTimeout (s : State) (tag : Nat) : State :=
  match s.host.tags.find? (fun t => t.tag == tag) with
  | none => s
  | some t =>
    let s := { s with host := { s.host with
      tags := s.host.tags.filter (fun x => x.tag != tag), hold := s.host.hold ++ [(tag, s.orbitN)] } }
    (((s.hostFail t.who true).bump Reg.EP_CNT_CPL_TIMEOUT Fld.EP_CNT_CPL_TIMEOUT_COUNT).setFld
      Reg.EP_EVENT Fld.EP_EVENT_CPL_TIMEOUT 1).aer 0 14

/-- TAG_HOLD_EXPIRY (R364): a held tag is free again 2^14 orbits later. -/
def State.tagFree (s : State) (tag : Nat) : State :=
  if s.host.hold.any (fun h => h.1 == tag && decide (h.2 + 2 ^ 14 ≤ s.orbitN)) then
    { s with host := { s.host with
      hold := s.host.hold.filter (fun h => h.1 != tag)
      stale := s.host.stale.filter (fun h => h.1 != tag) } }
  else s

/-! MSI-X (R366). -/

/-- The registers of a vector: message address, upper address, data, control. -/
def msixRegs (f v : Nat) : Nat × Nat × Nat × Nat :=
  if f = 0 then (Reg.MSIX_ADDR v, Reg.MSIX_UPPER v, Reg.MSIX_DATA v, Reg.MSIX_CTRL v)
  else (Reg.VF_MSIX_ADDR (f - 1) v, Reg.VF_MSIX_UPPER (f - 1) v, Reg.VF_MSIX_DATA (f - 1) v, Reg.VF_MSIX_CTRL (f - 1) v)

/-- The pending-bit register of a vector. -/
def pbaReg (f v : Nat) : Nat := if f = 0 then Reg.MSIX_PBA (v / 32) else Reg.VF_MSIX_PBA (f - 1) (v / 32)

/-- Whether a vector is masked, by itself or by Function Mask. -/
def State.msixMasked (s : State) (f v : Nat) : Bool :=
  (s.cfg f 20).testBit 30 || (s.reg (msixRegs f v).2.2.2).getLsbD 0

/-- Whether MSI-X is enabled. -/
def State.msixOn (s : State) (f : Nat) : Bool := (s.cfg f 20).testBit 31

/-- A vector's message sent. -/
def State.msixSend (s : State) (f v : Nat) : State :=
  let (lo, hi, d, _) := msixRegs f v
  s.hostWrite (s.fnShare f) (s.reg64 lo hi) (le 4 (s.reg d).toNat)

/-- A vector signalled. -/
def State.msix (s : State) (f v : Nat) : State :=
  if !s.msixOn f then s
  else if s.msixMasked f v then s.setReg (pbaReg f v) (s.reg (pbaReg f v) ||| BitVec.ofNat 32 (2 ^ (v % 32)))
  else s.msixSend f v

/-- MSIX_UNMASK: a pending vector that is no longer masked sends its message. -/
def State.msixUnmask (s : State) (f v : Nat) : State :=
  if s.msixOn f && !s.msixMasked f v && (s.reg (pbaReg f v)).getLsbD (v % 32) then
    (s.setReg (pbaReg f v) (s.reg (pbaReg f v) &&& ~~~(BitVec.ofNat 32 (2 ^ (v % 32))))).msixSend f v
  else s

/-! Answers (R355, R357). -/

/-- An unsupported request: counted, logged, answered where it expects an answer. -/
def State.urAnswer (s : State) (f : Nat) (posted : Bool) : State :=
  let s := s.bump Reg.EP_CNT_UR Fld.EP_CNT_UR_COUNT
  let s := if f = 0 then s else s.bump (Reg.VF_CNT_UR (f - 1)) Fld.VF_CNT_UR_COUNT
  let s := s.aer f 20
  if posted then s else s.hostCpl f 1 []

/-- A Completer Abort counted, and sent for a read. -/
def State.caAnswer (s : State) (v : Nat) (posted : Bool) : State :=
  let s := (s.bump Reg.EP_CNT_CA Fld.EP_CNT_CA_COUNT).bump (Reg.VF_CNT_CA v) Fld.VF_CNT_CA_COUNT
  if posted then s else s.hostCpl (v + 1) 4 []

/-- The partition-relative address of an aperture offset (R354). -/
def State.aptPra (s : State) (v off : Nat) : Nat := s.fld (Reg.EP_VF_APT v) Fld.EP_VF_APT_BASE_GIB * 2 ^ 30 + off

/-- Pieces of a BAR2 read, each to the next Read Completion Boundary (R347, R355). -/
def State.bar2Pieces (s : State) (v p : Nat) : Nat → Nat → Nat → State
  | 0, _, _ => s
  | fuel + 1, a, n =>
    if n = 0 then s
    else
      let m := min n (128 - a % 128)
      let (s, st, d) := s.readBytes (.part p) a m
      if st.good then State.bar2Pieces (s.hostCpl (v + 1) 0 d) v p fuel (a + m) (n - m)
      else s.caAnswer v false

/-- A BAR2 read of a bound function (R354, R355, R357). -/
def State.bar2Read (s : State) (v off len : Nat) : State :=
  match s.vfPart v with
  | none => s.caAnswer v false
  | some p =>
    let a := s.aptPra v off
    if s.spaceSize (.part p) < a + len then s.caAnswer v false
    else s.bar2Pieces v p (len / 128 + 2) a len

/-- Lines of a BAR2 write: a line that fails stays unchanged, the others are written (R355). -/
def State.bar2Lines (s : State) (v p : Nat) : Nat → Nat → Bytes → State
  | 0, _, _ => s
  | fuel + 1, a, d =>
    if d.isEmpty then s
    else
      let m := min d.length (64 - a % 64)
      let (s, st) := s.partWrite p a (d.take m)
      let s := if st.good then s else s.bump (Reg.VF_CNT_WRITE_ERR v) Fld.VF_CNT_WRITE_ERR_COUNT
      State.bar2Lines s v p fuel (a + m) (d.drop m)

/-- A BAR2 write. -/
def State.bar2Write (s : State) (v off : Nat) (d : Bytes) : State :=
  match s.vfPart v with
  | none => s.caAnswer v true
  | some p =>
    let a := s.aptPra v off
    if s.spaceSize (.part p) < a + d.length then s.caAnswer v true
    else s.bar2Lines v p (d.length / 64 + 2) a d

/-- Whether a write is held: a line of it lies in a package under initialisation (R107, R360). -/
def State.bar2Held (s : State) (v off len : Nat) : Bool :=
  match s.vfPart v with
  | none => false
  | some p =>
    let a := s.aptPra v off
    !s.fab.initBusy.isEmpty && decide (a + len ≤ s.spaceSize (.part p))
      && (List.range (len / 64 + 2)).any (fun i =>
        match s.translate (.part p) (a / 64 * 64 + 64 * i) with
        | some pl => decide (a / 64 * 64 + 64 * i < a + len) && s.chanBusy pl.ch
        | none => false)

/-! Slots (R53, R361). -/

/-- Bytes that the link carries in a slot, by EP_STATUS.SPEED and WIDTH. -/
def State.hostBudget (s : State) : Nat :=
  let tenths : Nat := match s.fld Reg.EP_STATUS Fld.EP_STATUS_SPEED with
    | 1 => 25 | 2 => 50 | 3 => 80 | 4 => 160 | 5 => 320 | 6 => 640 | _ => 0
  tenths * s.fld Reg.EP_STATUS Fld.EP_STATUS_WIDTH * 125 / 80

/-- Bytes of a TLP on the link: its data and 24 bytes of header and overhead. -/
def tlpBytes : Out → Nat
  | .memWrite _ d => d.length + 24
  | .cpl _ _ d => d.length + 24
  | _ => 24

/-- A TLP sent, unless its partition is replayed (R646). -/
def State.hostEmit (s : State) (share : Nat) (o : Out) : State := if s.replaying share then s else { s with out := s.out ++ [o] }

/-- Queued TLPs of a share sent while they fit in what is left of the slot, the last starting by cycle 223. -/
def State.hostFlush (s : State) (share budget : Nat) : Nat → Nat → State × Nat
  | 0, used => (s, used)
  | fuel + 1, used =>
    match Tab.get (fun _ => []) s.host.outq share with
    | [] =>
      match s.hostIssue share with
      | some (s', t, a, m) =>
        if used + 24 ≤ budget ∧ used * 256 ≤ 223 * budget then
          State.hostFlush (s'.hostEmit share (.memRead t a m)) share budget fuel (used + 24)
        else (s, used)
      | none => (s, used)
    | o :: t =>
      if used + tlpBytes o ≤ budget ∧ used * 256 ≤ 223 * budget then
        State.hostFlush
          (({ s with host := { s.host with outq := Tab.set (fun _ => []) s.host.outq share t } }).hostEmit share o) share budget fuel (used + tlpBytes o)
      else (s, used)

/-- Whether a share has work on the HOST row. -/
def State.hostWork (s : State) (share : Nat) : Bool :=
  !(Tab.get (fun _ => []) s.host.outq share).isEmpty
    || s.host.reads.any (fun r => r.share == share && decide (r.issued < r.len) && r.fail.isNone)

/-- A HOST slot given to a share. -/
def State.hostSlot (s : State) (share : Nat) : State := (s.hostFlush share s.hostBudget 800 0).1

/-! Power (R367, R368). -/

/-- D3HOT_EXIT (R367). -/
def State.d3Exit (s : State) : State :=
  if s.fld Reg.EP_STATUS Fld.EP_STATUS_DSTATE == 3 && s.cfg 0 17 % 4 == 0 then
    s.setFld Reg.EP_STATUS Fld.EP_STATUS_DSTATE 0
  else s

/-- WAKE_CAUSE (R367, R369): in D3cold WAKE# is asserted and the cause kept; in D3hot an enabled cause sends PM_PME. -/
def State.wakeCause (s : State) (cold : Bool) (k : WakeCause) : State :=
  let i : Nat := match k with | .touch => 0 | .eject => 1 | .pairLoss => 2 | .i3c => 3
  if !s.bit Reg.EP_WAKE_EN Fld.EP_WAKE_EN_CAUSES i then s
  else if cold then
    let s := s.setBit Reg.EP_WAKE_CAUSE Fld.EP_WAKE_CAUSE_CAUSES i true
    { s with host := { s.host with wake := true }, out := s.out ++ [.pin 0 true] }
  else if s.fld Reg.EP_STATUS Fld.EP_STATUS_DSTATE == 3 then
    let s := s.cfgOr 0 17 0x8000
    if (s.cfg 0 17).testBit 8 then { s with out := s.out ++ [.hostMsg 1] } else s
  else s

end Sys2Proof.Machine
end

