-- ==== Sys2Proof/Machine/Storage.lean ====
section
/-! DEFINITION. The storage service: the cartridge queue, the write buffer, admitted commands and what moves them, self-tests,
mount and eject (chapter Storage Service and Cartridge). -/

namespace Sys2Proof.Machine

/-! State. -/

def nvSqDefault : NvSq := ⟨false, 0, 2, false, false, 0, 0, 0, []⟩
def nvCqDefault : NvCq := ⟨false, 0, 2, false, none, 0, 0, true, []⟩

def State.nvSq (s : State) (v y : Nat) : NvSq := Tab.get (fun _ => nvSqDefault) s.stg.sq (32 * v + y)
def State.nvCq (s : State) (v y : Nat) : NvCq := Tab.get (fun _ => nvCqDefault) s.stg.cq (32 * v + y)
def State.setNvSq (s : State) (v y : Nat) (x : NvSq) : State :=
  { s with stg := { s.stg with sq := Tab.set (fun _ => nvSqDefault) s.stg.sq (32 * v + y) x } }
def State.setNvCq (s : State) (v y : Nat) (x : NvCq) : State :=
  { s with stg := { s.stg with cq := Tab.set (fun _ => nvCqDefault) s.stg.cq (32 * v + y) x } }

/-- CART_STATE. -/
def State.cartState (s : State) : Nat := s.fld Reg.STG_STATUS Fld.STG_STATUS_CART_STATE

/-- CART_STATE set. -/
def State.setCart (s : State) (n : Nat) : State := s.setFld Reg.STG_STATUS Fld.STG_STATUS_CART_STATE n

/-- The latch locked or unlocked. -/
def State.setLatch (s : State) (b : Bool) : State :=
  s.setFld Reg.STG_STATUS Fld.STG_STATUS_LATCHED (if b then 1 else 0)

/-! Namespaces (R515). -/

/-- Base and length of a namespace in cartridge blocks, its owner and NSID, the size of its logical blocks. -/
def State.nsBase (s : State) (n : Nat) : Nat := s.reg64 (Reg.STG_NS_BASE_LO n) (Reg.STG_NS_BASE_HI n)
def State.nsLen (s : State) (n : Nat) : Nat := s.reg64 (Reg.STG_NS_LEN_LO n) (Reg.STG_NS_LEN_HI n)
def State.nsOwner (s : State) (n : Nat) : Nat := bitsOf (s.reg (Reg.STG_NS_CFG n)).toNat 0 5
def State.nsId (s : State) (n : Nat) : Nat := bitsOf (s.reg (Reg.STG_NS_CFG n)).toNat 8 5
def State.lbSize (s : State) (n : Nat) : Nat := if (s.reg (Reg.STG_NS_CFG n)).getLsbD 16 then 4096 else 512
/-- Logical blocks of a namespace, its header block apart. -/
def State.nsSize (s : State) (n : Nat) : Nat := (s.nsLen n - 1) * (4096 / s.lbSize n)
/-- The namespace that a partition sees under an NSID. -/
def State.nsFind (s : State) (p id : Nat) : Option Nat :=
  (List.range 64).find? (fun n => s.nsOwner n == p && s.nsId n == id && decide (1 ≤ id) && decide (id ≤ 16))
/-- STATE of a namespace: 0 ABSENT, 1 READY, 2 LOCKED, 3 FAILED. -/
def State.nsState (s : State) (n : Nat) : Nat := s.fld (Reg.STG_NS_STATE n) Fld.STG_NS_STATE_STATE
def State.setNs (s : State) (n st : Nat) : State := s.setFld (Reg.STG_NS_STATE n) Fld.STG_NS_STATE_STATE st

/-- The checkpoint region of a partition on the cartridge (R544). -/
def State.ckRegion (s : State) (p : Nat) : Nat × Nat :=
  (s.reg64 (Reg.CK_CART_BASE_LO p) (Reg.CK_CART_BASE_HI p), s.reg64 (Reg.CK_CART_LEN_LO p) (Reg.CK_CART_LEN_HI p))

/-- Whether two runs of blocks overlap. -/
def runsMeet (a la b lb : Nat) : Bool := decide (0 < la) && decide (0 < lb) && decide (a < b + lb) && decide (b < a + la)

/-- Whether a namespace can be present on the mounted cartridge (R515). -/
def State.nsFits (s : State) (n : Nat) : Bool :=
  let b := s.nsBase n
  let l := s.nsLen n
  decide (s.nsOwner n < 16) && decide (0 < l) && decide (1 ≤ s.nsId n) && decide (s.nsId n ≤ 16) && decide (b + l ≤ s.stg.blocks)
    && (List.range 64).all (fun m => m == n || !(decide (s.nsOwner m < 16) && runsMeet b l (s.nsBase m) (s.nsLen m)))
    && (List.range n).all (fun m => !(s.nsOwner m == s.nsOwner n && s.nsId m == s.nsId n))
    && (List.range 16).all (fun p => !runsMeet b l (s.ckRegion p).1 (s.ckRegion p).2)

/-- Whether a namespace is named in PAIR_NS_MIR. -/
def State.nsNamed (s : State) (n : Nat) : Bool := (s.reg64 Reg.PAIR_NS_MIR_LO Reg.PAIR_NS_MIR_HI).testBit n

/-- Whether a namespace belongs to a standby partition that does not serve it (R606). -/
def State.nsStandby (s : State) (n : Nat) : Bool :=
  s.nsNamed n && s.isStandby (s.nsOwner n)

/-- Whether a namespace's writes are mirrored (R602). -/
def State.nsMirrors (s : State) (n : Nat) : Bool :=
  s.nsNamed n && s.pair.nsAgreed.contains n && !s.pair.nsUnmir.contains n && s.mirrors (s.nsOwner n)

/-! The cartridge queue (R525). -/

/-- The share to serve next in a class, round robin after the one served last. -/
def State.cartNext (s : State) (cls : Nat) : Option CartCmd :=
  let last := Tab.get (fun _ => 16) s.stg.served cls
  let w := s.stg.cart.filter (fun c => !c.issued && c.cls == cls)
  (List.range 17).findSome? (fun i => w.find? (fun c => c.share == (last + 1 + i) % 17))

/-- The next command that may go to the cartridge. -/
def State.cartPick (s : State) : Option CartCmd :=
  let out := s.stg.cart.filter CartCmd.issued
  if 256 ≤ out.length then none
  else
    [1, 2, 3, 4].findSome? (fun k =>
      if k == 4 && decide (8 ≤ (out.filter (fun c => c.cls == 4)).length) then none else s.cartNext k)

/-- Commands go to the cartridge while it is present and has room; those of a partition that is replayed do not reach it
(R646). -/
def State.cartPump (s : State) : Nat → State
  | 0 => s
  | fuel + 1 =>
    if s.cartState == 0 || s.cartState == 4 || s.cartState == 5 then s
    else
      match s.cartPick with
      | none => s
      | some c =>
        State.cartPump { s with
          out := if s.replaying c.share then s.out else s.out ++ [.cart c.id c.op]
          stg := { s.stg with
            served := Tab.set (fun _ => 16) s.stg.served c.cls c.share
            cart := s.stg.cart.map (fun x => if x.id == c.id then { x with issued := true } else x) } } fuel

/-- An identifier free in a share's own range. -/
def State.cartId (s : State) (share : Nat) : Nat :=
  ((List.range (s.stg.cart.length + 1)).map (65536 * share + ·)).find? (fun i => !s.stg.cart.any (fun c => c.id == i)) |>.getD 0

/-- A cartridge command queued, and what may go sent. -/
def State.cartAdd (s : State) (cls share : Nat) (op : CartOp) (who : CartWho) : State :=
  let s := { s with stg := { s.stg with cart := s.stg.cart ++ [(⟨s.cartId share, cls, share, op, who, 0, false⟩ : CartCmd)] } }
  s.cartPump 1

/-- A cartridge command taken out of the queue. -/
def State.cartDrop (s : State) (id : Nat) : State :=
  { s with stg := { s.stg with cart := s.stg.cart.filter (fun c => c.id != id) } }

/-- Cartridge commands that satisfy a test given up. -/
def State.cartKill (s : State) (sel : CartWho → Bool) : State :=
  { s with stg := { s.stg with cart := s.stg.cart.filter (fun c => !sel c.who) } }

/-! The write buffer (R518–R520). -/

/-- STG_WB_FILL shows the blocks that await their flush write, in MiB rounded up. -/
def State.setBuf (s : State) (l : List StgBlk) : State :=
  ({ s with stg := { s.stg with buf := l } }).setFld Reg.STG_WB_FILL Fld.STG_WB_FILL_MIB
    (((l.filter StgBlk.dirty).length + 255) / 256)

/-- A block of the buffer. -/
def State.bufFind (s : State) (b : Nat) : Option StgBlk := s.stg.buf.find? (fun x => x.block == b)

/-- A block of the buffer changed. -/
def State.bufMap (s : State) (b : Nat) (f : StgBlk → StgBlk) : State :=
  s.setBuf (s.stg.buf.map (fun x => if x.block == b then f x else x))

/-- Blocks of a partition's share. -/
def State.bufCap (s : State) (p : Nat) : Nat := s.fld (Reg.STG_WB_SHARE p) Fld.STG_WB_SHARE_MIB * 256

/-- A block's flush write begun: a block written in part is first read and filled. -/
def State.bufIssue (s : State) (b cls : Nat) : State :=
  match s.bufFind b with
  | none => s
  | some x =>
    if x.busy || !x.dirty then s
    else
      let s := s.bufMap b (fun x => { x with busy := true, again := false })
      if x.mask = 255 then s.cartAdd cls x.part (.write b x.data x.fua) (.bufWrite b) else s.cartAdd cls x.part (.read b 1) (.bufFill b)

/-- Data written into the buffer, over what it holds of the block; none while the share has no room. -/
def State.bufPut (s : State) (p ns b sector : Nat) (d : Bytes) (fua : Bool) : Option State :=
  let m := (2 ^ (d.length / 512) - 1) * 2 ^ sector
  match s.bufFind b with
  | some x =>
    some (s.bufMap b (fun _ => { x with
      data := overlay x.data (512 * sector) d, mask := x.mask ||| m, dirty := true, fua := x.fua || fua, again := x.again || x.busy }))
  | none =>
    let mine := s.stg.buf.filter (fun x => x.part == p)
    let x : StgBlk := ⟨b, p, ns, overlay (zeros 4096) (512 * sector) d, m, true, fua, false, false⟩
    if mine.length < s.bufCap p then some (s.setBuf (s.stg.buf ++ [x]))
    else
      match mine.find? (fun x => !x.dirty && !s.stg.cmds.any (fun c => c.left.contains x.block)) with
      | some old => some (s.setBuf (s.stg.buf.filter (fun y => y.block != old.block) ++ [x]))
      | none => none

/-! Completions (R513, R514). -/

/-- Status codes of the NVM Express specification: code + 256 · type. -/
def nvOpcode : Nat := 0x01
def nvField : Nat := 0x02
def nvTransfer : Nat := 0x04
def nvInternal : Nat := 0x06
def nvSqDeleted : Nat := 0x08
def nvNamespace : Nat := 0x0B
def nvRange : Nat := 0x80
def nvNotReady : Nat := 0x82
def nvCqInvalid : Nat := 0x100
def nvQueueId : Nat := 0x101
def nvQueueSize : Nat := 0x102
def nvVector : Nat := 0x108
def nvLogPage : Nat := 0x109
def nvQueueDeletion : Nat := 0x10C
def nvTestRunning : Nat := 0x11D
def nvWriteFault : Nat := 0x280
def nvReadError : Nat := 0x281

/-- A completion written to its queue, with its phase and interrupt. -/
def State.nvPost (s : State) (p v q : Nat) (e : Bytes) : State :=
  let c := s.nvCq v q
  let e := e.take 14 ++ le 2 (leAt e 14 2 + (if c.phase then 1 else 0))
  let s := if c.loc then s.hostWrite p (c.base + 16 * c.tail) e else (s.writeBytes (.part p) (c.base + 16 * c.tail) e).1
  let t := (c.tail + 1) % c.size
  let s := s.setNvCq v q { c with tail := t, phase := if t = 0 then !c.phase else c.phase }
  match c.iv with
  | some k => s.msix (v + 1) k
  | none => s

/-- Whether a completion queue has room. -/
def NvCq.room (c : NvCq) : Bool := (c.tail + 1) % c.size != c.head

/-- Held completions written while there is room (R514). -/
def State.nvRelease (s : State) (p v q : Nat) : Nat → State
  | 0 => s
  | n + 1 =>
    let c := s.nvCq v q
    match c.held with
    | [] => s
    | e :: t => if c.room then State.nvRelease ((s.setNvCq v q { c with held := t }).nvPost p v q e) p v q n else s

/-- A command completed: counted, its entry posted or held. -/
def State.nvComplete (s : State) (p v y cid status dw0 : Nat) : State :=
  let x := s.nvSq v y
  let s := s.bump (Reg.STG_CNT_CMDS p) Fld.STG_CNT_CMDS_COUNT
  let s := if status = 0 then s else s.bump (Reg.STG_CNT_ERR p) Fld.STG_CNT_ERR_COUNT
  let e := le 4 dw0 ++ zeros 4 ++ le 2 x.head ++ le 2 y ++ le 2 cid ++ le 2 (2 * status)
  let c := s.nvCq v x.cq
  if !x.made || !c.made then s
  else if c.held.isEmpty && c.room then s.nvPost p v x.cq e
  else s.setNvCq v x.cq { c with held := c.held ++ [e] }

/-- An admitted command changed. -/
def State.setCmd (s : State) (c : StgCmd) : State :=
  { s with stg := { s.stg with cmds := s.stg.cmds.map (fun x => if x.id == c.id then c else x) } }

/-- An admitted command. -/
def State.cmdFind (s : State) (id : Nat) : Option StgCmd := s.stg.cmds.find? (fun c => c.id == id)

/-- An admitted command ended: its range lock freed, its completion made. -/
def State.cmdEnd (s : State) (c : StgCmd) (status : Nat) : State :=
  ({ s with stg := { s.stg with cmds := s.stg.cmds.filter (fun x => x.id != c.id) } }).nvComplete c.part c.v c.y c.cid status 0

/-! Running admitted commands (R516, R518–R520). -/

/-- The run of bytes of a namespace cut into cartridge blocks: block, first sector, bytes. -/
def blockPieces (base a : Nat) : Nat → Bytes → List (Nat × Nat × Bytes)
  | 0, _ => []
  | fuel + 1, d =>
    if d.isEmpty then []
    else
      let m := min d.length (4096 - a % 4096)
      (base + 1 + a / 4096, a % 4096 / 512, d.take m) :: blockPieces base (a + m) fuel (d.drop m)

/-- Cartridge blocks that an LBA range touches. -/
def State.rangeBlocks (s : State) (n lba nlb : Nat) : List Nat :=
  let z := s.lbSize n
  let first := lba * z / 4096
  let last := ((lba + nlb) * z + 4095) / 4096
  (List.range (last - first)).map (fun i => s.nsBase n + 1 + first + i)

/-- Mirror messages of a write (R600, R602): KIND 1 with ACK_REQ, at most 4 KiB each; their tags. -/
def State.stgMirror (s : State) (p n off : Nat) : Nat → Bytes → State × List Nat
  | 0, _ => (s, [])
  | fuel + 1, d =>
    if d.isEmpty then (s, [])
    else
      let m := min d.length 4096
      let t := s.pair.nextTag
      let s := { s with pair := { s.pair with nextTag := (t + 1) % 4096, acks := s.pair.acks ++ [(t, p, n)] } }
      let s := s.mirQueue p ⟨1, n * 2 ^ 58 + off, 0, d.take m, t⟩
      let (s, l) := State.stgMirror s p n (off + m) fuel (d.drop m)
      (s, t :: l)

/-- A Write or Write Zeroes past its range lock: encrypted, cut into blocks, mirrored. -/
def State.writeStart (s : State) (c : StgCmd) : State :=
  let z := s.lbSize c.ns
  match s.xtsKey c.part 1 c.ns with
  | (s, .inl _) => s.cmdEnd c nvInternal
  | (s, .inr key) =>
    let (s, ct) := s.xts c.part Client.storage false key z c.lba c.data
    let (s, tags) := if s.nsMirrors c.ns then s.stgMirror c.part c.ns (c.lba * z) (c.data.length / 4096 + 2) c.data else (s, [])
    s.setCmd { c with
      phase := .fill, data := [], todo := blockPieces (s.nsBase c.ns) (c.lba * z) (ct.length / 512 + 2) ct, tags := tags }

/-- A Read past its range lock: blocks that the buffer does not hold in full are read from the cartridge (R519). -/
def State.readStart (s : State) (c : StgCmd) : State :=
  let bs := s.rangeBlocks c.ns c.lba c.nlb
  bs.foldl (fun t b =>
    match t.bufFind b, t.cmdFind c.id with
    | some x, some c =>
      if x.mask = 255 then t.setCmd { c with got := c.got ++ [(b, x.data)] }
      else (t.setCmd { c with left := c.left ++ [b] }).cartAdd 1 c.part (.read b 1) (.cmdRead c.id b)
    | none, some c => (t.setCmd { c with left := c.left ++ [b] }).cartAdd 1 c.part (.read b 1) (.cmdRead c.id b)
    | _, none => t) (s.setCmd { c with phase := .cart })

/-- A Dataset Management deallocation past its range lock: whole blocks leave the buffer and the cartridge. -/
def State.deallocStart (s : State) (c : StgCmd) : State :=
  let z := s.lbSize c.ns
  let first := (c.lba * z + 4095) / 4096
  let last := (c.lba + c.nlb) * z / 4096
  let b0 := s.nsBase c.ns + 1 + first
  if last ≤ first then s.cmdEnd c 0
  else
    let s := s.setBuf (s.stg.buf.filter (fun x => !(decide (b0 ≤ x.block) && decide (x.block < b0 + (last - first)))))
    (s.setCmd { c with phase := .cart, left := [b0] }).cartAdd 1 c.part (.dealloc b0 (last - first)) (.cmdDealloc c.id)

/-- A Flush: it waits for the dirty blocks of its namespace (R520). -/
def State.flushStart (s : State) (c : StgCmd) : State :=
  s.setCmd { c with phase := .cart, left := (s.stg.buf.filter (fun x => x.ns == c.ns && x.dirty)).map StgBlk.block }

/-- A command past its range lock. -/
def State.cmdStart (s : State) (c : StgCmd) : State :=
  match c.op with
  | 0 => s.flushStart c
  | 2 => s.readStart c
  | 9 => s.deallocStart c
  | _ => s.writeStart c

/-- Whether two admitted commands' ranges conflict (R523). -/
def cmdsMeet (a b : StgCmd) : Bool :=
  a.op != 0 && b.op != 0 && a.ns == b.ns && decide (a.lba < b.lba + b.nlb) && decide (b.lba < a.lba + a.nlb)
    && (a.op != 2 || b.op != 2)

/-- Whether an earlier command holds a command's range. -/
def State.cmdHeld (s : State) (c : StgCmd) : Bool := s.stg.cmds.any (fun e => decide (e.id < c.id) && cmdsMeet e c)

/-- Pieces put into the buffer while there is room; with FUA their writes begin at once. -/
def State.cmdFill (s : State) (id : Nat) : Nat → State
  | 0 => s
  | fuel + 1 =>
    match s.cmdFind id with
    | none => s
    | some c =>
      match c.todo with
      | [] => s.setCmd { c with phase := .cart }
      | (b, sec, d) :: rest =>
        match s.bufPut c.part c.ns b sec d c.fua with
        | none => s
        | some s =>
          let c := { c with todo := rest, left := if c.fua then c.left.filter (· != b) ++ [b] else c.left }
          let s := s.setCmd c
          State.cmdFill (if c.fua then s.bufIssue b 1 else s) id fuel

/-- Bytes written to the data pages of a command. -/
def State.pagesWrite (s : State) (p : Nat) (host : Bool) : List (Nat × Nat) → Bytes → State × Bool
  | [], _ => (s, true)
  | (a, n) :: t, d =>
    if host then State.pagesWrite (s.hostWrite p a (d.take n)) p host t (d.drop n)
    else
      let (s, st) := s.writeBytes (.part p) a (d.take n)
      if st.good then State.pagesWrite s p host t (d.drop n) else (s, false)

/-- A Read whose blocks are all there: decrypted and delivered. -/
def State.readEnd (s : State) (c : StgCmd) : State :=
  let z := s.lbSize c.ns
  let bs := s.rangeBlocks c.ns c.lba c.nlb
  let ct := (bs.map (fun b => ((c.got.find? (fun g => g.1 == b)).map Prod.snd).getD (zeros 4096))).flatten
  let ct := slice ct (c.lba * z % 4096) (c.nlb * z)
  match s.xtsKey c.part 1 c.ns with
  | (s, .inl _) => s.cmdEnd c nvInternal
  | (s, .inr key) =>
    let (s, d) := s.xts c.part Client.storage true key z c.lba ct
    let (s, ok) := s.pagesWrite c.part c.dataLoc c.pages d
    s.cmdEnd c (if ok then 0 else nvTransfer)

/-- What a command may do now. -/
def State.cmdStep (s : State) (id : Nat) : State :=
  let s := match s.cmdFind id with
    | some c => if c.phase = StgPhase.fill then s.cmdFill id (c.todo.length + 1) else s
    | none => s
  match s.cmdFind id with
  | none => s
  | some c =>
    match c.failed with
    | some st => s.cmdEnd c st
    | none =>
      if c.phase = StgPhase.cart ∧ c.left = [] ∧ c.tags = [] then
        if c.op = 2 then s.readEnd c
        else if c.op = 0 then (s.setCmd { c with phase := .flush }).cartAdd 1 c.part .flush (.cmdFlush id)
        else s.cmdEnd c 0
      else s

/-! Self-tests (R526). -/

/-- TEST of a namespace. -/
def State.setTest (s : State) (n code : Nat) : State := s.setFld (Reg.STG_NS_STATE n) Fld.STG_NS_STATE_TEST code

/-- A result record of a self-test, as log 0x06 gives it: result code and test, NSID, failing LBA. -/
def testResult (code result nsid : Nat) (lba : Option Nat) : Bytes :=
  le 1 (result + 16 * code) ++ le 1 (if lba.isSome then 1 else 0) ++ le 1 (if lba.isSome then 3 else 0) ++ zeros 1 ++ zeros 8
    ++ le 4 nsid ++ le 8 (lba.getD 0) ++ zeros 4

/-- A partition's self-test ended with a result. -/
def State.testEnd (s : State) (p : Nat) (t : StgTest) (result : Nat) (nsid : Nat) (lba : Option Nat) : State :=
  let old := Tab.get (fun _ => []) s.stg.results p
  let s := { s with stg := { s.stg with
    tests := Tab.erase s.stg.tests p
    results := Tab.set (fun _ => []) s.stg.results p ((testResult t.code result nsid lba :: old).take 20) } }
  (List.range 64).foldl (fun u n => if u.nsOwner n == p then u.setTest n 0 else u) s

/-- The extent of a test at a position: first block and blocks, or none past the end of the namespace. -/
def State.testExtent (s : State) (code n i : Nat) : Option (Nat × Nat) :=
  let base := s.nsBase n + 1
  let len := s.nsLen n - 1
  let spaced := code == 1 && decide (1024 * 256 < len)
  if spaced then (if i < 1024 then some (base + i * len / 1024, 256) else none)
  else if 256 * i < len then some (base + 256 * i, min 256 (len - 256 * i)) else none

/-- A test's next read issued, while its partition has no command admitted and none of its reads is outstanding. -/
def State.testStep (s : State) (p : Nat) : Nat → State
  | 0 => s
  | fuel + 1 =>
    match s.stg.tests.find? (fun e => e.1 == p) with
    | none => s
    | some (_, t) =>
      if s.cartState != 2 || s.stg.cmds.any (fun c => c.part == p)
          || s.stg.cart.any (fun c => decide (c.who = .test p)) then s
      else
        match t.left with
        | [] => s.testEnd p t 0 t.nsid none
        | (n, i) :: rest =>
          let put (l : List (Nat × Nat)) : State :=
            { s with stg := { s.stg with tests := Tab.ins s.stg.tests p { t with left := l } } }
          match s.testExtent t.code n i with
          | none => State.testStep (put rest) p fuel
          | some (b, k) => (put ((n, i + 1) :: rest)).cartAdd 3 p (.read b k) (.test p)

/-! Mount and eject (R528, R529). -/

/-- Whether a cartridge command belongs to a mount. -/
def CartWho.mounting : CartWho → Bool
  | .init => true
  | .record => true
  | .header _ => true
  | .manifest _ _ => true
  | _ => false

/-- A mount ends when nothing of it is outstanding. -/
def State.mountEnd (s : State) : State :=
  if s.cartState == 1 && decide (0 < s.stg.blocks) && !s.stg.cart.any (fun c => c.who.mounting) then s.setCart 2 else s

/-- An eject goes on: the buffer is written, then Flush, clean record and shutdown follow (R528). -/
def State.ejectStep (s : State) : State :=
  if s.cartState != 3 then s
  else
    let s := s.stg.buf.foldl (fun t x => if x.dirty then t.bufIssue x.block 1 else t) s
    if s.stg.cmds.isEmpty && !s.stg.buf.any StgBlk.dirty && s.stg.cart.isEmpty then s.cartAdd 1 16 .flush .ejFlush else s

/-- What the service may do after an event: commands, self-tests, a mount, an eject. -/
def State.stgStep (s : State) : State :=
  let s := (s.stg.cmds.map StgCmd.id).foldl State.cmdStep s
  let s := (s.stg.tests.map Prod.fst).foldl (fun t p => t.testStep p 65) s
  (s.mountEnd.ejectStep).cartPump 256

/-- A namespace's write failed three times (R527): it is FAILED and its buffered data is lost. -/
def State.nsFail (s : State) (n : Nat) : State :=
  let s := s.setNs n 3
  let s := s.setBuf (s.stg.buf.filter (fun x => x.ns != n))
  let s := s.setFld Reg.STG_EVENT Fld.STG_EVENT_CART_FAULT 1
  let s := s.alarmFree 5 Unit.storage 1 0
  { s with stg := { s.stg with cmds := s.stg.cmds.map (fun c =>
    if c.ns == n && c.op != 2 && c.failed.isNone && !(decide (c.phase = .lock)) then { c with failed := some nvWriteFault } else c) } }

/-- The header of a namespace (R517). -/
def State.nsHeader (s : State) (n : Nat) : State × Option Bytes :=
  match s.mac (s.nsOwner n) Client.storage 6 n (le 8 n) 64 [] with
  | (s, 0, m) => (s, some m)
  | (s, _, _) => (s, none)

/-- The header read of a namespace queued. -/
def State.nsCheck (s : State) (n : Nat) : State := s.cartAdd 1 16 (.read (s.nsBase n) 1) (.header n)

/-- A namespace rechecked against the header read (R517, R522). -/
def State.nsChecked (s : State) (n : Nat) (d : Option Bytes) : State :=
  if s.stg.listed.contains n || s.stg.lost.contains n then s.setNs n 3
  else
    let (s, m) := s.nsHeader n
    match d, m with
    | some d, some m => s.setNs n (if d.take 64 == m then 1 else 2)
    | _, _ => s.setNs n 2

/-- The cartridge initialised (R529, R548): its record, its headers and its manifests are read. -/
def State.mountRead (s : State) (blocks : Nat) : State :=
  let s := { s with stg := { s.stg with blocks := blocks } }
  let s := s.cartAdd 1 16 .readRecord .record
  let s := (List.range 64).foldl (fun t n => if t.nsFits n then t.nsCheck n else t.setNs n 0) s
  (List.range 16).foldl (fun t p =>
    let (b, l) := t.ckRegion p
    if 4096 ≤ l ∧ b + l ≤ blocks then
      (t.cartAdd 1 16 (.read b 2048) (.manifest p 0)).cartAdd 1 16 (.read (b + 2048) 2048) (.manifest p 1)
    else t) s

/-- The flush record as read: the namespaces it lists if no clean record follows (R522). -/
def State.recordRead (s : State) (d : Bytes) : State :=
  let mask := leAt d 0 8
  let l := (List.range 64).filter (fun n => mask.testBit n)
  let bad := l ++ s.stg.lost
  let s := { s with stg := { s.stg with listed := l } }
  if bad.isEmpty then s
  else
    let s := bad.foldl (fun t n => if t.nsFits n then t.setNs n 3 else t) s
    (s.setFld Reg.STG_EVENT Fld.STG_EVENT_FLUSH_LOST 1).alarmFree 5 Unit.storage 2 0

/-- The mount of a cartridge in the bay begins (R529). -/
def State.mountBegin (s : State) (ok : Bool) : State :=
  if s.cartState == 0 || s.cartState == 4 || s.cartState == 5 then
    let s := (s.setLatch true).setCart 1
    let s := { s with stg := { s.stg with cart := [], blocks := 0, listed := [] } }
    if ok then s.cartAdd 1 16 .init .init else s
  else s

/-- Whether the boot has got past the start of FW_START, from which cartridges are mounted (R583). -/
def State.mounts (s : State) : Bool :=
  let st := s.fld Reg.BOOT_STAGE Fld.BOOT_STAGE_STAGE
  decide (6 < st) || (st == 6 && !s.flag Reg.BOOT_STAGE Fld.BOOT_STAGE_BUSY)

/-- CARTRIDGE_INSERT (R529): before FW_START has ended, the cartridge waits for its mount to begin there. -/
def State.cartInsert (s : State) (ok : Bool) : State :=
  let s := { s with stg := { s.stg with bay := true } }
  if s.mounts then s.mountBegin ok else s

/-- MOUNT_TIMEOUT (R529): the cartridge could not be initialised. -/
def State.mountTimeout (s : State) : State :=
  if s.cartState == 1 && s.stg.blocks == 0 then
    let s := { s with stg := { s.stg with cart := [] } }
    ((s.setCart 5).setFld Reg.STG_EVENT Fld.STG_EVENT_CART_FAULT 1).setLatch false
  else s

/-- EJECT_REQUEST (R528). -/
def State.eject (s : State) : State := if s.cartState == 2 then (s.setCart 3).stgStep else s

/-- SHUTDOWN_TIMEOUT (R528). -/
def State.shutdownTimeout (s : State) : State :=
  if s.cartState == 3 && s.stg.cart.any (fun c => decide (c.who = .ejShutdown)) then
    (s.setLatch false).setFld Reg.STG_EVENT Fld.STG_EVENT_SHUTDOWN_TIMEOUT 1
  else s

/-- HOLDUP_LOW (R521). -/
def State.holdupLow (s : State) (j : Nat) : State :=
  let s := s.setFld Reg.STG_HOLDUP Fld.STG_HOLDUP_JOULES j
  if 150 ≤ j then s
  else
    ((s.setFld Reg.STG_STATUS Fld.STG_STATUS_HOLDUP_LOW 1).setFld Reg.STG_STATUS Fld.STG_STATUS_WRITE_THROUGH 1).alarmFree
      5 Unit.storage 3 0

/-- HOLDUP_RECOVER (R521). -/
def State.holdupRecover (s : State) (j : Nat) : State :=
  let s := s.setFld Reg.STG_HOLDUP Fld.STG_HOLDUP_JOULES j
  if j ≤ 170 then s
  else (s.setFld Reg.STG_STATUS Fld.STG_STATUS_HOLDUP_LOW 0).setFld Reg.STG_STATUS Fld.STG_STATUS_WRITE_THROUGH 0

/-- STG_NS_FORMAT (R517): the range is deallocated, then a new header is written. -/
def State.nsFormat (s : State) (n : Nat) (v : Word) : State :=
  if v.getLsbD 0 && s.cartState == 2 && s.nsFits n then
    let s := s.setBuf (s.stg.buf.filter (fun x => x.ns != n))
    s.cartAdd 1 16 (.dealloc (s.nsBase n) (s.nsLen n)) (.fmtDealloc n)
  else s

/-- The next block to flush, with its class (R525): partitions whose share is more than 75% full first. -/
def State.flushPick (s : State) : Option (Nat × Nat) :=
  let ready := s.stg.buf.filter (fun x => x.dirty && !x.busy)
  let full (p : Nat) : Bool :=
    decide (3 * s.bufCap p < 4 * (s.stg.buf.filter (fun x => x.part == p && x.dirty)).length)
  let last := Tab.get (fun _ => 15) s.stg.served 9
  let pick (sel : Nat → Bool) : Option StgBlk :=
    (List.range 16).findSome? (fun i => ready.find? (fun x => x.part == (last + 1 + i) % 16 && sel x.part))
  match pick full with
  | some x => some (x.block, 1)
  | none => (pick (fun _ => true)).map (fun x => (x.block, 2))

/-- BUFFER_FLUSH_WRITE (R525). -/
def State.bufFlush (s : State) : State :=
  if s.cartState != 2 && s.cartState != 3 then s
  else
    match s.flushPick with
    | none => s
    | some (b, cls) =>
      let p := ((s.bufFind b).map StgBlk.part).getD 15
      ({ s with stg := { s.stg with served := Tab.set (fun _ => 15) s.stg.served 9 p } }).bufIssue b cls

/-- RANGE_LOCK_RELEASE (R523): waiting commands of a partition whose range is free proceed. -/
def State.lockRelease (s : State) (p : Nat) : State :=
  ((s.stg.cmds.filter (fun c => c.part == p && decide (c.phase = .lock))).map StgCmd.id).foldl (fun t id =>
    match t.cmdFind id with
    | some c => if t.cmdHeld c then t else (t.cmdStart c).stgStep
    | none => t) s

/-- SURPRISE_REMOVAL (R530). -/
def State.surpriseRemoval (s : State) : State :=
  if s.cartState == 0 || s.cartState == 4 then { s with stg := { s.stg with bay := false } }
  else
    let gone := (s.stg.buf.map StgBlk.ns).dedup
    let cmds := s.stg.cmds
    let s := (s.setCart 0).setLatch false
    let s := { s with stg := { s.stg with cart := [], lost := (s.stg.lost ++ gone).dedup, blocks := 0, bay := false } }
    let s := (s.setBuf []).setFld Reg.STG_EVENT Fld.STG_EVENT_SURPRISE_REMOVAL 1
    let s := cmds.foldl (fun t c => t.cmdEnd c nvTransfer) s
    let s := s.stg.tests.foldl (fun t e => t.testEnd e.1 e.2 7 e.2.nsid none) s
    s.alarmFree 5 Unit.storage 4 0

/-! Resets (R531). -/

/-- The whole buffer sent to the cartridge between its flush record and its clean record (R522). -/
def State.stgDrain (s : State) : State :=
  let dirty := s.stg.buf.filter StgBlk.dirty
  if s.cartState != 2 && s.cartState != 3 then s
  else
    let id := s.stg.nextId
    let ops : List CartOp := [CartOp.record false ((dirty.map StgBlk.ns).dedup)] ++ dirty.map (fun x => CartOp.write x.block x.data true)
      ++ [CartOp.flush, CartOp.record true []]
    let s := { s with
      out := s.out ++ (ops.zipIdx).map (fun (e : CartOp × Nat) => Out.cart (id + e.2) e.1)
      stg := { s.stg with nextId := id + ops.length } }
    s.setBuf []

/-- A partition reset: queues and commands lost, its blocks written, its namespaces rechecked. -/
def State.stgPartReset (s : State) (p : Nat) : State :=
  let vfs := s.vfsOf p
  let s := { s with stg := { s.stg with
    sq := Tab.drop (fun k => vfs.contains (k / 32)) s.stg.sq, cq := Tab.drop (fun k => vfs.contains (k / 32)) s.stg.cq
    cmds := s.stg.cmds.filter (fun c => c.part != p), tests := Tab.erase s.stg.tests p } }
  let s := (s.stg.buf.filter (fun x => x.part == p)).foldl (fun t x => t.bufIssue x.block 2) s
  let s := (List.range 64).foldl (fun t n =>
    if t.nsOwner n == p && t.nsState n != 0 && t.cartState == 2 then t.nsCheck n else t) s
  s.stgStep

/-- A Function Level Reset. -/
def State.stgFuncReset (s : State) (v : Nat) : State :=
  { s with stg := { s.stg with
    sq := Tab.drop (fun k => k / 32 == v) s.stg.sq, cq := Tab.drop (fun k => k / 32 == v) s.stg.cq
    cmds := s.stg.cmds.filter (fun c => c.v != v) } }

/-- P, H, K: the service as at reset, what it buffered having been sent to the cartridge; data not sent is lost. -/
def State.stgClear (s : State) : State :=
  let s := s.stgDrain
  { s with stg := ⟨[], [], [], [], [], s.stg.nextId, [], [], [], [], [], 0, s.stg.bay⟩ }

end Sys2Proof.Machine
end

