-- ==== Sys2Proof/Machine/Operands.lean ====
section
/-! DEFINITION. Operand forms: exact real values with a sign, the number formats that the engines and the prep cores
read and write, and the one rounding step that every conversion uses (chapter Number Formats and Arithmetic). -/

namespace Sys2Proof.Machine

/-- A value: a NaN, an infinity, or (−1)^neg · m · 2^e. -/
inductive FVal where
  | nan
  | inf (neg : Bool)
  | fin (neg : Bool) (m : Nat) (e : Int)
  deriving DecidableEq, Repr

/-- Positive zero. -/
def FVal.zero : FVal := .fin false 0 0

/-- How a magnitude is rounded: to nearest even, toward zero, up or down, or with a 16-bit stochastic draw (R189). -/
inductive Rnd where
  | rne
  | rtz
  | down
  | up
  | draw (d : Nat)
  deriving DecidableEq, Repr

/-- Whether a remainder `t` of `2 ^ sh` rounds the magnitude `q` up; `neg` is the value's sign. -/
def Rnd.roundsUp (r : Rnd) (neg : Bool) (q t sh : Nat) : Bool :=
  match r with
  | .rne => decide (2 ^ sh < 2 * t) || (decide (2 * t = 2 ^ sh) && q % 2 == 1)
  | .rtz => false
  | .down => neg && t != 0
  | .up => !neg && t != 0
  | .draw d => decide (65536 ≤ t * 65536 / 2 ^ sh + d)

/-- The magnitude m · 2^e on the grid of `p` significant bits, whose spacing is never below 2^lo: (q, u) for q · 2^u. -/
def roundMag (r : Rnd) (neg : Bool) (p : Nat) (lo : Int) (m : Nat) (e : Int) : Nat × Int :=
  if m = 0 then (0, lo)
  else
    let u := max ((m.log2 : Int) + e - ((p : Int) - 1)) lo
    if u ≤ e then (m * 2 ^ (e - u).toNat, u)
    else
      let sh := (u - e).toNat
      let q := m / 2 ^ sh
      (if r.roundsUp neg q (m % 2 ^ sh) sh then q + 1 else q, u)

/-- How a format treats its highest exponent (R177). -/
inductive FmtKind where
  | ieee
  | nanOnly
  | finite
  deriving DecidableEq, Repr

/-- A floating-point format (R177). -/
structure Fmt where
  ebits : Nat
  mbits : Nat
  bias : Nat
  kind : FmtKind
  deriving DecidableEq, Repr

def Fmt.e4m3 : Fmt := ⟨4, 3, 7, .nanOnly⟩
def Fmt.e5m2 : Fmt := ⟨5, 2, 15, .ieee⟩
def Fmt.e3m2 : Fmt := ⟨3, 2, 3, .finite⟩
def Fmt.e2m3 : Fmt := ⟨2, 3, 1, .finite⟩
def Fmt.e2m1 : Fmt := ⟨2, 1, 1, .finite⟩
def Fmt.bf16 : Fmt := ⟨8, 7, 127, .ieee⟩
def Fmt.fp16 : Fmt := ⟨5, 10, 15, .ieee⟩
def Fmt.fp32 : Fmt := ⟨8, 23, 127, .ieee⟩
def Fmt.fp64 : Fmt := ⟨11, 52, 1023, .ieee⟩

/-- A format's width in bits. -/
def Fmt.width (f : Fmt) : Nat := 1 + f.ebits + f.mbits

/-- The exponent of the least subnormal. -/
def Fmt.lo (f : Fmt) : Int := 1 - (f.bias : Int) - (f.mbits : Int)

/-- The magnitude code of the largest finite value. -/
def Fmt.maxCode (f : Fmt) : Nat :=
  match f.kind with
  | .ieee => (2 ^ f.ebits - 1) * 2 ^ f.mbits - 1
  | .nanOnly => 2 ^ (f.ebits + f.mbits) - 2
  | .finite => 2 ^ (f.ebits + f.mbits) - 1

/-- The value of a code (R177). -/
def Fmt.decode (f : Fmt) (n : Nat) : FVal :=
  let neg := n.testBit (f.ebits + f.mbits)
  let x := bitsOf n f.mbits f.ebits
  let m := bitsOf n 0 f.mbits
  let code := n % 2 ^ (f.ebits + f.mbits)
  if f.maxCode < code then
    match f.kind with
    | .ieee => if m = 0 then .inf neg else .nan
    | _ => .nan
  else if x = 0 then .fin neg m f.lo
  else .fin neg (m + 2 ^ f.mbits) (f.lo + (x : Int) - 1)

/-- The magnitude code of q · 2^u on the format's grid, with an unbounded exponent above. -/
def Fmt.magCode (f : Fmt) (q : Nat) (u : Int) : Nat :=
  if q = 0 then 0
  else
    let l := q.log2
    let e := (l : Int) + u
    if e < 1 - (f.bias : Int) then q
    else
      let frac := if l ≤ f.mbits then q * 2 ^ (f.mbits - l) - 2 ^ f.mbits else q / 2 ^ (l - f.mbits) - 2 ^ f.mbits
      (e + (f.bias : Int)).toNat * 2 ^ f.mbits + frac

/-- A code with its sign. -/
def Fmt.signed (f : Fmt) (neg : Bool) (c : Nat) : Nat := (if neg then 2 ^ (f.ebits + f.mbits) else 0) + c

/-- The code of infinity. -/
def Fmt.infCode (f : Fmt) : Nat := (2 ^ f.ebits - 1) * 2 ^ f.mbits

/-- The quiet NaN that the sled writes in a format (R184, R187). -/
def Fmt.nanCode (f : Fmt) : Nat :=
  match f.kind with
  | .ieee => f.infCode + 2 ^ (f.mbits - 1)
  | _ => 2 ^ (f.ebits + f.mbits) - 1

/-- What a finite value beyond the maximum becomes. -/
inductive Over where
  | toInf
  | saturate
  deriving DecidableEq, Repr

/-- A value converted to a format; the flag says that the overflow or infinity rule was applied (R187). -/
def Fmt.encode (f : Fmt) (r : Rnd) (o : Over) (v : FVal) : Nat × Bool :=
  match v with
  | .nan => (f.nanCode, false)
  | .inf neg =>
    match f.kind, o with
    | .ieee, .toInf => (f.signed neg f.infCode, false)
    | _, _ => (f.signed neg f.maxCode, true)
  | .fin neg m e =>
    let (q, u) := roundMag r neg (f.mbits + 1) f.lo m e
    let c := f.magCode q u
    if c ≤ f.maxCode then (f.signed neg c, false)
    else
      match f.kind, o with
      | .ieee, .toInf => (f.signed neg f.infCode, true)
      | _, _ => (f.signed neg f.maxCode, true)

/-- A value as FP32, to nearest even (R173, R184, R185). -/
def toFp32 (v : FVal) : Word := BitVec.ofNat 32 (Fmt.fp32.encode .rne .toInf v).1

/-- An FP32 word's value. -/
def ofFp32 (w : Word) : FVal := Fmt.fp32.decode w.toNat

/-- The sign of a value that has one. -/
def FVal.neg? : FVal → Bool
  | .nan => false
  | .inf n => n
  | .fin n _ _ => n

/-- The value with its sign changed. -/
def FVal.negate : FVal → FVal
  | .nan => .nan
  | .inf n => .inf (!n)
  | .fin n m e => .fin (!n) m e

/-- Whether a value is a zero. -/
def FVal.isZero : FVal → Bool
  | .fin _ m _ => m == 0
  | _ => false

/-- Whether a value is a NaN. -/
def FVal.isNan : FVal → Bool
  | .nan => true
  | _ => false

/-- Whether a value is an infinity. -/
def FVal.isInf : FVal → Bool
  | .inf _ => true
  | _ => false

/-- The signed mantissa of a finite value on a grid of 2^u that divides it exactly. -/
def FVal.scaled (u : Int) : FVal → Int
  | .fin n m e => (if n then -1 else 1) * ((m * 2 ^ (e - u).toNat : Nat) : Int)
  | _ => 0

/-- An integer times 2^u as a value; `negZero` is the sign of a zero. -/
def FVal.ofInt (i : Int) (u : Int) (negZero : Bool) : FVal :=
  if i = 0 then .fin negZero 0 u else .fin (decide (i < 0)) i.natAbs u

/-- The exact sum, with the specials of IEEE 754 (R184); opposite values cancel to +0. -/
def FVal.add (a b : FVal) : FVal :=
  match a, b with
  | .nan, _ => .nan
  | _, .nan => .nan
  | .inf x, .inf y => if x = y then .inf x else .nan
  | .inf x, _ => .inf x
  | _, .inf y => .inf y
  | .fin n1 m1 e1, .fin n2 m2 e2 =>
    let u := min e1 e2
    FVal.ofInt (FVal.scaled u (.fin n1 m1 e1) + FVal.scaled u (.fin n2 m2 e2)) u (n1 && n2 && m1 == 0 && m2 == 0)

/-- The exact product, with the specials of IEEE 754 (R183). -/
def FVal.mul (a b : FVal) : FVal :=
  match a, b with
  | .nan, _ => .nan
  | _, .nan => .nan
  | .inf x, .inf y => .inf (x != y)
  | .inf x, .fin n m _ => if m = 0 then .nan else .inf (x != n)
  | .fin n m _, .inf y => if m = 0 then .nan else .inf (n != y)
  | .fin n1 m1 e1, .fin n2 m2 e2 => .fin (n1 != n2) (m1 * m2) (e1 + e2)

/-- A finite value rounded to `p` significant bits, to nearest even, with no exponent bound; specials unchanged. -/
def FVal.round (p : Nat) : FVal → FVal
  | .fin n m e =>
    let (q, u) := roundMag .rne n p (-(10 ^ 6 : Nat) : Int) m e
    .fin n q (if q = 0 then 0 else u)
  | v => v

/-- Whether `a` is less than `b`; false with a NaN; zeros are equal. -/
def FVal.lt (a b : FVal) : Bool :=
  match a, b with
  | .nan, _ => false
  | _, .nan => false
  | .inf x, .inf y => x && !y
  | .inf x, _ => x
  | _, .inf y => !y
  | .fin n1 m1 e1, .fin n2 m2 e2 =>
    let u := min e1 e2
    decide (FVal.scaled u (.fin n1 m1 e1) < FVal.scaled u (.fin n2 m2 e2))

/-- Whether two values compare equal; false with a NaN. -/
def FVal.eqv (a b : FVal) : Bool := !a.isNan && !b.isNan && !a.lt b && !b.lt a

end Sys2Proof.Machine
end

