-- ==== Sys2Proof/Machine/Flags.lean ====
section
/-! DEFINITION. What one matrix command computes, and the flags of its record: format codes and packing (R133–R135),
the block adder and its window (R170, R182, R183), the extended accumulator and the final rounding (R171–R174, R184),
output conversion (R186–R190), and NAN_SEEN, INF_SEEN and OUT_OVF (R193). -/

namespace Sys2Proof.Machine

/-- An engine operand format (R134). -/
inductive EFmt where
  | float (f : Fmt) (mx : Bool)
  | int (bits : Nat)
  deriving DecidableEq, Repr

/-- The format of a code; none where reserved (R134). 0xB is output only and is no operand format. -/
def efmt : Nat → Option EFmt
  | 0 => some (.float .e4m3 false)
  | 1 => some (.float .e5m2 false)
  | 2 => some (.float .e4m3 true)
  | 3 => some (.float .e5m2 true)
  | 4 => some (.float .e3m2 true)
  | 5 => some (.float .e2m3 true)
  | 6 => some (.float .e2m1 true)
  | 7 => some (.int 8)
  | 8 => some (.int 4)
  | 9 => some (.float .bf16 false)
  | 10 => some (.float .fp16 false)
  | _ => none

/-- The output format of a code marked "Yes" in R134. -/
def outFmt : Nat → Option Fmt
  | 0 => some .e4m3
  | 1 => some .e5m2
  | 9 => some .bf16
  | 10 => some .fp16
  | 11 => some .fp32
  | _ => none

/-- Bits of an element. -/
def EFmt.bits : EFmt → Nat
  | .float f _ => f.width
  | .int b => b

/-- Whether a format has block scales. -/
def EFmt.isMx : EFmt → Bool
  | .float _ m => m
  | .int _ => false

/-- Whether a format is an integer. -/
def EFmt.isInt : EFmt → Bool
  | .int _ => true
  | _ => false

/-- An element's value (R177, R179). -/
def EFmt.value (f : EFmt) (n : Nat) : FVal :=
  match f with
  | .float g _ => g.decode n
  | .int b => FVal.ofInt (sext b n) 0 false

/-- Element `i` of a packed step: bits [b·i + b − 1 : b·i] of its byte string (R133). -/
def element (b : Nat) (step : Bytes) (i : Nat) : Nat := bitsOf (leVal step) (b * i) b

/-- A scale byte's value (R178). -/
def scaleOf (e : Nat) : FVal := if e = 0xFF then .nan else .fin false 1 ((e : Int) - 127)

/-- The finite block sum through the 128-bit window (R182): each product's bits below 2^(E − 121) are discarded toward
minus infinity. -/
def windowSum (ps : List FVal) : FVal :=
  let lead (v : FVal) : Option Int :=
    match v with
    | .fin _ m e => if m = 0 then none else some ((m.log2 : Int) + e)
    | _ => none
  match (ps.filterMap lead).max? with
  | none => .zero
  | some E =>
    let lo := E - 121
    let cut (v : FVal) : Int :=
      match v with
      | .fin n m e =>
        let sg : Int := if n then -1 else 1
        if lo ≤ e then sg * ((m * 2 ^ (e - lo).toNat : Nat) : Int) else (sg * (m : Int)) / ((2 ^ (lo - e).toNat : Nat) : Int)
      | _ => 0
    FVal.ofInt ((ps.map cut).sum) lo false

/-- A block's result before scaling (R183). -/
def blockSum (as bs : List FVal) (scaleNan : Bool) : FVal :=
  let ps := (as.zip bs).map (fun p => p.1.mul p.2)
  if scaleNan || as.any FVal.isNan || bs.any FVal.isNan || ps.any FVal.isNan then .nan
  else
    let plus := ps.any (fun v => v == .inf false)
    let minus := ps.any (fun v => v == .inf true)
    if plus && minus then .nan else if plus then .inf false else if minus then .inf true else windowSum ps

/-- XACC after one more block (R172, R184). -/
def xaccAdd (x s sa sb : FVal) : FVal := (x.add ((s.mul sa).mul sb)).round 64

/-- A cell's new bank element (R173, R174). -/
def bankElem (init : Bool) (old : Word) (x : FVal) : Word :=
  if init then toFp32 (if x.isZero then .zero else x) else if x.isZero then old else toFp32 ((ofFp32 old).add x)

/-- A converted element and whether the overflow or infinity rule was applied (R187–R189); FP32 is copied. -/
def convertOut (f : Fmt) (rnd : Rnd) (w : Word) : Nat × Bool :=
  if f = .fp32 then ((if (ofFp32 w).isNan then 0x7FC00000 else w.toNat), false)
  else
    match ofFp32 w with
    | .nan => ((if f = .e5m2 then 0x7E else f.nanCode), false)
    | .inf n => if f = .e4m3 then (f.signed n f.maxCode, true) else (f.signed n f.infCode, false)
    | v => f.encode rnd (if f = .e4m3 then .saturate else .toInf) v

/-- One step of the stochastic-rounding register (R190). -/
def lfsrStep (x : DWord) : DWord :=
  let b := x.getLsbD 63 ^^ x.getLsbD 62 ^^ x.getLsbD 60 ^^ x.getLsbD 59
  (x <<< 1) ||| (if b then 1 else 0)

/-- The register after one draw (R190). -/
def lfsrDrawn (x : DWord) : DWord := Nat.repeat lfsrStep 16 x

/-- Whether an element of the first rows of a bank is a NaN. -/
def nanSeen (acc : Nat → Word) (rows : Nat) : Bool := (List.range (rows * 64)).any (fun i => (ofFp32 (acc i)).isNan)

/-- Whether an element of the first rows of a bank is an infinity. -/
def infSeen (acc : Nat → Word) (rows : Nat) : Bool := (List.range (rows * 64)).any (fun i => (ofFp32 (acc i)).isInf)

end Sys2Proof.Machine
end

