-- ==== Sys2Proof/Machine/Scratch.lean ====
section
/-! DEFINITION. The cluster scratch banks: words under the bank code, owners and handovers, request kinds, bank waits,
initialisation (chapter Cluster Scratch Banks). -/

namespace Sys2Proof.Machine

/-- The owner and epoch symbols of a cluster's scratch (R124). -/
def State.scrTag (s : State) (c : Nat) : Byte × Byte :=
  match s.clOwner c with
  | some p => (byte p, byte (s.epoch p))
  | none => (0x41, 0)

/-- The key of a stored symbol: cluster, word within the cluster, symbol (64 data bytes, then 4 check symbols). -/
def scrKey (c w j : Nat) : Nat := c * 2 ^ 25 + w * 128 + j

/-- What an unlisted stored byte of scratch reads as (R128). -/
def scrDefault (fill : List (Nat × Option (Byte × Byte))) (a : Nat) : Byte :=
  match Tab.get (fun _ => none) fill (a / 2 ^ 25) with
  | none => 0
  | some (o, e) => if a % 128 < 64 then 0 else (lineCheck (zeros 64) o e).getD (a % 128 - 64) 0

/-- Stored symbols of a word. -/
def ScrSt.bytes (m : ScrSt) (a n : Nat) : Bytes := (List.range n).map (fun i => Tab.get (scrDefault m.fill) m.cells (a + i))

/-- Stored symbols written. -/
def ScrSt.store (m : ScrSt) (a : Nat) : Bytes → ScrSt
  | [] => m
  | b :: t => ScrSt.store { m with cells := Tab.set (scrDefault m.fill) m.cells a b } (a + 1) t

/-- A word encoded afresh (R121, R124). -/
def State.scrPut (s : State) (c w : Nat) (data : Bytes) : State :=
  let (o, e) := s.scrTag c
  { s with scr := s.scr.store (scrKey c w 0) (data ++ lineCheck data o e) }

/-- The write-back key of a word. -/
def scrWordKey (c w : Nat) : Nat := c * 2 ^ 18 + w

/-- A corrected word counted against the stored columns in which its error value has a 1 (R657). -/
def State.scrColumns (s : State) (c b i : Nat) (e : Byte) : State :=
  let bits := (List.range 8).filter (fun j => e.getLsbD j)
  { s with panel := { s.panel with cols := bits.foldl (fun t j =>
    let k := 1024 * (24 * c + b) + 8 * i + j
    Tab.set (fun _ => 0) t k (Tab.get (fun _ => 0) t k + 1)) s.panel.cols } }

/-- A word decoded, with what R125 does of each outcome. -/
def State.scrGet (s : State) (c w : Nat) : State × MemStatus × Bytes :=
  let (o, e) := s.scrTag c
  let (d, data) := lineDecode (s.scr.bytes (scrKey c w 64) 4) (s.scr.bytes (scrKey c w 0) 64) o e
  match d with
  | .clean => (s, .ok, data)
  | .single i e =>
    let s := (s.bump (Reg.SCR_CE c) Fld.SCR_CE_COUNT).scrColumns c (w / 8192) i e
    let k := scrWordKey c w
    ({ s with scr := { s.scr with corrected := if s.scr.corrected.contains k then s.scr.corrected else s.scr.corrected ++ [k] } },
      .corrected, data)
  | .tag =>
    ((s.bump (Reg.SCR_TAG c) Fld.SCR_TAG_COUNT).errRecord (Unit.scratch c) 3 0 (w * 64) 0, .tagMismatch, [])
  | .bad =>
    (((s.bump (Reg.SCR_UE c) Fld.SCR_UE_COUNT).setFld (Reg.SCR_STATUS c) Fld.SCR_STATUS_UE_ALARM 1).errRecord
      (Unit.scratch c) 2 0 (w * 64) 0, .uncorrectable, [])

/-- A corrected word awaiting write-back that a write has overtaken (R125). -/
def State.scrOvertake (s : State) (c w : Nat) : State :=
  { s with scr := { s.scr with corrected := s.scr.corrected.filter (· != scrWordKey c w) } }

/-- Bytes of a word merged and encoded again (R121, R123). -/
def State.scrMerge (s : State) (c w off : Nat) (data : Bytes) : State × MemStatus × Bytes :=
  let (s, st, old) := s.scrGet c w
  if st.good then ((s.scrPut c w (overlay old off data)).scrOvertake c w, st, old) else (s, st, [])

/-- Whether a port belongs to an owner code (R113). -/
def portOwned (p : ScrPort) (code : Nat) : Bool :=
  match p with
  | .drain e => code == e.val
  | .bRead e => code == e.val
  | .aRead e => code == e.val
  | .px _ => code == 4
  | .fill => code == 5

/-- An atomic of 4 or 8 bytes (R121–R123). -/
def State.scrAtomic (s : State) (c a : Nat) (wide : Bool) (f : Nat → Nat) : State × MemStatus × Bytes :=
  let n := if wide then 8 else 4
  if a % n ≠ 0 then (s, .atomicAlign, [])
  else
    let (s, st, old) := s.scrGet c (a / 64)
    if st.good then
      let x := leAt old (a % 64) n
      let s := (s.scrPut c (a / 64) (overlay old (a % 64) (le n (f x % 2 ^ (8 * n))))).scrOvertake c (a / 64)
      (s, st, le n x)
    else (s, st, [])

/-- A request served by its bank (R121–R123). -/
def State.scrServe (s : State) (c a : Nat) : ScrOp → State × MemStatus × Bytes
  | .read len =>
    let (s, st, d) := s.scrGet c (a / 64)
    (s, st, if st.good then slice d (a % 64) len else [])
  | .full data => ((s.scrPut c (a / 64) data).scrOvertake c (a / 64), .ok, [])
  | .part data =>
    let (s, st, _) := s.scrMerge c (a / 64) (a % 64) data
    (s, st, [])
  | .add wide x => s.scrAtomic c a wide (· + x.toNat)
  | .swap wide x => s.scrAtomic c a wide (fun _ => x.toNat)

/-- A bank's number over all clusters. -/
def bankKey (c b : Nat) : Nat := c * 24 + b

/-- The cycles a request waits for its bank (R118), with the bank then taken for one cycle more. -/
def State.bankWait (s : State) (c b : Nat) : State :=
  let free := Tab.get (fun _ => 0) s.scr.busyUntil (bankKey c b)
  let start := max s.now free
  let s := { s with scr := { s.scr with busyUntil := Tab.set (fun _ => 0) s.scr.busyUntil (bankKey c b) (start + 1) } }
  if s.now < start then s.bumpBy (Reg.SCR_CONFLICT c b) Fld.SCR_CONFLICT_COUNT (start - s.now) else s

/-- What comes of a request when it reaches its bank. -/
inductive ScrOut where
  | done (st : MemStatus) (d : Bytes)
  | waits
  deriving DecidableEq, Repr

/-- A scratch request (R111, R114, R116, R118, R126, R128): only the owner's ports are served; while a handover is
pending the new owner's requests wait, and the old owner's are served only in the cycle of the handover write. -/
def State.scrRequest (s : State) (q : ScrReq) : State × ScrOut :=
  let c := q.cluster
  if 12582912 ≤ q.addr then (s, .done .outOfRange [])
  else if s.scr.initBusy.contains c then (s, .done .notReady [])
  else
    let b := q.addr / 2 ^ 19
    let own := s.fld (Reg.SCR_OWN c b) Fld.SCR_OWN_OWNER
    let pend := s.flag (Reg.SCR_OWN c b) Fld.SCR_OWN_PENDING
    let prev := Tab.get (fun _ => 0) s.scr.handover (bankKey c b)
    let refuse (s : State) : State × ScrOut :=
      (s.bump (Reg.SCR_NOT_OWNER c) Fld.SCR_NOT_OWNER_COUNT, .done .notOwner [])
    if pend then
      if portOwned q.port own then
        let l := Tab.get (fun _ => []) s.scr.waiting (bankKey c b)
        ({ s with scr := { s.scr with waiting := Tab.set (fun _ => []) s.scr.waiting (bankKey c b) (l ++ [q]) } }, .waits)
      else if portOwned q.port (prev % 16) ∧ prev / 16 = s.now then
        let (s, st, d) := (s.bankWait c b).scrServe c q.addr q.op
        (s, .done st d)
      else refuse s
    else if portOwned q.port own then
      let (s, st, d) := (s.bankWait c b).scrServe c q.addr q.op
      (s, .done st d)
    else refuse s

/-- A request's outcome recorded as its completion. -/
def State.scrCommand (s : State) (q : ScrReq) : State :=
  let (s, o) := s.scrRequest q
  match o with
  | .done st d => { s with scr := { s.scr with cpl := [⟨q, st, d⟩] } }
  | .waits => { s with scr := { s.scr with cpl := [] } }

/-- Whether a request has a size and place that its kind allows (R121). -/
def ScrReq.sized (q : ScrReq) : Bool :=
  match q.op with
  | .read len => 1 ≤ len && q.addr % 64 + len ≤ 64
  | .full d => d.length == 64 && q.addr % 64 == 0
  | .part d => 1 ≤ d.length && d.length ≤ 63 && q.addr % 64 + d.length ≤ 64
  | .add _ _ => true
  | .swap _ _ => true

/-- The next corrected word written back in an idle cycle of its bank (R119). -/
def State.scrWriteback (s : State) (c b : Nat) : State :=
  match s.scr.corrected.find? (fun k => k / 2 ^ 18 == c && k % 2 ^ 18 / 8192 == b) with
  | none => s
  | some k =>
    let w := k % 2 ^ 18
    let (o, e) := s.scrTag c
    let (d, data) := lineDecode (s.scr.bytes (scrKey c w 64) 4) (s.scr.bytes (scrKey c w 0) 64) o e
    let s := s.scrOvertake c w
    match d with
    | .single _ _ => s.scrPut c w data
    | _ => s

/-- A write of SCR_OWN (R115–R117). -/
def State.scrOwnWrite (s : State) (c b : Nat) (v : Word) : State :=
  let k := Reg.SCR_OWN c b
  let code := (v &&& 0xF).toNat
  if s.flag k Fld.SCR_OWN_PENDING then s.setFld (Reg.SCR_STATUS c) Fld.SCR_STATUS_OWN_COLLIDE 1
  else if 6 ≤ code then s.setFld (Reg.SCR_STATUS c) Fld.SCR_STATUS_BAD_OWNER 1
  else
    let old := s.fld k Fld.SCR_OWN_OWNER
    if code = old then s
    else
      let s := (s.setFld k Fld.SCR_OWN_OWNER code).setFld k Fld.SCR_OWN_PENDING 1
      { s with scr := { s.scr with handover := Tab.set (fun _ => 0) s.scr.handover (bankKey c b) (s.now * 16 + old) } }

/-- A handover completes: PENDING clears and the requests that waited are served in arrival order (R116). -/
def State.scrHandoverDone (s : State) (c b : Nat) : State :=
  if !s.flag (Reg.SCR_OWN c b) Fld.SCR_OWN_PENDING then s
  else
    let l := Tab.get (fun _ => []) s.scr.waiting (bankKey c b)
    let s := s.setFld (Reg.SCR_OWN c b) Fld.SCR_OWN_PENDING 0
    let s := { s with scr := { s.scr with
      handover := Tab.set (fun _ => 0) s.scr.handover (bankKey c b) 0
      waiting := Tab.set (fun _ => []) s.scr.waiting (bankKey c b) []
      cpl := [] } }
    l.foldl (fun t q =>
      let (t, o) := t.scrRequest q
      match o with
      | .done st d => { t with scr := { t.scr with cpl := t.scr.cpl ++ [⟨q, st, d⟩] } }
      | .waits => t) s

/-- A cluster's scratch initialisation starts (R128). -/
def State.scrInitStart (s : State) (c : Nat) : State :=
  ({ s with scr := { s.scr with initBusy := s.scr.initBusy.filter (· != c) ++ [c] } }).setFld
    (Reg.SCR_STATUS c) Fld.SCR_STATUS_INIT_BUSY 1

/-- A write of SCR_INIT_CMD (R128). -/
def State.scrInitCmd (s : State) (v : Word) : State :=
  ((List.range 16).filter (fun c => v.getLsbD c)).foldl State.scrInitStart s

/-- A cluster's initialisation ends: every word is zero under the owner and epoch of R124. -/
def State.scrInitDone (s : State) (c : Nat) : State :=
  if !s.scr.initBusy.contains c then s
  else
    ({ s with scr := { s.scr with
        cells := Tab.drop (fun a => a / 2 ^ 25 == c) s.scr.cells
        fill := Tab.set (fun _ => none) s.scr.fill c (some (s.scrTag c))
        corrected := s.scr.corrected.filter (fun k => k / 2 ^ 18 != c)
        initBusy := s.scr.initBusy.filter (· != c) } }).setFld (Reg.SCR_STATUS c) Fld.SCR_STATUS_INIT_BUSY 0

end Sys2Proof.Machine
end

