-- ==== Sys2Proof/Machine/Trowel.lean ====
section
/-! DEFINITION. The Trowels: code tables, segment and block parsing, fetch and decode of one command's stream (chapter
Trowel Weight Streams). -/

namespace Sys2Proof.Machine

/-! Code tables (R204–R206). -/

/-- Symbols of an alphabet. -/
def symCount (six : Bool) : Nat := if six then 64 else 16

/-- A set is valid when at least two symbols have codes and the codes fill the code space exactly (R205). -/
def tableValid (lens : List Nat) : Bool :=
  let used := lens.filter (· != 0)
  decide (2 ≤ used.length) && (used.map (fun l => 2 ^ (15 - l))).sum == 2 ^ 15

/-- The canonical codes of one length: codewords given in symbol order from `code` (R204). -/
def assignLen (lens : List Nat) (len : Nat) : Nat → Nat → List (Nat × Nat × Nat) → Nat × List (Nat × Nat × Nat)
  | 0, code, acc => (code, acc)
  | n + 1, code, acc =>
    let sym := lens.length - (n + 1)
    if lens.getD sym 0 = len then assignLen lens len n (code + 1) (acc ++ [(len, code, sym)])
    else assignLen lens len n code acc

/-- The codes of a set: length, codeword, symbol (R204). -/
def assignCodes (lens : List Nat) : List (Nat × Nat × Nat) :=
  ((List.range 15).foldl (fun (st : Nat × List (Nat × Nat × Nat)) i =>
    let (c, acc) := assignLen lens (i + 1) lens.length st.1 st.2
    (2 * c, acc)) (0, [])).2

/-- The next symbol of a bit string, first bit most significant (R197), and the bits after it. -/
def nextSym (codes : List (Nat × Nat × Nat)) : Nat → Nat → Nat → List Bool → Option (Nat × List Bool)
  | 0, _, _, _ => none
  | _, _, _, [] => none
  | fuel + 1, len, code, b :: bs =>
    let len := len + 1
    let code := 2 * code + (if b then 1 else 0)
    match codes.find? (fun e => e.1 == len && e.2.1 == code) with
    | some e => some (e.2.2, bs)
    | none => nextSym codes fuel len code bs

/-- `n` symbols of a bit string, and the bits left; none where the bits run out. -/
def symbols (codes : List (Nat × Nat × Nat)) : Nat → List Bool → Option (List Nat × List Bool)
  | 0, bs => some ([], bs)
  | n + 1, bs =>
    match nextSym codes 15 0 0 bs with
    | none => none
    | some (x, bs) => (symbols codes n bs).map (fun r => (x :: r.1, r.2))

/-- Bytes as bits, bit 0 of byte 0 first (R197). -/
def bitList (b : Bytes) : List Bool := (b.map (fun x => (List.range 8).map (fun i => x.getLsbD i))).flatten

/-- A lane's 256 codes; none where they end outside its stated length (R203). -/
def laneCodes (codes : List (Nat × Nat × Nat)) (lane : Bytes) : Option (List Nat) :=
  match symbols codes 256 (bitList lane) with
  | some (xs, rest) => if rest.length < 8 then some xs else none
  | none => none

/-! Blocks (R200–R203, R214). -/

/-- What a look at the next block gives. -/
inductive BlockOut where
  /-- Bytes of the block have not all arrived. -/
  | needBytes
  | fail (detail : Nat)
  /-- The block, its mode and the byte after it. -/
  | block (b : TrwBlock) (mode : Nat) (next : Nat)
  deriving DecidableEq, Repr

/-- The scales of a block by its mode, or the failure SCALE_RANGE (R202). -/
def blockScales (mode : Nat) (bytes : Bytes) (prev : List Nat) : Option (List Nat) :=
  if mode = 0 then some (bytes.map BitVec.toNat)
  else if mode = 1 then some prev
  else
    let ds := (List.range 64).map (fun n => sext 4 (leVal bytes / 2 ^ (4 * n)))
    let xs := (List.range 64).map (fun n => (prev.getD n 0 : Int) + ds.getD n 0)
    if xs.all (fun x => decide (0 ≤ x) && decide (x ≤ 255)) then some (xs.map Int.toNat) else none

/-- The next block of a segment of which some bytes have arrived, checked in the order of R214 item 5. -/
def parseBlock (f : TrwFetch) (segLen : Nat) : BlockOut :=
  let have_ := f.seg.length
  let p := f.pos
  let limit := 64 * segLen
  if limit < p + 2 then .fail 0x0D
  else if have_ < p + 2 then .needBytes
  else
    let h := leAt f.seg p 2
    let mode := h % 4
    let smode := h / 4 % 4
    if h / 16 ≠ 0 then .fail 0x08
    else if mode = 3 ∨ smode = 3 then .fail 0x09
    else if f.prev.isNone ∧ smode ≠ 0 then .fail 0x0A
    else
      let tbl := if mode = 0 then 10 else 0
      if limit < p + 2 + tbl then .fail 0x0D
      else if have_ < p + 2 + tbl then .needBytes
      else
        let lt := leAt f.seg (p + 2) 10
        let laneLen (j : Nat) : Nat := lt / 2 ^ (10 * j) % 1024
        let sc := if smode = 0 then 64 else if smode = 2 then 32 else 0
        let el := if mode = 0 then ((List.range 8).map laneLen).sum
          else if mode = 1 then 32 * (if f.six then 48 else 32) else 0
        let sAt := p + 2 + tbl
        let eAt := sAt + sc
        let next := eAt + el
        if limit < next then .fail 0x0D
        else if have_ < next then .needBytes
        else
          match blockScales smode (slice f.seg sAt sc) (f.prev.getD []) with
          | none => .fail 0x0B
          | some scales =>
            if mode = 2 then .block ⟨List.replicate 2048 0, scales⟩ 2 next
            else if mode = 1 then
              let w := if f.six then 6 else 4
              let st := if f.six then 48 else 32
              let codes := ((List.range 32).map (fun k =>
                let v := leAt f.seg (eAt + k * st) st
                (List.range 64).map (fun n => bitsOf v (w * n) w))).flatten
              .block ⟨codes, scales⟩ 1 next
            else
              let codes := assignCodes f.lens
              let starts := (List.range 8).map (fun j => eAt + ((List.range j).map laneLen).sum)
              let lanes := (List.range 8).map (fun j => laneCodes codes (slice f.seg (starts.getD j 0) (laneLen j)))
              if lanes.any Option.isNone then .fail 0x0C
              else
                let ls := lanes.map (·.getD [])
                let out := ((List.range 32).map (fun k => ((List.range 8).map (fun j =>
                  (ls.getD j []).drop (8 * k) |>.take 8)).flatten)).flatten
                .block ⟨out, scales⟩ 0 next

/-! The fetch of a stream (R208–R214). -/

/-- A fetch started for a command: the table check and the first segment's line check (R214 items 1–3). -/
def trwStart (now pra maxLines : Nat) (six : Bool) (set : Option TrwSet) (blocks : Nat) : TrwFetch :=
  let err : Option (Nat × Nat) :=
    match set with
    | none => some (7, 0x01)
    | some t => if t.six != six then some (7, 0x02) else if maxLines = 0 then some (7, 0x0E) else none
  ⟨now, pra, maxLines, six, (set.map TrwSet.lens).getD [], blocks, 0, [], 0, none, 0, 0, none, [], err⟩

/-- A segment header's check (R198, R199, R214 item 4): its first failing DETAIL. -/
def headerFail (f : TrwFetch) (h : Nat) : Option Nat :=
  let nb := h / 2 ^ 21 % 8
  if h % 65536 ≠ 0xC07A then some 0x03
  else if h / 2 ^ 16 % 16 ≠ 1 then some 0x04
  else if (h / 2 ^ 20 % 2 == 1) != f.six then some 0x05
  else if nb = 0 ∨ 4 < nb then some 0x06
  else if f.need < nb then some 0x07
  else if h / 2 ^ 40 ≠ 0 then some 0x08
  else if f.maxLines < f.segStart + h / 2 ^ 24 % 65536 then some 0x0E
  else none

/-- Whether a fetch has a line it may request next (R209): the first of a segment, or one within SEG_LEN. -/
def TrwFetch.wantsLine (f : TrwFetch) : Bool :=
  f.err.isNone && f.need != 0 &&
  match f.segLen with
  | none => decide (f.received < f.maxLines)
  | some n => decide (f.received < f.segStart + n)

/-- A line of the stream arrived (R198, R209). -/
def TrwFetch.take (f : TrwFetch) (line : Bytes) : TrwFetch :=
  let f := { f with received := f.received + 1, seg := f.seg ++ line }
  match f.segLen with
  | some _ => f
  | none =>
    let h := leAt f.seg 0 8
    match headerFail f h with
    | some d => { f with err := some (7, d) }
    | none => { f with segLen := some (h / 2 ^ 24 % 65536), segBlocks := h / 2 ^ 21 % 8, pos := 8, prev := none }

/-- The end of a segment (R199, R214 items 3 and 6): its length rule, then the next segment's first line. -/
def TrwFetch.endSegment (f : TrwFetch) (segLen : Nat) : TrwFetch :=
  if (f.pos + 63) / 64 ≠ segLen then { f with err := some (7, 0x0D) }
  else
    let start := f.segStart + segLen
    let f := { f with segStart := start, segLen := none, seg := [], pos := 0, prev := none }
    if f.need ≠ 0 ∧ f.maxLines ≤ start then { f with err := some (7, 0x0E) } else f

/-- The next block decoded where its bytes have arrived; the mode says which counter it adds to. -/
def TrwFetch.decode (f : TrwFetch) : TrwFetch × Option Nat :=
  if f.err.isSome then (f, none)
  else
    match f.segLen with
    | none => (f, none)
    | some n =>
      match parseBlock f n with
      | .needBytes => (f, none)
      | .fail d => ({ f with err := some (7, d) }, none)
      | .block b mode next =>
        let f := { f with blocks := f.blocks ++ [b], need := f.need - 1, segBlocks := f.segBlocks - 1, pos := next,
                          prev := some b.scales }
        (if f.segBlocks = 0 then f.endSegment n else f, some mode)

/-- The shadow of a table set as the registers hold it. -/
def State.trwShadow (s : State) (c t : Nat) : TrwSet :=
  let six := s.flag (Reg.TRW_TCTL c t) Fld.TRW_TCTL_ALPHABET
  ⟨six, (List.range (symCount six)).map (fun i => bitsOf (s.reg (Reg.TRW_LEN c t (i / 8))).toNat (4 * (i % 8)) 4)⟩

/-- A write of TRW_TCTL (R206): the shadow alphabet, and the commit's check of the shadow. -/
def State.trwTctlWrite (s : State) (c t : Nat) (v : Word) : State :=
  let k := Reg.TRW_TCTL c t
  let sh := s.trwShadow c t
  let s := if v.getLsbD 4 then s.setFld k Fld.TRW_TCTL_REJECTED 0 else s
  let s :=
    if v.getLsbD 1 then
      if tableValid sh.lens then
        let s := { s with trw := Tab.set (fun _ => none) s.trw (16 * c + t) (some sh) }
        let s := (s.setFld k Fld.TRW_TCTL_VALID 1).setFld k Fld.TRW_TCTL_REJECTED 0
        s.setFld k Fld.TRW_TCTL_ACT_ALPHABET (if sh.six then 1 else 0)
      else s.setFld k Fld.TRW_TCTL_REJECTED 1
    else s
  s.setFld k Fld.TRW_TCTL_ALPHABET (if v.getLsbD 0 then 1 else 0)

end Sys2Proof.Machine
end

