-- ==== Sys2Proof/Machine/Engine.lean ====
section
/-! DEFINITION. The matrix engines: queues and completion counters, the checks of a command at the head of its queue,
starting, running, draining and completing (chapters Matrix Engines and Number Formats and Arithmetic). -/

namespace Sys2Proof.Machine

/-! Engine state and its registers. -/

/-- An engine with nothing in it. -/
def engDefault : EngSt := ⟨[], 0, 0, none, 0, none, [], 0, .invalid, .invalid, [], [], none, none, none⟩

/-- An engine. -/
def State.engine (s : State) (e : Nat) : EngSt := Tab.get (fun _ => engDefault) s.eng e

/-- What STATUS bits, queue counts and the oldest record read as, written to the registers of an engine. -/
def State.engSync (s : State) (e : Nat) : State :=
  let c := e / 4
  let i := e % 4
  let g := s.engine e
  let q := Reg.ENG_QSTAT c i
  let bit (b : Bool) : Nat := if b then 1 else 0
  let s := s.setFld q Fld.ENG_QSTAT_FREE (32 - g.queue.length)
  let s := s.setFld q Fld.ENG_QSTAT_CPL_COUNT g.cpl.length
  let s := s.setFld q Fld.ENG_QSTAT_RUNNING (bit g.run.isSome)
  let s := s.setFld q Fld.ENG_QSTAT_WAITING (bit (g.run.isNone && !g.queue.isEmpty))
  let k := Reg.ENG_STATUS c i
  let s := s.setFld k Fld.ENG_STATUS_ACC0_VALID (bit (g.st0 == .valid))
  let s := s.setFld k Fld.ENG_STATUS_ACC1_VALID (bit (g.st1 == .valid))
  let s := (List.range 4).foldl (fun t j => t.setReg (Reg.ENG_CPL c i j) ((g.cpl.headD []).getD j 0)) s
  s.setFld (Reg.TRW_STATUS c i) Fld.TRW_STATUS_FETCHING
    (bit ((match g.fetch with | some f => f.err.isNone && f.need != 0 | none => false) ||
      (match g.run with
       | some r => (match r.fetch with | some f => f.err.isNone && f.need != 0 | none => false)
       | none => false)))

/-- An engine set, with its registers. -/
def State.setEngine (s : State) (e : Nat) (g : EngSt) : State :=
  ({ s with eng := Tab.set (fun _ => engDefault) s.eng e g }).engSync e

/-! Descriptors (R146). -/

/-- Word `i` of a descriptor. -/
def dw (d : List Word) (i : Nat) : Nat := (d.getD i 0).toNat
/-- Bits of a descriptor word. -/
def dwb (d : List Word) (i lo w : Nat) : Nat := bitsOf (dw d i) lo w

def dOp (d : List Word) : Nat := dwb d 0 0 8
def dBank (d : List Word) : Nat := dwb d 0 8 1
def dInit (d : List Word) : Bool := dwb d 0 9 1 == 1
def dDrainAfter (d : List Word) : Bool := dwb d 0 10 1 == 1
def dTrowel (d : List Word) : Bool := dwb d 0 11 1 == 1
def dTimed (d : List Word) : Bool := dwb d 0 12 1 == 1
def dLateSkip (d : List Word) : Bool := dwb d 0 13 1 == 1
def dReport (d : List Word) : Bool := dwb d 0 14 1 == 1
def dRound (d : List Word) : Nat := dwb d 0 16 2
def dAFmt (d : List Word) : Nat := dwb d 0 20 4
def dBFmt (d : List Word) : Nat := dwb d 0 24 4
def dOutFmt (d : List Word) : Nat := dwb d 0 28 4
def dK (d : List Word) : Nat := dwb d 1 0 13
def dRows (d : List Word) : Nat := dwb d 1 16 5
def dCc (d : List Word) : Nat := dwb d 1 24 4
def dBPra (d : List Word) : Nat := dw d 6 + 2 ^ 32 * dwb d 7 0 16
def dTag (d : List Word) : Nat := dwb d 14 0 16
def dWaitEn (d : List Word) : Bool := dwb d 11 6 1 == 1

/-- Whether a command performs a drain. -/
def dDrains (d : List Word) : Bool := dOp d == 2 || (dOp d == 1 && dDrainAfter d)

/-- Bytes of an output element. -/
def dOutBytes (d : List Word) : Nat := ((outFmt (dOutFmt d)).map (fun f => f.width / 8)).getD 1

/-- Bytes of one K-step of A (16 values) and of B (64 values), R134. -/
def stepBytes (fmt n : Nat) : Nat := ((efmt fmt).map (fun f => f.bits * n / 8)).getD 0

/-- Whether a format code is an MX format. -/
def isMx (fmt : Nat) : Bool := ((efmt fmt).map EFmt.isMx).getD false

/-- The regions a command uses: number in R163's order, start, length (R148). -/
def regions (d : List Word) : List (Nat × Nat × Nat) :=
  let mma := dOp d == 1
  (if mma then [(0, dw d 2, dK d * stepBytes (dAFmt d) 16)] else [])
  ++ (if mma && isMx (dAFmt d) then [(1, dw d 3, dK d / 2)] else [])
  ++ (if mma && !dTrowel d then [(2, dw d 4, dK d * stepBytes (dBFmt d) 64)] else [])
  ++ (if mma && !dTrowel d && isMx (dBFmt d) then [(3, dw d 5, 2 * dK d)] else [])
  ++ (if dDrains d then [(4, dw d 9, (dRows d - 1) * dw d 10 + 64 * dOutBytes d)] else [])

/-- Whether a reserved bit of a descriptor is set (R146). -/
def reservedSet (d : List Word) : Bool :=
  let seed := dOp d == 4
  dwb d 0 15 1 != 0 || dwb d 0 18 2 != 0 || dwb d 1 13 3 != 0 || dwb d 1 21 3 != 0 || dwb d 1 28 4 != 0
  || (!seed && (dwb d 2 24 8 != 0 || dwb d 3 24 8 != 0))
  || dwb d 4 24 8 != 0 || dwb d 5 24 8 != 0 || dwb d 7 20 12 != 0 || dwb d 8 24 8 != 0 || dwb d 9 24 8 != 0
  || dwb d 10 24 8 != 0 || dwb d 11 7 25 != 0 || dwb d 13 30 2 != 0 || dwb d 14 16 16 != 0 || dw d 15 != 0

/-- The checks of R148 in the order of its list, from 1: which of them fails first. -/
def descFail (d : List Word) : Option Nat :=
  let mma := dOp d == 1
  let dr := dDrains d
  let badFmt (c : Nat) : Bool := (efmt c).isNone
  let isInt (c : Nat) : Bool := ((efmt c).map EFmt.isInt).getD false
  let checks : List Bool := [
    decide (4 < dOp d),
    reservedSet d,
    dr && decide (2 ≤ dRound d),
    mma && (badFmt (dAFmt d) || badFmt (dBFmt d)),
    dr && (outFmt (dOutFmt d)).isNone,
    mma && (isInt (dAFmt d) != isInt (dBFmt d)),
    mma && dTrowel d && !(dBFmt d == 4 || dBFmt d == 5 || dBFmt d == 6),
    (mma && (dK d < 32 || 4096 < dK d || dK d % 32 != 0)) || ((mma || dOp d == 2) && (dRows d < 1 || 16 < dRows d)),
    (regions d).any (fun r => r.2.1 % 64 != 0) || (dr && dw d 10 % 64 != 0),
    mma && dTrowel d && dBPra d % 64 != 0,
    dr && decide (dw d 10 < 64 * dOutBytes d),
    (regions d).any (fun r => decide (12582912 < r.2.1 + r.2.2))]
  (checks.idxOf? true).map (· + 1)

/-- The banks a region touches. -/
def regionBanks (start len : Nat) : List Nat :=
  if len = 0 then [] else (List.range ((start + len - 1) / 2 ^ 19 + 1 - start / 2 ^ 19)).map (start / 2 ^ 19 + ·)

/-- The first region with a bank this engine does not own (R149). -/
def State.unowned (s : State) (e : Nat) (d : List Word) : Option Nat :=
  ((regions d).find? (fun r => (regionBanks r.2.1 r.2.2).any (fun b =>
    s.fld (Reg.SCR_OWN (e / 4) b) Fld.SCR_OWN_OWNER != e % 4))).map (·.1)

/-- Whether a bank of a command's regions is still being handed over to the engine (R116). -/
def State.handoverWait (s : State) (e : Nat) (d : List Word) : Bool :=
  (regions d).any (fun r => (regionBanks r.2.1 r.2.2).any (fun b =>
    s.flag (Reg.SCR_OWN (e / 4) b) Fld.SCR_OWN_PENDING && s.fld (Reg.SCR_OWN (e / 4) b) Fld.SCR_OWN_OWNER == e % 4))

/-- Whether two regions overlap. -/
def overlaps (a la b lb : Nat) : Bool := decide (0 < la) && decide (0 < lb) && decide (a < b + lb) && decide (b < a + la)

/-- Whether a command's operand regions overlap the output of a drain in progress (R151). -/
def overlapsDrain (g : EngSt) (d : List Word) : Bool :=
  match g.drain with
  | none => false
  | some r =>
    match (regions r.desc).find? (fun x => x.1 == 4) with
    | none => false
    | some o => (regions d).any (fun x => x.1 != 4 && overlaps x.2.1 x.2.2 o.2.1 o.2.2)

/-! Banks. -/

/-- A bank's state. -/
def EngSt.bank (g : EngSt) (b : Nat) : BankSt := if b = 0 then g.st0 else g.st1
/-- A bank's state set. -/
def EngSt.setBank (g : EngSt) (b : Nat) (x : BankSt) : EngSt := if b = 0 then { g with st0 := x } else { g with st1 := x }
/-- A bank's elements. -/
def EngSt.acc (g : EngSt) (b : Nat) : List (Nat × Word) := if b = 0 then g.acc0 else g.acc1
/-- A bank's elements set. -/
def EngSt.setAcc (g : EngSt) (b : Nat) (t : List (Nat × Word)) : EngSt :=
  if b = 0 then { g with acc0 := t } else { g with acc1 := t }
/-- A bank's element. -/
def EngSt.elem (g : EngSt) (b i : Nat) : Word := Tab.get (fun _ => 0) (g.acc b) i

/-! Completion (R143–R145, R161–R163). -/

/-- Completion FIFO entries not in use. -/
def EngSt.fifoFree (g : EngSt) : Bool := decide (g.cpl.length + g.reserved < 64)

/-- How a command ends. -/
structure EngEnd where
  status : Nat
  detail : Nat
  late : Bool
  nan : Bool
  inf : Bool
  ovf : Bool
  blocks : Nat
  runCycles : Nat
  deriving DecidableEq, Repr

/-- An end without a run. -/
def EngEnd.plain (status detail : Nat) : EngEnd := ⟨status, detail, false, false, false, false, 0, 0⟩

/-- A record of how a command ended (R161), its orbit as the engine's owner observes it (R645). -/
def State.engRecord (s : State) (e : Nat) (d : List Word) (x : EngEnd) : List Word :=
  let bit (b : Bool) (n : Nat) : Nat := if b then 2 ^ n else 0
  let ok := x.status == 0
  let w0 := x.status + 2 ^ 8 * x.detail + 2 ^ 16 * dOp d + bit x.late 24 + 2 ^ 25 * dBank d + bit (ok && x.nan) 26
    + bit (ok && x.inf) 27 + bit (ok && x.ovf) 28
  [BitVec.ofNat 32 w0, BitVec.ofNat 32 (dTag d + 2 ^ 16 * x.blocks), BitVec.ofNat 32 (s.obsOrbit (s.clOwner (e / 4))),
    BitVec.ofNat 32 (s.tm.cycle % 2 ^ 14 + 2 ^ 16 * (x.runCycles % 2 ^ 15))]

/-- A completion counter advanced (R143). -/
def State.engCcInc (s : State) (e i : Nat) : State := s.bump (Reg.ENG_CC (e / 4) (e % 4) i) Fld.ENG_CC_COUNT

/-- A command's completion takes effect: counter, record, counters of the engine, Tail event (R143, R145, R162). -/
def State.engEnd (s : State) (e : Nat) (d : List Word) (x : EngEnd) : State :=
  let g := s.engine e
  let g := if dReport d || x.status != 0 then { g with cpl := g.cpl ++ [s.engRecord e d x] } else g
  let c := e / 4
  let i := e % 4
  let s := (s.setEngine e g).engCcInc e (dCc d)
  let s := s.bump (Reg.ENG_CNT_CMDS c i) Fld.ENG_CNT_CMDS_COUNT
  let s := if x.status = 0 then s
    else if x.status = 1 then s.bump (Reg.ENG_CNT_OVERRUN c i) Fld.ENG_CNT_OVERRUN_COUNT
    else s.bump (Reg.ENG_CNT_ERROR c i) Fld.ENG_CNT_ERROR_COUNT
  let s := if x.status = 7 then
      (s.bump (Reg.TRW_CNT_ERR c i) Fld.TRW_CNT_ERR_COUNT).setFld (Reg.TRW_STATUS c i) Fld.TRW_STATUS_LAST_ERR x.detail
    else s
  if x.status = 0 then s else s.tailEvent (Unit.me e) 1 x.status x.detail

/-! Enqueueing (R140–R142). -/

/-- A descriptor put into a queue; CMDQ_OVERFLOW where it is full. The answer says whether it was accepted. -/
def State.engPush (s : State) (e : Nat) (d : List Word) : State × Bool :=
  let g := s.engine e
  if 32 ≤ g.queue.length then
    (s.setFld (Reg.ENG_STATUS (e / 4) (e % 4)) Fld.ENG_STATUS_CMDQ_OVERFLOW 1, false)
  else
    let g := { g with queue := g.queue ++ [d], headAt := if g.queue.isEmpty then s.now else g.headAt }
    (s.setEngine e g, true)

/-- Sixteen words from 64 bytes. -/
def wordsOf (b : Bytes) : List Word := (List.range (b.length / 4)).map (fun i => BitVec.ofNat 32 (leAt b (4 * i) 4))

/-- A write of the command window by a prep core or DMA: 64 bytes, or CMD_PARTIAL (R140, R141). -/
def State.engWindow (s : State) (e : Nat) (data : Bytes) : State × Bool :=
  if data.length = 64 then s.engPush e (wordsOf data)
  else (s.setFld (Reg.ENG_STATUS (e / 4) (e % 4)) Fld.ENG_STATUS_CMD_PARTIAL 1, true)

/-- The management plane's write of ENG_CMD[15]: the sixteen staged words enter the queue (R140). -/
def State.engStaged (s : State) (e : Nat) (v : Word) : State :=
  let d := (List.range 15).map (fun i => s.reg (Reg.ENG_CMD (e / 4) (e % 4) i))
  ((s.setReg (Reg.ENG_CMD (e / 4) (e % 4) 15) v).engPush e (d ++ [v])).1

/-! The head of the queue (R148–R152). -/

/-- Whether a command's wait is met (R150). -/
def State.engWaitMet (s : State) (e : Nat) (d : List Word) : Bool :=
  !dWaitEn d || decide (0 ≤ sext 32 (((s.reg (Reg.ENG_CC (e / 4) (dwb d 11 0 2) (dwb d 11 2 4))).toNat + 2 ^ 32 - dw d 12)))

/-- The due cycle of a timed command as fixed when it reached the head: none when its named time was past (R152).
The named orbit is compared with the one that the owner observes, `shift` orbits after the true one (R645). -/
def dueCycle (d : List Word) (headAt shift : Nat) : Option Nat :=
  let o := headAt / orbitCycles
  let diff := (dwb d 13 0 24 + 2 ^ 24 - (o + shift) % 2 ^ 24) % 2 ^ 24
  let slot := dwb d 13 24 6
  if 2 ^ 23 ≤ diff then none
  else
    let t := (o + diff) * orbitCycles + 256 * slot
    if t < headAt then none else some t

/-- What the head of the queue may do now. -/
inductive HeadOut where
  | reject (status detail : Nat)
  | holds
  | mayStart (late : Bool)
  deriving DecidableEq, Repr

/-- The head of a queue examined: licence, R148, its wait, its dispatch time, a free entry, R151 (R39, R145–R152). A
timed command starts in cycle 4 of the due slot where the engine has been idle since before the slot; otherwise it is
late. What R152 asks of cycle 0 of the slot is looked at when the command gets its chance to start. -/
def State.headCheck (s : State) (e : Nat) (g : EngSt) (d : List Word) : HeadOut :=
  if !s.flag (Reg.ENG_STATUS (e / 4) (e % 4)) Fld.ENG_STATUS_ENABLED then .reject 2 0
  else
    match descFail d with
    | some n => .reject 3 n
    | none =>
      let free := g.run.isNone && s.engWaitMet e d && g.fifoFree && !overlapsDrain g d
      let late : HeadOut := if dLateSkip d then .reject 9 0 else if free then .mayStart true else .holds
      if dTimed d then
        match dueCycle d g.headAt ((s.obsOrbit (s.clOwner (e / 4)) + 2 ^ 48 - s.orbitN) % 2 ^ 48) with
        | none => late
        | some t =>
          if s.now < t then .holds
          else if t + 4 < s.now || !free || (decide (t ≤ g.lastBusy) && decide (0 < g.lastBusy)) then late
          else if s.now = t + 4 then .mayStart false
          else .holds
      else if free then .mayStart false
      else .holds

/-- The head removed, the next command reaching the head in this cycle. -/
def EngSt.pop (g : EngSt) (now : Nat) : EngSt :=
  { g with queue := g.queue.tail, headAt := now, deferred := none, cplStall := none }

/-- The start phase begins: ownership and bank checks (R149), the entry reserved, the bank taken (R136). -/
def State.engBegin (s : State) (e : Nat) (d : List Word) (late : Bool) : State :=
  let g := s.engine e
  let stall := match g.cplStall with
    | some t => s.now - t
    | none => 0
  let s := s.bumpBy (Reg.ENG_CNT_STALL_CPL (e / 4) (e % 4)) Fld.ENG_CNT_STALL_CPL_COUNT stall
  let s := if dWaitEn d then s.waitTrace (Unit.me e) 0 0 (4 * (e / 4) + dwb d 11 0 2 + 2 ^ 6 * dwb d 11 2 4) (dw d 12)
      (s.reg (Reg.ENG_CC (e / 4) (dwb d 11 0 2) (dwb d 11 2 4))).toNat g.headAt (s.clOwner (e / 4))
    else s
  let b := dBank d
  let acc := g.bank b
  let uses := dOp d == 1 || dOp d == 2 || dOp d == 3
  match s.unowned e d with
  | some r => (s.setEngine e { g.pop s.now with fetch := none }).engEnd e d ⟨4, r, late, false, false, false, 0, 0⟩
  | none =>
    if ((dOp d == 1 && !dInit d) || dOp d == 2) && acc == .invalid then
      (s.setEngine e { g.pop s.now with fetch := none }).engEnd e d ⟨8, 0, late, false, false, false, 0, 0⟩
    else
      let fetch := if dOp d == 1 && dTrowel d then g.fetch else none
      let g := { g.pop s.now with run := some ⟨d, s.now, late, fetch⟩, reserved := g.reserved + 1, fetch := none }
      let g := if uses && dOp d != 2 && acc != .draining then g.setBank b .computing else g
      let g := if dOp d == 2 then g.setBank b .draining else g
      (s.setEngine e g).setFld (Reg.ENG_CMD_CYCLES (e / 4) (e % 4)) Fld.ENG_CMD_CYCLES_COUNT 0

/-! The arithmetic of a run (R170–R174). -/

/-- Bytes of a scratch region read through an engine's port, word by word, the first failing status ending the read
(R132). -/
def State.engRead (s : State) (e : Nat) (port : ScrPort) : Nat → Nat → Nat → State × MemStatus × Bytes
  | 0, _, _ => (s, .ok, [])
  | n + 1, a, len =>
    if len = 0 then (s, .ok, [])
    else
      let m := min 64 len
      let (s, o) := s.scrRequest ⟨e / 4, port, a, .read m⟩
      match o with
      | .waits => (s, .notReady, [])
      | .done st d =>
        if st.good then
          let (s, st', d') := State.engRead s e port n (a + m) (len - m)
          (s, st', d ++ d')
        else (s, st, [])

/-- The operands of an MMA. -/
structure MmaIn where
  a : Bytes
  aScale : Bytes
  b : Bytes
  bScale : Bytes
  blocks : List TrwBlock
  deriving DecidableEq, Repr

/-- Element A[row][k] of an MMA. -/
def MmaIn.av (x : MmaIn) (d : List Word) (row k : Nat) : FVal :=
  match efmt (dAFmt d) with
  | some f =>
    let st := stepBytes (dAFmt d) 16
    f.value (element f.bits (slice x.a (k * st) st) row)
  | none => .zero

/-- Element B[k][col] of an MMA, from scratch or from the stream. -/
def MmaIn.bv (x : MmaIn) (d : List Word) (k col : Nat) : FVal :=
  match efmt (dBFmt d) with
  | some f =>
    if dTrowel d then
      match x.blocks[k / 32]? with
      | some blk => f.value (blk.codes.getD (k % 32 * 64 + col) 0)
      | none => .zero
    else
      let st := stepBytes (dBFmt d) 64
      f.value (element f.bits (slice x.b (k * st) st) col)
  | none => .zero

/-- The scale bytes of block `j` for a row and a column; 0x7F is 2^0. -/
def MmaIn.scales (x : MmaIn) (d : List Word) (row col j : Nat) : Nat × Nat :=
  (if isMx (dAFmt d) then byteAt x.aScale (16 * j + row) else 0x7F,
   if isMx (dBFmt d) then
     (if dTrowel d then
       match x.blocks[j]? with
       | some blk => blk.scales.getD col 0x7F
       | none => 0x7F
      else byteAt x.bScale (64 * j + col))
   else 0x7F)

/-- XACC of one cell after every block (R170–R172). -/
def MmaIn.cell (x : MmaIn) (d : List Word) (row col : Nat) : FVal :=
  (List.range (dK d / 32)).foldl (fun acc j =>
    let ks := (List.range 32).map (32 * j + ·)
    let (ea, eb) := x.scales d row col j
    let sum := blockSum (ks.map (fun k => x.av d row k)) (ks.map (fun k => x.bv d k col)) (ea == 0xFF || eb == 0xFF)
    xaccAdd acc sum (scaleOf ea) (scaleOf eb)) .zero

/-- The bank's elements after an MMA: rows at or above ROWS add nothing (R173, R174). -/
def mmaResult (g : EngSt) (d : List Word) (x : MmaIn) : List (Nat × Word) :=
  (List.range 1024).foldl (fun t i =>
    let row := i / 64
    let v := if row < dRows d then x.cell d row (i % 64) else .zero
    Tab.set (fun _ => 0) t i (bankElem (dInit d) (g.elem (dBank d) i) v)) (g.acc (dBank d))

/-- The operands of an MMA read from scratch, with the status of the first failing request (R132, R163). -/
def State.mmaOperands (s : State) (e : Nat) (d : List Word) (blocks : List TrwBlock) : State × MemStatus × MmaIn :=
  let i := Fin.ofNat 4 e
  let find (n : Nat) : Nat × Nat :=
    match (regions d).find? (fun r => r.1 == n) with
    | some r => (r.2.1, r.2.2)
    | none => (0, 0)
  let read (s : State) (port : ScrPort) (n : Nat) : State × MemStatus × Bytes :=
    let (a, len) := find n
    s.engRead e port (len / 64 + 1) a len
  let (s, st0, a) := read s (.aRead i) 0
  let (s, st1, as) := if st0 = .ok then read s (.aRead i) 1 else (s, st0, [])
  let (s, st2, b) := if st1 = .ok then read s (.bRead i) 2 else (s, st1, [])
  let (s, st3, bs) := if st2 = .ok then read s (.bRead i) 3 else (s, st2, [])
  (s, st3, ⟨a, as, b, bs, blocks⟩)

/-! Drains (R186–R192). -/

/-- One output word converted: its bytes, OUT_OVF, and the register after its draws. -/
def drainWord (f : Fmt) (stoch : Bool) (vals : List Word) (x : DWord) : Bytes × Bool × DWord :=
  vals.foldl (fun (acc : Bytes × Bool × DWord) w =>
    let drawn := stoch && f != .fp32
    let (n, o) := convertOut f (if drawn then .draw (acc.2.2.toNat % 65536) else .rne) w
    (acc.1 ++ le (f.width / 8) n, acc.2.1 || o, if drawn then lfsrDrawn acc.2.2 else acc.2.2)) ([], false, x)

/-- How a drain's writes went. -/
structure DrainOut where
  status : MemStatus
  ovf : Bool
  written : Bytes
  deriving DecidableEq, Repr

/-- The LFSR of an engine. -/
def State.lfsr (s : State) (e : Nat) : DWord :=
  BitVec.ofNat 64 (s.reg64 (Reg.ENG_LFSR_LO (e / 4) (e % 4)) (Reg.ENG_LFSR_HI (e / 4) (e % 4)))

/-- The LFSR set. -/
def State.setLfsr (s : State) (e : Nat) (x : DWord) : State :=
  s.setReg64 (Reg.ENG_LFSR_LO (e / 4) (e % 4)) (Reg.ENG_LFSR_HI (e / 4) (e % 4)) x.toNat

/-- The output words of a drain written one by one, row by row (R155, R186, R192); a failing write ends it. -/
def State.drainWords (s : State) (e : Nat) (d : List Word) (g : EngSt) (f : Fmt) : Nat → Nat → DrainOut → State × DrainOut
  | 0, _, o => (s, o)
  | n + 1, w, o =>
    let per := f.width / 8
    let row := w / per
    let vals := (List.range (64 / per)).map (fun i => g.elem (dBank d) (64 * row + w % per * (64 / per) + i))
    let (b, ovf, x) := drainWord f (dRound d == 1) vals (s.lfsr e)
    let s := s.setLfsr e x
    let a := dw d 9 + row * dw d 10 + w % per * 64
    let (s, r) := s.scrRequest ⟨e / 4, .drain (Fin.ofNat 4 e), a, .full b⟩
    match r with
    | .done .ok _ => State.drainWords s e d g f n (w + 1) ⟨.ok, o.ovf || ovf, o.written ++ b⟩
    | .done st _ => (s, { o with status := st })
    | .waits => (s, { o with status := .notReady })

/-- A drain of a bank (R186–R192). -/
def State.drainBank (s : State) (e : Nat) (d : List Word) : State × DrainOut :=
  match outFmt (dOutFmt d) with
  | some f => s.drainWords e d (s.engine e) f (dRows d * (f.width / 8)) 0 ⟨.ok, false, []⟩
  | none => (s, ⟨.ok, false, []⟩)

end Sys2Proof.Machine
end

