-- ==== Sys2Proof/Machine/EngineRun.lean ====
section
/-! DEFINITION. How an engine's head command starts, how a run ends, the abort at the mark, flushes and the Trowel's
fetches (R145–R165, R190–R193, R208–R217, R626). -/

namespace Sys2Proof.Machine

/-! Tensor watch (R626). -/

/-- The running statistics of a tensor watch record, in FP64. -/
structure Watch where
  nans : Nat
  infs : Nat
  mn : Option FVal
  mx : Option FVal
  sum : FVal
  sq : FVal
  deriving DecidableEq, Repr

/-- A value rounded to FP64. -/
def toFp64 (v : FVal) : FVal := Fmt.fp64.decode (Fmt.fp64.encode .rne .toInf v).1

/-- One value taken into the statistics, rounding after each step. -/
def Watch.take (w : Watch) (v : FVal) : Watch :=
  if v.isNan then { w with nans := w.nans + 1 }
  else if v.isInf then { w with infs := w.infs + 1 }
  else
    let low := match w.mn with
      | some m => if v.lt m then v else m
      | none => v
    let high := match w.mx with
      | some m => if m.lt v then v else m
      | none => v
    { w with mn := some low, mx := some high, sum := toFp64 (w.sum.add v), sq := toFp64 (w.sq.add (toFp64 (v.mul v))) }

/-- The FP64 code of a value. -/
def fp64Code (v : FVal) : Nat := (Fmt.fp64.encode .rne .toInf v).1

/-- The record of a drain (R626): statistics and digest of the bytes written, by mode. -/
def State.watchRecord (s : State) (e mode : Nat) (d : List Word) (f : Fmt) (written : Bytes) : Bytes :=
  let n := f.width / 8
  let vals := (List.range (written.length / n)).map (fun i => f.decode (leAt written (n * i) n))
  let w := vals.foldl Watch.take ⟨0, 0, none, none, .zero, .zero⟩
  let stats := le 4 w.nans ++ le 4 w.infs ++ le 8 ((w.mn.map fp64Code).getD 0) ++ le 8 ((w.mx.map fp64Code).getD 0)
    ++ le 8 (fp64Code w.sum) ++ le 8 (fp64Code w.sq)
  le 2 (Unit.me e) ++ le 1 mode ++ le 1 (dRows d) ++ le 2 (dTag d) ++ le 2 s.tm.cycle ++ le 8 s.orbitN
    ++ (if mode.testBit 0 then stats else zeros 40)
    ++ (if mode.testBit 1 then le 8 (crc64 written).toNat else zeros 8)

/-- A drain that ended OK observed by tensor watch, to the owner's stream 1 while TENSOR_WATCH is 1 (R626, R627). -/
def State.tensorWatch (s : State) (e : Nat) (d : List Word) (written : Bytes) : State :=
  let mode := s.fld (Reg.DBG_TW_CTRL e) Fld.DBG_TW_CTRL_MODE
  let tag := s.fld (Reg.DBG_TW_TAG e) Fld.DBG_TW_TAG_TAG
  let mask := s.fld (Reg.DBG_TW_TAG e) Fld.DBG_TW_TAG_MASK
  match s.clOwner (e / 4), outFmt (dOutFmt d) with
  | some p, some f =>
    if mode != 0 && ((dTag d ^^^ tag) &&& mask) == 0 && s.flag (Reg.PT_DEBUG p) Fld.PT_DEBUG_TENSOR_WATCH then
      s.capPush p 1 (s.watchRecord e mode d f written)
    else s
  | _, _ => s

/-! Costs (R155, R156). -/

/-- Cycles per 32 K-steps (R156). -/
def blockCycles (d : List Word) : Nat :=
  let four (c : Nat) : Bool := c == 6 || c == 8
  let wide (c : Nat) : Bool := c == 9 || c == 10
  if four (dAFmt d) && four (dBFmt d) && !dTrowel d then 16 else if wide (dAFmt d) || wide (dBFmt d) then 128 else 32

/-- Cycles of a drain (R155). -/
def drainCycles (d : List Word) : Nat := dRows d * dOutBytes d + 8

/-- The fill cycles of a run (R155): 640 less the lead of the fetch. -/
def EngRun.fill (r : EngRun) : Nat :=
  if dTrowel r.desc then 640 - (r.start - ((r.fetch.map TrwFetch.began).getD r.start)) else 0

/-- The 32-step blocks of a run whose operands have been delivered: all of them from scratch, and of a stream those that
the Trowel has decoded. -/
def EngRun.ready (r : EngRun) : Nat :=
  if dTrowel r.desc then min ((r.fetch.map (fun f => f.blocks.length)).getD 0) (dK r.desc / 32) else dK r.desc / 32

/-- The 32-step blocks that a run has finished after some cycles, when no other wait held it: no more than its stream has
delivered (R158). -/
def EngRun.blocksAt (r : EngRun) (now : Nat) : Nat :=
  min r.ready ((now - r.start - 16 - r.fill) / blockCycles r.desc)

/-! The Trowel's registers at a command's end (R217, R219). -/

/-- Lines read and the failing segment of a streamed command that ended. -/
def State.trwEnded (s : State) (e : Nat) (r : EngRun) : State :=
  match r.fetch with
  | none => s
  | some f =>
    let s := s.setFld (Reg.TRW_LAST_LINES (e / 4) (e % 4)) Fld.TRW_LAST_LINES_LINES f.received
    match f.err with
    | some (7, _) => s.setFld (Reg.TRW_LAST_ERR_LINE (e / 4) (e % 4)) Fld.TRW_LAST_ERR_LINE_LINE f.segStart
    | _ => s

/-- The cycles of a run counted as its engine ends it, `n` of them (R155, R157): RUNNING cycles; the K-phase cycles in
which the array advanced, no more than the delivered blocks take; and the rest of the K phase as Trowel or scratch waits. -/
def State.engCycles (s : State) (e : Nat) (r : EngRun) (n : Nat) : State :=
  let c := e / 4
  let i := e % 4
  let s := s.bumpBy (Reg.ENG_CNT_BUSY c i) Fld.ENG_CNT_BUSY_COUNT n
  let s := s.setFld (Reg.ENG_CMD_CYCLES c i) Fld.ENG_CMD_CYCLES_COUNT n
  if dOp r.desc == 1 then
    let k := n - 16 - r.fill
    let mac := min (r.ready * blockCycles r.desc) k
    let s := s.bumpBy (Reg.ENG_CNT_MAC c i) Fld.ENG_CNT_MAC_COUNT mac
    let rest := k - mac - (if r.ready = dK r.desc / 32 then 40 else 0)
    if dTrowel r.desc then s.bumpBy (Reg.ENG_CNT_STALL_TRW c i) Fld.ENG_CNT_STALL_TRW_COUNT rest
    else s.bumpBy (Reg.ENG_CNT_STALL_SCR c i) Fld.ENG_CNT_STALL_SCR_COUNT rest
  else s

/-- The cycles that the head has waited for a completion entry counted (R145). -/
def State.countCplStall (s : State) (e : Nat) : State :=
  match (s.engine e).cplStall with
  | some t => s.bumpBy (Reg.ENG_CNT_STALL_CPL (e / 4) (e % 4)) Fld.ENG_CNT_STALL_CPL_COUNT (s.now - t)
  | none => s

/-- An engine's counters as they stand in this cycle, the run in progress and the head's wait counted (R155, R157, R616). -/
def State.engLive (s : State) (e : Nat) : State :=
  let s := match (s.engine e).run with
    | some r => s.engCycles e r (s.now - r.start)
    | none => s
  s.countCplStall e

/-- A run of the K phase or of a short command ends in its last cycle, or at a mark: out of the engine, its entry
released, its record made. -/
def State.endRun (s : State) (e : Nat) (r : EngRun) (bank : Option BankSt) (x : EngEnd) : State :=
  let g := s.engine e
  let n := s.now - r.start + (if x.status = 1 then 0 else 1)
  let g := { g with run := none, reserved := g.reserved - 1, lastBusy := r.start + n - 1 }
  let g := match bank with
    | some b => g.setBank (dBank r.desc) b
    | none => g
  ((((s.setEngine e g).engCycles e r n).trwEnded e r).engEnd e r.desc { x with runCycles := s.now - r.start })

/-- The end of a drain, in the background or of the engine's run: the bank's contents stay, the record is made, and
tensor watch sees it (R137, R162, R163, R193). -/
def State.endDrain (s : State) (e : Nat) (r : EngRun) (background : Bool) (blocks : Nat) : State :=
  let d := r.desc
  let (s, o) := s.drainBank e d
  let g := s.engine e
  let ok := o.status = .ok
  let el := fun i => g.elem (dBank d) i
  let x : EngEnd := ⟨if ok then 0 else 5, if ok then 0 else o.status.code, r.late, nanSeen el (dRows d), infSeen el (dRows d),
    o.ovf, blocks, s.now - r.start⟩
  let taken := background && (match g.run with
    | some q => dBank q.desc == dBank d && (dOp q.desc == 1 || dOp q.desc == 3)
    | none => false)
  let b : BankSt := if taken then .computing else if ok then .valid else .invalid
  let s :=
    if background then
      (s.setEngine e ({ g with drain := none, reserved := g.reserved - 1 }.setBank (dBank d) b)).engEnd e d x
    else s.endRun e r (some b) x
  if ok then s.tensorWatch e d o.written else s

/-- The last cycle of an MMA's tail where nothing has extended its K phase (R155). -/
def EngRun.tailEnd (r : EngRun) : Nat := r.start + 16 + r.fill + dK r.desc / 32 * blockCycles r.desc + 39

/-- The state of a stream that a run needs. -/
inductive StreamSt where
  | ready (blocks : List TrwBlock)
  | wanting
  | failed (status detail : Nat)
  deriving DecidableEq, Repr

/-- Whether a run's stream has delivered all its blocks. -/
def EngRun.stream (r : EngRun) : StreamSt :=
  if dTrowel r.desc then
    match r.fetch with
    | none => .wanting
    | some f =>
      match f.err with
      | some (st, det) => .failed st det
      | none => if f.need = 0 then .ready f.blocks else .wanting
  else .ready []

/-- The K phase and tail of an MMA carried out (R170–R174): none while its stream or a bank's handover is awaited; a
failure ends the command; otherwise the bank holds the sums. -/
def State.runMma (s : State) (e : Nat) (r : EngRun) : Option (State × Bool) :=
  let d := r.desc
  if s.handoverWait e d then none
  else
    match r.stream with
    | .wanting => none
    | .failed st det =>
      some (s.endRun e r (some .invalid) ⟨st, det, r.late, false, false, false, r.blocksAt s.now, 0⟩, false)
    | .ready blocks =>
      let (s, st, x) := s.mmaOperands e d blocks
      if st = .ok then
        let g := s.engine e
        some (s.setEngine e (g.setAcc (dBank d) (mmaResult g d x)), true)
      else some (s.endRun e r (some .invalid) ⟨5, st.code, r.late, false, false, false, r.blocksAt s.now, 0⟩, false)

/-- The running command completes (R147, R162, R191). -/
def State.completeRun (s : State) (e : Nat) (r : EngRun) : State :=
  let d := r.desc
  match dOp d with
  | 1 =>
    match s.runMma e r with
    | none => s
    | some (s, false) => s
    | some (s, true) =>
      if dDrainAfter d then s.endDrain e r false (dK d / 32)
      else
        let g := s.engine e
        let el := fun i => g.elem (dBank d) i
        s.endRun e r (some .valid) ⟨0, 0, r.late, nanSeen el (dRows d), infSeen el (dRows d), false, dK d / 32, 0⟩
  | 2 => if s.handoverWait e d then s else s.endDrain e r false 0
  | 3 => (s.setEngine e ((s.engine e).setAcc (dBank d) [])).endRun e r (some .valid) ⟨0, 0, r.late, false, false, false, 0, 0⟩
  | 4 =>
    let seed := dw d 2 + 2 ^ 32 * dw d 3
    (s.setLfsr e (BitVec.ofNat 64 (if seed = 0 then 1 else seed))).endRun e r none ⟨0, 0, r.late, false, false, false, 0, 0⟩
  | _ => s.endRun e r none ⟨0, 0, r.late, false, false, false, 0, 0⟩

/-- A command completes (R162): the background drain first, then the run. -/
def State.engComplete (s : State) (e : Nat) : State :=
  let g := s.engine e
  match g.drain with
  | some r => s.endDrain e r true (if dOp r.desc == 1 then dK r.desc / 32 else 0)
  | none =>
    match g.run with
    | some r => s.completeRun e r
    | none => s

/-- The tail of an MMA that drains ends and its drain goes to the background, where it can end before the mark (R155,
R159); nothing happens otherwise. -/
def State.engTail (s : State) (e : Nat) : State :=
  let g := s.engine e
  match g.run, g.drain with
  | some r, none =>
    if dOp r.desc == 1 && dDrainAfter r.desc && decide (s.tm.cycle + drainCycles r.desc ≤ orbitCycles) then
      match s.runMma e r with
      | some (s, true) =>
        let g := s.engine e
        (s.setEngine e ({ g with run := none, drain := some r, lastBusy := r.tailEnd }.setBank (dBank r.desc) .draining)).engCycles
          e r (s.now - r.start)
      | some (s, false) => s
      | none => s
    else s
  | _, _ => s

/-! Starting (R145, R148–R152). -/

/-- Whether an engine starts commands now (R154, R402, R592, R638). -/
def State.engineRuns (s : State) (e : Nat) : Bool := !s.computeHeld && s.ownerRuns (s.clOwner (e / 4))

/-- The head of the queue examined and rejected, held or started; a command is rejected also while another runs (R148,
R162). A head that only the full completion FIFO holds back is counted from then on (R145). -/
def State.engHead (s : State) (e : Nat) (d : List Word) : State :=
  let g := s.engine e
  match s.headCheck e g d with
  | .reject st det =>
    if g.fifoFree then (s.setEngine e { g.pop s.now with fetch := none }).engEnd e d (.plain st det)
    else s.setEngine e { g with deferred := some (st, det), cplStall := some (g.cplStall.getD s.now) }
  | .holds =>
    match s.headCheck e { g with cpl := [] } d with
    | .mayStart _ => s.setEngine e { g with cplStall := some (g.cplStall.getD s.now) }
    | .reject _ _ | .holds => s
  | .mayStart late => s.engBegin e d late

/-- A command of one of some opcodes at the head of the queue gets its chance to start. -/
def State.engStart (s : State) (e : Nat) (sel : Nat → Bool) : State :=
  let g := s.engine e
  match g.queue with
  | [] => s
  | d :: _ =>
    if !s.engineRuns e || !sel (dOp d) || g.deferred.isSome || g.flushing != 0 then s
    else
      let s := s.engTail e
      s.engHead e d

/-! Completion of commands that did not start (R145, R164). -/

/-- The head of the queue completed without a start. -/
def State.endHead (s : State) (e status detail : Nat) : State :=
  let s := s.countCplStall e
  let g := s.engine e
  match g.queue with
  | [] => s
  | d :: _ => (s.setEngine e { g.pop s.now with fetch := none }).engEnd e d (.plain status detail)

/-- The next cycle, for what follows one per cycle. -/
def TimeSt.next (t : TimeSt) : TimeSt :=
  if t.cycle + 1 < orbitCycles then { t with cycle := t.cycle + 1 } else { t with orbit := t.orbit + 1, cycle := 0 }

/-- The next flushed commands completed, one per cycle, while entries are free; the rest wait (R164). -/
def State.flushNext (s : State) (e : Nat) : Nat → State
  | 0 => s
  | n + 1 =>
    let g := s.engine e
    if g.flushing = 0 then s
    else if g.queue.isEmpty then s.setEngine e { g with flushing := 0 }
    else if g.fifoFree then
      let s := (s.setEngine e { g with flushing := g.flushing - 1 }).endHead e 0x0A 0
      State.flushNext { s with tm := s.tm.next } e n
    else s.setEngine e { g with cplStall := some (g.cplStall.getD s.now) }

/-- Flushed commands completed from this cycle on. -/
def State.flushSome (s : State) (e n : Nat) : State := { s.flushNext e n with tm := s.tm }

/-- A write of FLUSH (R164); the head's wait, if it has one, ends discarded (R625). -/
def State.engFlush (s : State) (e : Nat) : State :=
  let g := s.engine e
  match g.queue with
  | [] => s
  | d :: _ =>
    let s := if dWaitEn d && g.flushing == 0 then
        s.waitTrace (Unit.me e) 2 0 (4 * (e / 4) + dwb d 11 0 2 + 2 ^ 6 * dwb d 11 2 4) (dw d 12)
          (s.reg (Reg.ENG_CC (e / 4) (dwb d 11 0 2) (dwb d 11 2 4))).toNat g.headAt (s.clOwner (e / 4))
      else s
    (s.setEngine e { g with flushing := g.queue.length, deferred := none, fetch := none }).flushSome e 33

/-- A command that waits at the head for a completion entry completes (R145). -/
def State.engDeferred (s : State) (e : Nat) : State :=
  let g := s.engine e
  if !g.fifoFree then s
  else if g.flushing != 0 then s.flushSome e 1
  else
    match g.deferred with
    | some (st, det) => s.endHead e st det
    | none => s

/-- The oldest completion record removed (R165). -/
def State.engPop (s : State) (e : Nat) : State :=
  let g := s.engine e
  s.setEngine e { g with cpl := g.cpl.tail }

/-- At a mark: a drain in the background has ended, and a command that has not ended is aborted (R158, R159). -/
def State.engMark (s : State) (e : Nat) : State :=
  let s := match (s.engine e).drain with
    | some _ => s.engComplete e
    | none => s
  match (s.engine e).run with
  | some r =>
    let uses := dOp r.desc == 1 || dOp r.desc == 2 || dOp r.desc == 3
    s.endRun e r (if uses then some .invalid else none) ⟨1, 0, r.late, false, false, false, r.blocksAt s.now, 0⟩
  | none => s

/-- An engine and its Trowel lose everything they hold, with no completion (R169, R213). -/
def State.engDiscard (s : State) (e : Nat) : State :=
  let g := s.engine e
  let s := match g.queue with
    | d :: _ =>
      if dWaitEn d then
        s.waitTrace (Unit.me e) 2 0 (4 * (e / 4) + dwb d 11 0 2 + 2 ^ 6 * dwb d 11 2 4) (dw d 12)
          (s.reg (Reg.ENG_CC (e / 4) (dwb d 11 0 2) (dwb d 11 2 4))).toNat g.headAt (s.clOwner (e / 4))
      else s
    | [] => s
  { s with eng := Tab.erase s.eng e }

/-! The Trowel's fetches (R153, R208–R217). -/

/-- The fetch of a command's stream. -/
def State.newFetch (s : State) (e : Nat) (d : List Word) : TrwFetch :=
  trwStart s.now (dBPra d) (dwb d 8 0 24) (dBFmt d != 6)
    (Tab.get (fun _ => none) s.trw (16 * (e / 4) + dwb d 7 16 4)) (dK d / 32)

/-- A fetch started: of the running command, or of the next one once its wait is met and the command before it has
begun its K phase (R153). -/
def State.fetchStart (s : State) (e : Nat) : State :=
  let g := s.engine e
  let streamed (d : List Word) : Bool := dOp d == 1 && dTrowel d && (descFail d).isNone
  match g.run with
  | some r =>
    if streamed r.desc && r.fetch.isNone then s.setEngine e { g with run := some { r with fetch := some (s.newFetch e r.desc) } }
    else
      match g.queue with
      | d :: _ =>
        if streamed d && s.engWaitMet e d && g.fetch.isNone && decide (r.start + 16 + r.fill ≤ s.now) then
          s.setEngine e { g with fetch := some (s.newFetch e d) }
        else s
      | [] => s
  | none =>
    match g.queue with
    | d :: _ =>
      if streamed d && s.engWaitMet e d && g.fetch.isNone then s.setEngine e { g with fetch := some (s.newFetch e d) } else s
    | [] => s

/-- The next line of a fetch read on behalf of the cluster's owner (R209); a failed read ends the fetch (R217). -/
def State.fetchLine (s : State) (e : Nat) (f : TrwFetch) : State × TrwFetch :=
  match s.clOwner (e / 4) with
  | none => (s, { f with err := some (6, MemStatus.outOfRange.code) })
  | some p =>
    let (s, st, d) := s.readLine (.part p) (f.pra + 64 * f.received)
    if st.good then (s.bump (Reg.TRW_CNT_LINES (e / 4) (e % 4)) Fld.TRW_CNT_LINES_COUNT, f.take d)
    else (s, { f with err := some (6, st.code) })

/-- A stream line returns: the running command's fetch has precedence (R210). -/
def State.lineReturn (s : State) (e : Nat) : State :=
  let g := s.engine e
  let next (s : State) : State :=
    match g.fetch with
    | some f => if f.wantsLine then let (s, f) := s.fetchLine e f; s.setEngine e { s.engine e with fetch := some f } else s
    | none => s
  match g.run with
  | some r =>
    match r.fetch with
    | some f =>
      if f.wantsLine then
        let (s, f) := s.fetchLine e f
        s.setEngine e { s.engine e with run := some { r with fetch := some f } }
      else next s
    | none => next s
  | none => next s

/-- A decoded block counted by its mode (R219). -/
def State.countBlock (s : State) (e : Nat) : Option Nat → State
  | some 0 => s.bump (Reg.TRW_CNT_CODED (e / 4) (e % 4)) Fld.TRW_CNT_CODED_COUNT
  | some 1 => s.bump (Reg.TRW_CNT_RAW (e / 4) (e % 4)) Fld.TRW_CNT_RAW_COUNT
  | some _ => s.bump (Reg.TRW_CNT_ZERO (e / 4) (e % 4)) Fld.TRW_CNT_ZERO_COUNT
  | none => s

/-- A block decoded and checked: the running command's first (R210, R211, R214). -/
def State.blockDecode (s : State) (e : Nat) : State :=
  let g := s.engine e
  let next : State :=
    match g.fetch with
    | some f => let (f', m) := f.decode; (s.setEngine e { g with fetch := some f' }).countBlock e m
    | none => s
  match g.run with
  | some r =>
    match r.fetch with
    | some f =>
      let (f', m) := f.decode
      if f' = f then next else (s.setEngine e { g with run := some { r with fetch := some f' } }).countBlock e m
    | none => next
  | none => next

end Sys2Proof.Machine
end

