-- ==== Sys2Proof/Machine/Core0.lean ====
section
/-! DEFINITION. The cores: registers, writes in flight, traps, address checks and the issue of a bundle (chapters Prep
Core Architecture and Firmware Complex). Cores 0–31 are PX0–PX31, cores 32–39 are SV0–SV7. -/

namespace Sys2Proof.Machine

/-! A core and its registers. -/

/-- A core at reset (R262). -/
def coreDefault : CoreSt :=
  ⟨[], [], [], [], [], 0, 0, 0, 0, 0, 0, 0, 0, 0, 0, false, false, [], 0, 0, none, 0, 0, [], none, [], .none, 0, false, [], none, []⟩

/-- A core. -/
def State.core (s : State) (x : Nat) : CoreSt := Tab.get (fun _ => coreDefault) s.cores x

/-- Core `x` as a cluster and an index within it. -/
def pxc (x : Nat) : Nat := x / 2
def pxi (x : Nat) : Nat := x % 2

/-- The state of a core set, with PX_PC. -/
def State.setCore (s : State) (x : Nat) (c : CoreSt) : State :=
  let s := { s with cores := Tab.set (fun _ => coreDefault) s.cores x c }
  if x < 32 then s.setFld (Reg.PX_PC (pxc x) (pxi x)) Fld.PX_PC_OFFSET c.pc else s

/-- A general register. -/
def CoreSt.gr (c : CoreSt) (n : Nat) : DWord := Tab.get (fun _ => 0) c.g n
/-- An address register. -/
def CoreSt.ar (c : CoreSt) (n : Nat) : DWord := Tab.get (fun _ => 0) c.a n
/-- A vector register. -/
def CoreSt.vr (c : CoreSt) (n : Nat) : BitVec 512 := Tab.get (fun _ => 0) c.v n
/-- A predicate register; p0 reads 1 (R220). -/
def CoreSt.pr (c : CoreSt) (n : Nat) : Bool := n == 0 || Tab.get (fun _ => false) c.p n
/-- Half of a segment register. -/
def CoreSt.sr (c : CoreSt) (n : Nat) : DWord := Tab.get (fun _ => 0) c.seg n

/-- Bytes `off` to `off + len - 1` of a vector replaced. -/
def vmerge (old new : BitVec 512) (off len : Nat) : BitVec 512 :=
  let m : BitVec 512 := ((BitVec.allOnes (8 * len)).setWidth 512) <<< (8 * off)
  (old &&& ~~~m) ||| ((new <<< (8 * off)) &&& m)

/-- A special register that a move may write (R222). -/
def spWritable (n : Nat) : Bool := n == 4 || n == 6 || n == 8 || n == 9 || n == 10

/-- A register written. -/
def CoreSt.put (c : CoreSt) (d : Dst) (x : BitVec 512) : CoreSt :=
  let w : DWord := x.setWidth 64
  match d with
  | .g n => { c with g := Tab.set (fun _ => 0) c.g n w }
  | .a n => { c with a := Tab.set (fun _ => 0) c.a n w }
  | .v n => { c with v := Tab.set (fun _ => 0) c.v n x }
  | .vpart n off len => { c with v := Tab.set (fun _ => 0) c.v n (vmerge (c.vr n) x off len) }
  | .p n => if n = 0 then c else { c with p := Tab.set (fun _ => false) c.p n (x.getLsbD 0) }
  | .seg n => { c with seg := Tab.set (fun _ => 0) c.seg n w }
  | .sp 4 => { c with tvec := w &&& 0x1FFFD }
  | .sp 6 => { c with tpc := w &&& 0x1FFFF }
  | .sp 8 => { c with tbr := w &&& 0xFFFFC }
  | .sp 9 => { c with dsLow := w }
  | .sp 10 => { c with dsHigh := w }
  | .sp _ => c

/-! Writes in flight (R228, R231). -/

/-- Two destinations that are one register. -/
def Dst.same (a b : Dst) : Bool :=
  let key (d : Dst) : Dst := match d with
    | .vpart n _ _ => .v n
    | d => d
  key a == key b

/-- The writes of one cycle that take effect, and how many do not: the highest slot, then the later issued. -/
def winners : List PendWrite → List PendWrite → Nat → List PendWrite × Nat
  | [], acc, lost => (acc, lost)
  | w :: ws, acc, lost =>
    match acc.find? (fun u => u.dst.same w.dst) with
    | none => winners ws (acc ++ [w]) lost
    | some u =>
      if u.slot ≤ w.slot then winners ws (acc.filter (fun y => !y.dst.same w.dst) ++ [w]) (lost + 1)
      else winners ws acc (lost + 1)

/-- The writes due in one advancing cycle made. -/
def CoreSt.settleAt (c : CoreSt) (t : Nat) : CoreSt × Nat :=
  let (now, later) := c.pend.partition (fun w => w.due == t)
  let (ws, lost) := winners (now.filter (fun w => w.dst != .p 0)) [] 0
  (ws.foldl (fun c w => c.put w.dst w.val) { c with pend := later }, lost)

/-- All writes in flight made, in the order of their cycles. -/
def CoreSt.drainWrites : Nat → CoreSt → Nat → CoreSt × Nat
  | 0, c, lost => (c, lost)
  | n + 1, c, lost =>
    match (c.pend.map PendWrite.due).min? with
    | none => (c, lost)
    | some t =>
      let (c, k) := c.settleAt t
      CoreSt.drainWrites n c (lost + k)

/-- Writes lost counted (R231). -/
def State.countLost (s : State) (x n : Nat) : State :=
  if x < 32 ∧ n ≠ 0 then s.bumpBy (Reg.PX_CNT_WCOLLIDE (pxc x) (pxi x)) Fld.PX_CNT_WCOLLIDE_COUNT n else s

/-- All writes in flight of a core made. -/
def State.coreDrain (s : State) (x : Nat) : State :=
  let c := s.core x
  let (c, lost) := CoreSt.drainWrites c.pend.length c 0
  (s.setCore x c).countLost x lost

/-! States of a core (R256, R563). -/

/-- A prep core's state code. -/
def State.pxState (s : State) (x : Nat) : Nat := s.fld (Reg.PX_STATE (pxc x) (pxi x)) Fld.PX_STATE_STATE

/-- A prep core's state set, with its Tail event (R622 KIND 2). -/
def State.setPxState (s : State) (x n : Nat) : State :=
  (s.setFld (Reg.PX_STATE (pxc x) (pxi x)) Fld.PX_STATE_STATE n).tailEvent (Unit.px x) 2 n 0

/-- The owner of a core. -/
def State.coreOwner (s : State) (x : Nat) : Option Nat := if x < 32 then s.clOwner (pxc x) else none

/-- The unit of a core (R614). -/
def coreUnit (x : Nat) : Nat := if x < 32 then Unit.px x else Unit.sv (x - 32)

/-- Whether the service cores have been started and not stopped (R583, R587, R638). -/
def State.svUp (s : State) : Bool :=
  let st := s.fld Reg.BOOT_STAGE Fld.BOOT_STAGE_STAGE
  s.pwr.on && (decide (6 < st) || (st == 6 && !s.flag Reg.BOOT_STAGE Fld.BOOT_STAGE_BUSY))
    && s.boot.secs.any (fun e => e.1 == 5) && !s.flag Reg.DBG_STATUS Fld.DBG_STATUS_STOPPED

/-- Whether a core runs: RUNNING, and nothing above it stops its owner (R256, R264, R402, R563, R638). -/
def State.coreRuns (s : State) (x : Nat) : Bool :=
  if x < 32 then s.pxState x == 3 && !s.computeHeld && s.ownerRuns (s.coreOwner x)
  else s.fld (Reg.SV_STATUS (x - 32)) Fld.SV_STATUS_STATE == 0 && s.svUp

/-! Local and shared SRAM of the service cores (R557). -/

/-- `n` bytes of an SRAM table. -/
def sramBytes (t : List Host.Cell) (a n : Nat) : Bytes := (List.range n).map (fun i => Tab.get (fun _ => (0 : Byte)) t (a + i))

/-- Bytes put into an SRAM table. -/
def sramStore (t : List Host.Cell) (a : Nat) : Bytes → List Host.Cell
  | [] => t
  | b :: r => sramStore (Tab.set (fun _ => (0 : Byte)) t a b) (a + 1) r

/-- The local SRAM key of a service core's offset. -/
def localKey (x off : Nat) : Nat := (x - 32) * 2 ^ 18 + off

/-! Restart of a service core (R563, R564): its first steps. -/

/-- The MPU registers of a service core cleared. -/
def State.mpuClear (s : State) (i : Nat) : State :=
  (List.range 16).foldl (fun t r =>
    ((t.setReg (Reg.SV_MPU_BASE i r) 0).setReg (Reg.SV_MPU_LIMIT i r) 0).setReg (Reg.SV_MPU_ATTR i r) 0) s

/-- Posted stores of a service core to the service region made (R563 step 1). -/
def State.svPosted (s : State) (x : Nat) : State :=
  (s.core x).posted.foldl (fun t w => (t.writeLine .svc (w.1 % 2 ^ 60) w.2).1) s

/-- The core whose role serves a Hawk request (R568): function 0 is PF0. -/
def hawkRole (fn op : Nat) : Nat :=
  if op = 1 then (if fn = 0 then 0 else 1)
  else if op < 0x30 then 1
  else if op < 0x40 then 2
  else if op < 0x50 then 4
  else 0

/-- A service core stops and restarts with a cause (R563): STATE RESTARTING, SRAM and MPU cleared; requests that its role
had begun are to end with RETRY (R556). -/
def State.svRestart (s : State) (i cause tcause : Nat) : State :=
  let x := 32 + i
  let s := s.svPosted x
  let past := (Tab.get (fun _ => []) s.fw.storm i).filter (fun o => decide (s.orbitN < o + 2 ^ 20))
  let s := { s with
    cores := Tab.erase s.cores x
    fw := { s.fw with
      local_ := Tab.drop (fun k => k / 2 ^ 18 == i) s.fw.local_
      storm := Tab.set (fun _ => []) s.fw.storm i (past ++ [s.orbitN])
      req := s.fw.req.map (fun (r : HawkReq) => if r.begun && hawkRole r.fn r.op == i then { r with failed := true } else r) } }
  let s := s.mpuClear i
  let s := s.setFld (Reg.SV_STATUS i) Fld.SV_STATUS_MPU_LOCKED 0
  let s := s.setFld (Reg.SV_WDOG i) Fld.SV_WDOG_COUNT 0
  let s := s.bump (Reg.SV_RESTARTS i) Fld.SV_RESTARTS_COUNT
  let s := (s.setFld (Reg.SV_CAUSE i) Fld.SV_CAUSE_CAUSE cause).setFld (Reg.SV_CAUSE i) Fld.SV_CAUSE_TCAUSE tcause
  (s.setFld (Reg.SV_STATUS i) Fld.SV_STATUS_STATE 1).tailEvent (Unit.sv i) 2 1 cause

/-! Traps (R252–R255). -/

/-- TCAUSE of a fault (R255). -/
def tcauseOf (f : OpFault) (slot : Nat) (late : Bool) : Nat :=
  f.cause % 256 + 2 ^ 8 * (f.detail % 256) + 2 ^ 16 * (slot % 8) + (if late then 2 ^ 19 else 0)

/-- A pending branch as TBR holds it (R222). -/
def tbrOf (b : Option (Nat × Nat)) : DWord :=
  match b with
  | some (t, n) => BitVec.ofNat 64 (t % 2 ^ 17 / 4 * 4 + 2 ^ 17 + n * 2 ^ 18)
  | none => 0

/-- The trap registers of a prep core copied into its register block (R266). -/
def State.trapCopy (s : State) (x : Nat) : State :=
  if x < 32 then
    let c := s.core x
    let s := s.setFld (Reg.PX_TCAUSE (pxc x) (pxi x)) Fld.PX_TCAUSE_CAUSE c.tcause.toNat
    let s := s.setFld (Reg.PX_TPC (pxc x) (pxi x)) Fld.PX_TPC_OFFSET c.tpc.toNat
    (s.setReg (Reg.PX_TADDR_LO (pxc x) (pxi x)) (c.taddr.setWidth 32)).setReg (Reg.PX_TADDR_HI (pxc x) (pxi x))
      ((c.taddr >>> 32).setWidth 32)
  else s

/-- A core with no handler to run: a prep core is FAULTED and its owner told; a service core restarts (R253, R561). -/
def State.coreFaulted (s : State) (x : Nat) : State :=
  if x < 32 then
    let s := (s.setPxState x 5).setFld (Reg.PX_EVENT (pxc x) (pxi x)) Fld.PX_EVENT_FAULTED 1
    match s.coreOwner x with
    | some p => s.raiseEvent 2 p (le 1 x ++ le 4 (s.core x).tcause.toNat)
    | none => s
  else s.svRestart (x - 32) 1 (s.core x).tcause.toNat

/-- A trap (R252, R253): writes in flight are made, the trap registers set, and the handler or FAULTED entered. -/
def State.coreTrap (s : State) (x : Nat) (f : OpFault) (slot : Nat) (late : Bool) (tfpc : Nat) : State :=
  let s := s.coreDrain x
  let s := if x < 32 then s.bump (Reg.PX_CNT_TRAP (pxc x) (pxi x)) Fld.PX_CNT_TRAP_COUNT else s
  let c := { s.core x with bundle := [], stall := .none }
  if c.inHandler then
    ((s.setCore x { c with tcause := BitVec.ofNat 64 (tcauseOf ⟨0x14, 0, 0⟩ slot late) }).trapCopy x).coreFaulted x
  else
    let c := { c with
      tcause := BitVec.ofNat 64 (tcauseOf f slot late)
      tpc := BitVec.ofNat 64 c.pc
      tfpc := BitVec.ofNat 64 tfpc
      taddr := BitVec.ofNat 64 f.addr
      tbr := tbrOf c.branch
      branch := none }
    if c.tvec.getLsbD 0 then
      (s.setCore x { c with inHandler := true, pc := c.tvec.toNat / 4 * 4 % 2 ^ 17 }).trapCopy x
    else ((s.setCore x c).trapCopy x).coreFaulted x

/-! Instruction memory (R235, R242). -/

/-- The bytes of code a core has. -/
def State.codeLen (s : State) (x : Nat) : Nat :=
  if x < 32 then ((s.core x).img.map (fun i => 4 * i.code.length)).getD 0 else 2 ^ 18

/-- The operation word at an offset. -/
def State.codeWord (s : State) (x off : Nat) : Word :=
  if x < 32 then ((s.core x).img.map (fun i => i.code.getD (off / 4) 0)).getD 0
  else BitVec.ofNat 32 (leVal (sramBytes s.fw.local_ (localKey x off) 4))

/-- The offset after the bundle that starts at an offset: past the first operation whose stop bit is 1. -/
def State.bundleEnd (s : State) (x : Nat) : Nat → Nat → Nat
  | 0, off => off
  | n + 1, off => if (s.codeWord x off).getLsbD 31 then off + 4 else State.bundleEnd s x n (off + 4)

/-! Address checks (R236–R248, R557, R558, R666). -/

/-- The region of a unified address. -/
def uReg (u : Nat) : Nat := u / 2 ^ 60 % 16
/-- The offset within its region. -/
def uOff (u : Nat) : Nat := u % 2 ^ 60

/-- Whether an MPU region of a service core covers an access with a right, 1 R, 2 W, 4 X (R558). -/
def State.mpuAllows (s : State) (i u size right : Nat) : Bool :=
  (List.range 16).any (fun r =>
    let at_ := (s.reg (Reg.SV_MPU_ATTR i r)).toNat
    at_.testBit 0 && (at_ / 2 % 8) &&& right != 0 && at_ / 16 % 16 == uReg u
      && decide ((s.reg (Reg.SV_MPU_BASE i r)).toNat * 64 ≤ uOff u)
      && decide (uOff u + size ≤ (s.reg (Reg.SV_MPU_LIMIT i r)).toNat * 64))

/-- The size of a region of a core; none where it is not defined. -/
def State.regionSize (s : State) (x reg : Nat) : Option Nat :=
  if x < 32 then
    if reg = 0 then some (match s.coreOwner x with | some p => s.spaceSize (.part p) | none => 0)
    else if reg = 4 then some 12582912
    else if reg = 8 then some (2 ^ 60)
    else none
  else if reg = 1 then some 64424509440
  else if reg = 2 then some (2 ^ 23)
  else if reg = 3 then some (2 ^ 18)
  else if reg = 8 then some (2 ^ 26)
  else none

/-- Whether an offset of the control window is ENG_CMD of one of the cluster's engines (R249, R276). -/
def engCmdAt (off : Nat) : Option Nat :=
  if 0x40000 ≤ off ∧ off < 0x44000 ∧ off % 0x1000 = 0 then some ((off - 0x40000) / 0x1000) else none

/-- An access's unified address (R245). -/
def CoreSt.unified (c : CoreSt) (a : Access) : Nat :=
  if c.compat then (a.addr + (c.sr (2 * (a.base % 8))).toNat) % 2 ^ 64 else a.addr

/-- Whether an access writes memory. -/
def AccKind.writes : AccKind → Bool
  | .load _ _ => false
  | _ => true

/-- Whether an access is a command-port enqueue: ENQ, or a vector store to ENG_CMD (R249). -/
def Access.isEnq (a : Access) (x u : Nat) : Bool :=
  x < 32 && uReg u == 8 && a.size == 64 && (engCmdAt (uOff u)).isSome &&
  (match a.kind with | .enq _ _ => true | .store _ => true | _ => false)

/-- The first address rule that an access breaks, in the order of R666; the memory protection of a service core comes
last. -/
def State.accessFault (s : State) (x : Nat) (a : Access) : Option OpFault :=
  let c := s.core x
  let u := c.unified a
  let reg := uReg u
  let off := uOff u
  let atom : Bool := match a.kind with | .atom _ _ _ _ => true | _ => false
  let enq : Bool := match a.kind with | .enq _ _ => true | _ => false
  let spill := if x < 32 then 4 else 3
  if c.compat && decide ((c.sr (2 * (a.base % 8) + 1)).toNat < a.addr + a.size) then some ⟨0x0C, 0, a.addr⟩
  else
    match s.regionSize x reg with
    | none => some ⟨0x06, 0, u⟩
    | some size =>
      if atom && (reg == 0 || reg == 1 || reg == 8) then some ⟨0x06, 1, u⟩
      else if enq && (reg != 8 || (engCmdAt off).isNone) then some ⟨0x06, 2, u⟩
      else if size ≤ off then some ⟨0x07, 0, u⟩
      else if u % a.size ≠ 0 then some ⟨0x08, 0, u⟩
      else if reg = 8 ∧ a.size ≠ 4 ∧ !a.isEnq x u then some ⟨0x12, 0, u⟩
      else if a.base = 15 ∧ !(decide (c.dsLow.toNat ≤ u) && decide (u + a.size ≤ c.dsHigh.toNat)) then some ⟨0x0D, 0, u⟩
      else if a.kind.writes ∧ reg = spill ∧ off < c.rsLimit ∧ c.rsBase < off + a.size then some ⟨0x0E, 0, u⟩
      else if 32 ≤ x ∧ !s.mpuAllows (x - 32) u a.size (if a.kind.writes then 2 else 1) then
        some ⟨0x15, if a.kind.writes then 2 else 1, u⟩
      else none

/-! The return stack (R242–R244). -/

/-- The scratch request of a core. -/
def pxReq (x addr : Nat) (op : ScrOp) : ScrReq := ⟨pxc x, .px (Fin.ofNat 2 x), addr, op⟩

/-- A spill word written, or why not. -/
def State.spillWrite (s : State) (x addr : Nat) (data : Bytes) : State × Option Nat :=
  if x < 32 then
    match s.scrRequest (pxReq x addr (.full data)) with
    | (s, .done st _) => (s, if st.good then none else some st.code)
    | (s, .waits) => (s, none)
  else ({ s with fw := { s.fw with local_ := sramStore s.fw.local_ (localKey x addr) data } }, none)

/-- A spilled word read back, or why not. -/
def State.spillRead (s : State) (x addr : Nat) : State × (Bytes ⊕ Nat) :=
  if x < 32 then
    match s.scrRequest (pxReq x addr (.read 64)) with
    | (s, .done st d) => (s, if st.good then .inl d else .inr st.code)
    | (s, .waits) => (s, .inr MemStatus.notOwner.code)
  else (s, .inl (sramBytes s.fw.local_ (localKey x addr) 64))

/-- The unified address of a spill word. -/
def spillAddr (x off : Nat) : Nat := (if x < 32 then 4 else 3) * 2 ^ 60 + off

/-- Cycles of a spill or refill counted as stalled. -/
def State.countStall (s : State) (x n : Nat) : State :=
  if x < 32 then s.bumpBy (Reg.PX_CNT_STALL (pxc x) (pxi x)) Fld.PX_CNT_STALL_COUNT n else s

/-- A prep core's counters as they stand in this cycle, the stall or wait in progress counted (R222, R616). -/
def State.coreLive (s : State) (x : Nat) : State :=
  let c := s.core x
  if s.pxState x ≠ 3 then s
  else
    match c.stall with
    | .none => s
    | .bundle | .access _ _ => s.countStall x (s.now - c.since)
    | .wait _ _ _ =>
      if x < 32 then s.bumpBy (Reg.PX_CNT_WAIT (pxc x) (pxi x)) Fld.PX_CNT_WAIT_COUNT (s.now - c.since) else s

/-- A return offset pushed, with a spill of the oldest 16 where 32 are held (R242–R244). -/
def State.pushLink (s : State) (x link : Nat) : State ⊕ OpFault :=
  let c := s.core x
  if c.rstack.length < 32 then .inl (s.setCore x { c with rstack := link :: c.rstack })
  else
    let addr := c.rsBase + 64 * c.spilled
    if c.rsLimit ≤ addr then .inr ⟨0x0F, 0, 0⟩
    else
      let oldest := (c.rstack.drop 16).reverse
      match s.spillWrite x addr ((oldest.map (le 4)).flatten) with
      | (_, some code) => .inr ⟨0x11, code, spillAddr x addr⟩
      | (s, none) =>
        .inl ((s.setCore x { c with rstack := link :: c.rstack.take 16, spilled := c.spilled + 1 }).countStall x 8)

/-- The top return offset popped, with a refill where none is left and words are spilled (R242–R244). -/
def State.popLink (s : State) (x : Nat) : (State × Nat) ⊕ OpFault :=
  let c := s.core x
  match c.rstack with
  | [] => .inr ⟨0x10, 0, 0⟩
  | t :: rest =>
    if rest.isEmpty && c.spilled != 0 then
      let addr := c.rsBase + 64 * (c.spilled - 1)
      match s.spillRead x addr with
      | (_, .inr code) => .inr ⟨0x11, code, spillAddr x addr⟩
      | (s, .inl d) =>
        let l := ((List.range 16).map (fun i => leAt d (4 * i) 4)).reverse
        .inl ((s.setCore x { c with rstack := l, spilled := c.spilled - 1 }).countStall x 8, t)
    else .inl (s.setCore x { c with rstack := rest }, t)

/-! Issue of a bundle (R225–R234). -/

/-- The number of the first slot that two operations of a bundle share. -/
def dupSlot (b : List Plan) : Option Nat := (List.range 6).find? (fun n => 2 ≤ b.countP (fun p => p.slot == n))

/-- Whether an action counts as a branch for R234. -/
def BAct.isBranch : BAct → Bool
  | .branch _ => true
  | .notTaken => true
  | .call _ => true
  | .ret => true
  | .tret => true
  | _ => false

/-- The fault that an operation has at issue, if any. -/
def State.planFault (s : State) (x : Nat) (p : Plan) : Option OpFault :=
  match p.fault with
  | some f => some f
  | none =>
    match p.access with
    | some a => s.accessFault x a
    | none => if p.act.isBranch && (s.core x).branch.isSome then some ⟨0x03, 0, 0⟩ else none

/-- The fault of the lowest-numbered slot of a bundle (R252). -/
def State.bundleFault (s : State) (x : Nat) (b : List Plan) : Option (OpFault × Nat) :=
  (List.range 6).findSome? (fun n =>
    match b.find? (fun p => p.slot == n) with
    | some p => (s.planFault x p).map (·, n)
    | none => none)

/-- Whether a scratch address waits for its bank's handover to the prep cores (R116). -/
def State.bankPending (s : State) (x off : Nat) : Bool :=
  let k := Reg.SCR_OWN (pxc x) (off / 2 ^ 19)
  s.flag k Fld.SCR_OWN_PENDING && s.fld k Fld.SCR_OWN_OWNER == 4

/-- Whether a bundle cannot issue yet: a fence with stores outstanding, or a request to a bank in handover (R229). -/
def State.bundleWaits (s : State) (x : Nat) (b : List Plan) : Bool :=
  let c := s.core x
  (b.any (fun p => p.fence) && !c.posted.isEmpty)
  || (decide (x < 32) && b.any (fun p =>
    match p.access with
    | some a => let u := c.unified a; uReg u == 4 && s.bankPending x (uOff u)
    | none => false))

/-- A value read for a register from bytes, zero- or sign-extended (R275). -/
def loadValue (signed : Bool) (d : Bytes) : BitVec 512 :=
  if signed then BitVec.ofNat 512 (trunc 64 (sext (8 * d.length) (leVal d))) else BitVec.ofNat 512 (leVal d)

/-- A write put in flight. -/
def State.pendWrite (s : State) (x slot lat : Nat) (d : Dst) (v : BitVec 512) : State :=
  let c := s.core x
  s.setCore x { c with pend := c.pend ++ [⟨c.adv + lat, slot, d, v⟩] }

/-- A failing scratch answer noted for its deferred trap (R252). -/
def State.lateFault (s : State) (x : Nat) (cause code u tfpc : Nat) : State :=
  let c := s.core x
  s.setCore x { c with late := c.late ++ [⟨⟨cause, code, u⟩, 2, tfpc⟩] }

/-- The scratch operation of an access. -/
def AccKind.scrOp (k : AccKind) (size : Nat) : ScrOp :=
  match k with
  | .load _ _ => .read size
  | .store d => if d.length = 64 then .full d else .part d
  | .atom w false x _ => .add w x
  | .atom w true x _ => .swap w x
  | .enq _ _ => .read size

/-- What an access answered with returns into its register (R230). -/
def State.accessResult (s : State) (x : Nat) (a : Access) (d : Bytes) : State :=
  match a.kind with
  | .load sg dst => s.pendWrite x 2 (if a.size = 64 then 6 else 5) dst (loadValue sg d)
  | .atom _ _ _ gd => s.pendWrite x 2 6 (.g gd) (BitVec.ofNat 512 (leVal d))
  | _ => s

/-- A scratch access made at issue (R239). -/
def State.scratchAccess (s : State) (x : Nat) (a : Access) (u tfpc : Nat) : State :=
  let before := s.fld (Reg.SCR_CONFLICT (pxc x) (uOff u / 2 ^ 19)) Fld.SCR_CONFLICT_COUNT
  match s.scrRequest (pxReq x (uOff u) (a.kind.scrOp a.size)) with
  | (s, .done st d) =>
    let s := s.countStall x (s.fld (Reg.SCR_CONFLICT (pxc x) (uOff u / 2 ^ 19)) Fld.SCR_CONFLICT_COUNT - before)
    if st.good then s.accessResult x a d else s.lateFault x 0x09 st.code u tfpc
  | (s, .waits) => s

/-- An SRAM access of a service core made at issue (R557): loads, stores and atomics. -/
def State.sramAccess (s : State) (x : Nat) (a : Access) (u : Nat) : State :=
  let shared := uReg u == 2
  let k := if shared then uOff u else localKey x (uOff u)
  let t := if shared then s.fw.sram else s.fw.local_
  let put (s : State) (t : List Host.Cell) : State :=
    if shared then { s with fw := { s.fw with sram := t } } else { s with fw := { s.fw with local_ := t } }
  let old := sramBytes t k a.size
  match a.kind with
  | .load _ _ => s.accessResult x a old
  | .store d => put s (sramStore t k d)
  | .atom _ swap v _ =>
    let new := if swap then v.toNat else leVal old + v.toNat
    (put s (sramStore t k (le a.size new))).accessResult x a old
  | .enq _ _ => s

/-- A core stalled from this cycle. -/
def State.coreStall (s : State) (x : Nat) (st : Stall) : State :=
  s.setCore x { s.core x with stall := st, since := s.now }

/-- The L access of an issued bundle: made at once, posted, or left to stall for its answer (R229, R239, R240). -/
def State.issueAccess (s : State) (x tfpc : Nat) (a : Access) : State :=
  let c := s.core x
  let u := c.unified a
  let reg := uReg u
  if reg = 8 then s.coreStall x (.access a tfpc)
  else if (x < 32 ∧ reg = 0) ∨ (32 ≤ x ∧ reg = 1) then
    match a.kind with
    | .store d => s.setCore x { c with posted := c.posted ++ [(u, d)] }
    | _ => s.coreStall x (.access a tfpc)
  else if x < 32 then s.scratchAccess x a u tfpc
  else s.sramAccess x a u

/-- CYCLES: since the core last left EMPTY or READY; a service core counts its own, at half the rate (R222, R560). -/
def State.coreCycles (s : State) (x : Nat) : Nat :=
  let n := s.now - (s.core x).started
  if x < 32 then n else n / 2

/-- ORBIT, POS and CYCLES as read in the cycle of issue (R222). -/
def State.timedSpecial (s : State) (x n : Nat) : Nat :=
  if n = 1 then s.obsOrbit (s.coreOwner x) else if n = 2 then s.tm.cycle else s.coreCycles x

/-- The register effects and the L access of one operation of an issued bundle. -/
def State.issuePlan (s : State) (x tfpc : Nat) (p : Plan) : State :=
  let s := p.writes.foldl (fun t w => t.pendWrite x p.slot w.2.1 w.1 w.2.2) s
  let s := match p.timed with
    | some (gd, n) => s.pendWrite x p.slot 2 (.g gd) (BitVec.ofNat 512 (s.timedSpecial x n))
    | none => s
  match p.access with
  | some a => s.issueAccess x tfpc a
  | none => s

/-- The program counter after a bundle without a branch of its own, the delay bundles counted (R233). -/
def CoreSt.nextPc (c : CoreSt) (after : Nat) : CoreSt :=
  match c.branch with
  | some (t, n) => if n ≤ 1 then { c with pc := t, branch := none } else { c with pc := after, branch := some (t, n - 1) }
  | none => { c with pc := after }

/-- Return from a trap (R254): MODE[1] clears and the bundle at TPC is next, within a restored branch. -/
def CoreSt.trapReturn (c : CoreSt) : CoreSt :=
  let t := c.tbr.toNat
  let n := t / 2 ^ 18 % 4
  let tgt := t % 2 ^ 17 / 4 * 4
  if t.testBit 17 then
    if n = 0 then { c with inHandler := false, pc := tgt, branch := none }
    else { c with inHandler := false, pc := c.tpc.toNat % 2 ^ 17, branch := some (tgt, n) }
  else { c with inHandler := false, pc := c.tpc.toNat % 2 ^ 17, branch := none }

/-- A prep core stopped at a bundle boundary (R258): writes in flight made, HALTED, the pending branch kept in TBR. -/
def State.coreHalt (s : State) (x : Nat) : State :=
  let s := s.coreDrain x
  let c := s.core x
  let s := s.setCore x { c with halting := false, tbr := if c.inHandler then c.tbr else tbrOf c.branch }
  if x < 32 then s.setPxState x 4 else s.setFld (Reg.SV_STATUS (x - 32)) Fld.SV_STATUS_STATE 2

/-- The end of an issue: one advancing cycle passes and the writes due then are made. -/
def State.advance (s : State) (x : Nat) : State :=
  let c := { s.core x with bundle := [] }
  let (c, lost) := ({ c with adv := c.adv + 1 }).settleAt (c.adv + 1)
  (s.setCore x c).countLost x lost

/-- The B action of an issued bundle after its stack operation: where the next bundle is (R233, R254, R258). -/
def State.issueAct (s : State) (x after : Nat) (tgt : Nat) (act : BAct) : State :=
  let c := s.core x
  match act with
  | .branch t => s.setCore x { c with pc := after, branch := some (t, 2) }
  | .call t => s.setCore x { c with pc := after, branch := some (t, 2) }
  | .ret => s.setCore x { c with pc := after, branch := some (tgt, 2) }
  | .tret => s.setCore x c.trapReturn
  | .wait w pd l => (s.setCore x (c.nextPc after)).coreStall x (.wait w pd l)
  | _ => s.setCore x (c.nextPc after)

/-- The stack operation of a bundle, the last thing in it that can fault (R244). -/
def State.stackAct (s : State) (x after : Nat) (act : BAct) : (State × Nat) ⊕ OpFault :=
  match act with
  | .call _ =>
    let link := s.bundleEnd x 64 (s.bundleEnd x 64 after)
    match s.pushLink x (link % 2 ^ 17) with
    | .inl s => .inl (s, 0)
    | .inr f => .inr f
  | .ret => s.popLink x
  | _ => .inl (s, 0)

/-- The presented bundle issues, traps or waits (R225–R235, R240). -/
def State.issue (s : State) (x : Nat) : State :=
  let c := s.core x
  let b := c.bundle
  match dupSlot b with
  | some n => s.coreTrap x ⟨0x02, 0, 0⟩ n false c.pc
  | none =>
    match b.find? (fun p => p.badUnit) with
    | some p => s.coreTrap x ⟨0x01, 0, 0⟩ p.slot false c.pc
    | none =>
      match s.bundleFault x b with
      | some (f, n) => s.coreTrap x f n false c.pc
      | none =>
        if s.bundleWaits x b then (if c.stall = .bundle then s else s.coreStall x .bundle)
        else
          match (if b.any (fun p => p.fence) then c.storeErr else none) with
          | some (u, code) => (s.setCore x { c with storeErr := none }).coreTrap x ⟨0x0B, code, u⟩ 2 false c.pc
          | none =>
            let act := ((b.find? (fun p => p.slot == 5)).map Plan.act).getD .none
            let after := c.pc + 4 * b.length
            match s.stackAct x after act with
            | .inr f => s.coreTrap x f 5 false c.pc
            | .inl (s, tgt) =>
              let s := s.setCore x { s.core x with stall := .none }
              let s := if x < 32 then s.bump (Reg.PX_CNT_BUNDLES (pxc x) (pxi x)) Fld.PX_CNT_BUNDLES_COUNT else s
              let s := b.foldl (fun t p => t.issuePlan x c.pc p) s
              let s := s.issueAct x after tgt act
              let s := s.advance x
              if act = .halt then s.coreHalt x else s

/-- The guard of an operation (R226). -/
def CoreSt.guardOk (c : CoreSt) (h : OpHdr) : Bool := c.pr h.guard.val != h.sense

/-- An operation that does nothing. -/
def planNone (slot : Nat) : Plan := ⟨slot, false, none, [], none, none, false, .none⟩

/-- An operation presented to its core (R223–R227): its operands are read, and the bundle issues at its stop bit. A
core that does not run, or is stalled, issues nothing. Fetch beyond the code traps (R235); a service core has only the
slots S0, L and B (R292) and fetches where its MPU lets it execute (R558). -/
def State.present (s : State) (h : OpHdr) (slot : Nat) (mk : CoreSt → Plan) : State :=
  let x := h.core.val
  let c := s.core x
  if !s.coreRuns x || c.stall != .none then s
  else
    let off := c.pc + 4 * c.bundle.length
    if s.codeLen x < off + 4 then s.coreTrap x ⟨0x04, 0, 0⟩ 0 false c.pc
    else if 32 ≤ x ∧ !s.mpuAllows (x - 32) (3 * 2 ^ 60 + off) 4 4 then s.coreTrap x ⟨0x15, 4, 3 * 2 ^ 60 + off⟩ 0 false c.pc
    else
      let bad := decide (32 ≤ x) && (slot == 1 || slot == 3 || slot == 4)
      let p := if bad then { planNone slot with badUnit := true } else if c.guardOk h then mk c else planNone slot
      let s := s.setCore x { c with bundle := c.bundle ++ [p] }
      if h.stop then s.issue x else s

end Sys2Proof.Machine
end

