-- ==== Sys2Proof/Machine/Tether.lean ====
section
/-! DEFINITION. The flit layer of the Tether ports and the pair link: training, flits, retry, credits, the packing of
messages, and time exchange (chapter Tether Accelerator Links, R318–R344; R599). Idle flits, which fill every other flit
time, are not recorded as output. -/

namespace Sys2Proof.Machine

/-! A port's state. -/

/-- A port that is DOWN. -/
def portDefault : PortSt :=
  ⟨0xFFF, false, 0, 0, [], 0, [], [], [], [], [0, 0, 0], [0, 0, 0], [0, 0, 0], [0, 0, 0], [0, 0, 0], false, false, false,
   none, 0, 0, []⟩

/-- A port. -/
def State.port (s : State) (n : Nat) : PortSt := Tab.get (fun _ => portDefault) s.ports n

/-- A port set. -/
def State.setPort (s : State) (n : Nat) (p : PortSt) : State := { s with ports := Tab.set (fun _ => portDefault) s.ports n p }

/-- TL_STATUS.STATE (R339). -/
def State.portState (s : State) (n : Nat) : Nat := s.fld (Reg.TL_STATUS n) Fld.TL_STATUS_STATE

/-- A port's state set. -/
def State.setPortState (s : State) (n x : Nat) : State := s.setFld (Reg.TL_STATUS n) Fld.TL_STATUS_STATE x

/-- Whether a port is UP. -/
def State.portUp (s : State) (n : Nat) : Bool := s.portState n == 5

/-- The partition that a port serves (TL_STATUS.OWNER, R382). -/
def State.portServes (s : State) (n : Nat) : Option Nat := asPart (s.fld (Reg.TL_STATUS n) Fld.TL_STATUS_OWNER)

/-- Whether a port switches its owner: the active map names another one (R382). -/
def State.portSwitching (s : State) (n : Nat) : Bool := n < 8 && s.mapEntry (48 + n) != s.fld (Reg.TL_STATUS n) Fld.TL_STATUS_OWNER

/-- Whether a port holds what it receives and shows ECLIPSE (R343, R402). -/
def State.portHeld (s : State) (n : Nat) : Bool :=
  s.computeHeld || (n < 8 && !s.ownerThawed (s.portServes n))

/-! Flits (R320, R321). -/

/-- A 256-byte flit: header, fifteen units, CRC-32C. -/
def State.flitBytes (s : State) (n ftype seq first : Nat) (units : List Bytes) : Bytes :=
  let p := s.port n
  let hdr := ftype + (if s.portHeld n then 16 else 0) + seq % 4096 * 2 ^ 8 + p.rxAck * 2 ^ 20
    + p.freed.getD 0 0 % 4096 * 2 ^ 32 + p.freed.getD 1 0 % 4096 * 2 ^ 44 + p.freed.getD 2 0 % 4096 * 2 ^ 56 + first * 2 ^ 68
  let body := le 12 hdr ++ padTo 240 (units.map (fixLen 16)).flatten
  body ++ le 4 (crc32c body).toNat

/-- A flit sent. -/
def State.sendFlit (s : State) (n ftype seq first : Nat) (units : List Bytes) : State :=
  { s with out := s.out ++ [.flit n (s.flitBytes n ftype seq first units)] }

/-- A control unit sent in a CONTROL flit (R340). -/
def State.sendCtl (s : State) (n : Nat) (u : Bytes) : State := s.sendFlit n 3 0 0 [fixLen 16 u]

/-! Messages (R326–R328, R600). -/

/-- The number that a header's bytes 0–7 spell. -/
def hdrWord (h : MsgHdr) : Nat :=
  let b (x : Bool) (n : Nat) : Nat := if x then 2 ^ n else 0
  h.mtype.toNat + h.cls.toNat * 2 ^ 4 + b h.ordered 6 + b h.ackReq 7 + h.tag.toNat * 2 ^ 8 + h.len.toNat * 2 ^ 20
    + b h.last 27 + h.status.toNat * 2 ^ 32 + h.offset.toNat * 2 ^ 40 + h.part.toNat * 2 ^ 46 + h.kind.toNat * 2 ^ 50

/-- A header's unit. -/
def hdrUnit (h : MsgHdr) : Bytes := le 8 (hdrWord h) ++ le 8 h.arg.toNat

/-- The header that a unit spells. -/
def unitHdr (u : Bytes) : MsgHdr :=
  let w := leAt u 0 8
  let f (lo n : Nat) : Nat := bitsOf w lo n
  { mtype := BitVec.ofNat 4 (f 0 4), cls := BitVec.ofNat 2 (f 4 2), ordered := f 6 1 == 1, ackReq := f 7 1 == 1
    tag := BitVec.ofNat 12 (f 8 12), len := BitVec.ofNat 7 (f 20 7), last := f 27 1 == 1, status := BitVec.ofNat 8 (f 32 8)
    offset := BitVec.ofNat 6 (f 40 6), part := BitVec.ofNat 4 (f 46 4), kind := BitVec.ofNat 2 (f 50 2)
    arg := BitVec.ofNat 64 (leAt u 8 8) }

/-- Message types. -/
def mRead : Nat := 1
def mWrite : Nat := 2
def mMasked : Nat := 3
def mDoorbell : Nat := 4
def mStep : Nat := 5
def mData : Nat := 8
def mAck : Nat := 9

/-- A header with everything zero but its type. -/
def blankHdr (mtype : Nat) : MsgHdr :=
  { mtype := BitVec.ofNat 4 mtype, cls := 0, ordered := false, ackReq := false, tag := 0, len := 0, last := false
    status := 0, offset := 0, part := 0, kind := 0, arg := 0 }

/-- Whether a READ_DATA chunk carries data: status 0 or 1 (R330). -/
def carriesData (h : MsgHdr) : Bool := h.status.toNat < 2

/-- The channel of a message: 0 posted, 1 non-posted, 2 completion. -/
def channelOf (h : MsgHdr) : Nat := if h.mtype.toNat == mRead then 1 else if 8 ≤ h.mtype.toNat then 2 else 0

/-- Units of a message; none for a header that destroys framing (R328). -/
def unitsOf (pair : Bool) (h : MsgHdr) : Option Nat :=
  let t := h.mtype.toNat
  let n := h.len.toNat
  let lenOk := decide (1 ≤ n) && decide (n ≤ 64)
  if pair && h.kind == 3#2 then none
  else if t == mRead then (if lenOk then some 1 else none)
  else if t == mWrite then (if lenOk then some (1 + 4 * n) else none)
  else if t == mMasked then (if lenOk then some 6 else none)
  else if t == mDoorbell || t == mStep || t == mAck then some 1
  else if t == mData then (if lenOk then some (if carriesData h then 1 + 4 * n else 1) else none)
  else none

/-- The units of a message to send. -/
def TlTx.units (m : TlTx) : List Bytes :=
  let mask := if m.h.mtype.toNat == mMasked then [le 16 m.mask.toNat] else []
  let data := (List.range ((m.data.length + 15) / 16)).map (fun i => slice m.data (16 * i) 16)
  hdrUnit m.h :: (mask ++ data)

/-- Element `i` of a list of three counts advanced. -/
def addAt (l : List Nat) (i n : Nat) : List Nat := l.modify i (· + n)

/-- Units of a message freed (R333). -/
def State.freeUnits (s : State) (n : Nat) (h : MsgHdr) (units : Nat) : State :=
  let p := s.port n
  s.setPort n { p with freed := addAt p.freed (channelOf h) units }

/-! Link down (R342). -/

/-- A port goes DOWN: its event, its requests LINK_DOWN, everything received discarded, counts restarted. -/
def State.portDown (s : State) (n : Nat) : State :=
  let p := s.port n
  let req := p.req.map (fun r => if r.status.isNone then { r with status := some 0x100 } else r)
  let up := s.portUp n
  let s := (s.setPort n { portDefault with req := req }).setPortState n 0
  let s := s.setFld (Reg.TL_STATUS n) Fld.TL_STATUS_PEER_ECLIPSE 0
  let s := s.setFld (Reg.TL_EVENT n) Fld.TL_EVENT_LINK_DOWN 1
  match s.portServes n with
  | some o => if up && n < 8 then s.raiseEvent 3 o (le 1 n ++ le 4 (s.reg (Reg.TL_EVENT n)).toNat) else s
  | none => s

/-- The link goes down for a protocol failure (R328). -/
def State.portProtocol (s : State) (n : Nat) : State := (s.setFld (Reg.TL_EVENT n) Fld.TL_EVENT_PROTOCOL 1).portDown n

/-! Retry (R323–R325). -/

/-- Every unacknowledged flit sent again; the sixteenth time in a row takes the link down. -/
def State.resend (s : State) (n : Nat) : State :=
  let p := s.port n
  if !s.portUp n || p.replay.isEmpty then s
  else
    let s := s.bump (Reg.TL_CNT_RETRY n) Fld.TL_CNT_RETRY_COUNT
    if 16 ≤ p.resends + 1 then (s.setFld (Reg.TL_EVENT n) Fld.TL_EVENT_RETRY_EXHAUSTED 1).portDown n
    else
      let s := s.setPort n { p with resends := p.resends + 1 }
      p.replay.foldl (fun t f => t.sendFlit n 1 f.1 f.2.1 f.2.2) s

/-- An ACK: flits up to it leave the replay buffer; an advance clears the count of resends. -/
def State.ackFlits (s : State) (n ack : Nat) : State :=
  let p := s.port n
  match p.replay.findIdx? (fun f => f.1 == ack) with
  | some i => s.setPort n { p with replay := p.replay.drop (i + 1), resends := 0 }
  | none => s

/-- NAK_RECEIVE (R325). -/
def State.nakReceive (s : State) (n ack : Nat) : State := if s.portUp n then (s.ackFlits n ack).resend n else s

/-! Receiving units (R322, R328, R333). -/

/-- A message received: counted, discarded beyond the credit given, recorded and queued otherwise (R643). -/
def State.msgArrive (s : State) (n units : Nat) (h : MsgHdr) (mask : BitVec 64) (data : Bytes) : State :=
  let p := s.port n
  let c := channelOf h
  let s := s.bump (Reg.TL_CNT_RX_MSG n) Fld.TL_CNT_RX_MSG_COUNT
  let size : Nat := if c == 1 then 512 else 2048
  if size < p.rxUnits.getD c 0 + units - p.freed.getD c 0 then
    (s.setFld (Reg.TL_EVENT n) Fld.TL_EVENT_CREDIT_OVERRUN 1).bump (Reg.TL_CNT_DROP n) Fld.TL_CNT_DROP_COUNT
  else
    let s := match s.portServes n with
      | some o => if n < 8 then s.recItem o 4 n (hdrUnit h ++ (if h.mtype.toNat == mMasked then le 16 mask.toNat else []) ++ data) else s
      | none => s
    s.setPort n { p with rxUnits := addAt p.rxUnits c units, rxq := p.rxq ++ [(h, mask, data)] }

/-- The messages that the stream holds whole, taken one after another. -/
def State.parseStream (s : State) (n : Nat) : Nat → State
  | 0 => s
  | fuel + 1 =>
    let p := s.port n
    match p.stream with
    | [] => s
    | u :: rest =>
      let h := unitHdr u
      if h.mtype == 0#4 then State.parseStream (s.setPort n { p with stream := rest }) n fuel
      else
        match unitsOf (n == 8) h with
        | none => s.portProtocol n
        | some k =>
          if p.stream.length < k then s
          else
            let body := (p.stream.take k).drop 1
            let masked := h.mtype.toNat == mMasked
            let mask : BitVec 64 := if masked then BitVec.ofNat 64 (leAt (body.headD []) 0 8) else 0
            let data := (if masked then body.drop 1 else body).flatten
            let s := s.setPort n { p with stream := p.stream.drop k }
            State.parseStream (s.msgArrive n k h mask data) n fuel

/-! Training (R339–R341). -/

/-- The PARAM unit of a port. -/
def State.paramUnit (s : State) (n : Nat) : Bytes :=
  le 1 1 ++ le 1 1 ++ le 1 (if n == 8 then 2 else 0) ++ le 1 (if (s.port n).paramSeen then 1 else 0) ++ le 2 2048 ++ le 2 512
    ++ le 2 2048 ++ le 1 n ++ zeros 5

/-- From PARAM to TIME once both ends have sent and received a valid PARAM with ACK_SEEN and the map is locked. -/
def State.paramDone (s : State) (n : Nat) : State :=
  let p := s.port n
  if s.portState n == 3 && p.paramSeen && p.peerSeen && p.ackSent && s.flag Reg.MF_STATUS Fld.MF_STATUS_MAP_LOCKED then
    (s.setPort n { p with exchDone := 0, exch := none }).setPortState n 4
  else s

/-- PARAM (R332, R340): the check of version, role and credits. -/
def State.param (s : State) (n : Nat) (u : Bytes) : State :=
  if s.portState n != 3 then s
  else
    let adv := [leAt u 4 2, leAt u 6 2, leAt u 8 2]
    let role : Nat := if n == 8 then 2 else 1
    let ok := byteAt u 1 == 1 && byteAt u 2 == role && decide (257 ≤ adv.getD 0 0) && decide (65 ≤ adv.getD 2 0)
      && adv.all (fun x => decide (x ≤ 2048))
    if !ok then s.setFld (Reg.TL_EVENT n) Fld.TL_EVENT_PROTOCOL 1
    else
      let p := s.port n
      let s := s.setPort n { p with adv := adv, paramSeen := true, peerSeen := p.peerSeen || (byteAt u 3).testBit 0 }
      let s := s.setFld (Reg.TL_PEER_CREDIT n) Fld.TL_PEER_CREDIT_P (adv.getD 0 0)
      (s.setFld (Reg.TL_PEER_CREDIT n) Fld.TL_PEER_CREDIT_CPL (adv.getD 2 0)).paramDone n

/-- PARAM_SEND_TIMER (R340). -/
def State.paramSend (s : State) (n : Nat) : State :=
  if s.portState n != 3 then s
  else
    let s := s.sendCtl n (s.paramUnit n)
    let p := s.port n
    (s.setPort n { p with ackSent := p.ackSent || p.paramSeen }).paramDone n

/-- TIME_REQ (R340). -/
def State.timeReq (s : State) (n : Nat) : State :=
  if s.portState n != 4 && s.portState n != 5 then s
  else
    let p := s.port n
    let no := (p.exchNo + 1) % 256
    (s.setPort n { p with exchNo := no, exch := some (no, s.devNs) }).sendCtl n (le 1 2 ++ le 1 no ++ le 8 s.devNs)

/-- The answer to a partner's TIME_REQ (R340). -/
def State.timeAnswer (s : State) (n : Nat) (u : Bytes) : State :=
  s.sendCtl n (le 1 3 ++ le 1 (byteAt u 1) ++ le 8 s.devNs ++ le 6 s.devNs)

/-- The signed value of a register of two's-complement nanoseconds. -/
def sreg16 (x : Nat) : Int := sext 16 x

/-- An integer put into a sorted list. -/
def insertInt (x : Int) : List Int → List Int
  | [] => [x]
  | y :: t => if x ≤ y then x :: y :: t else y :: insertInt x t

/-- The lower median of a list; 0 of an empty one. -/
def medianInt (l : List Int) : Int := (l.foldl (fun a x => insertInt x a) []).getD ((l.length - 1) / 2) 0

/-- TIME_RSP (R340, R341): offset and delay of an exchange, kept unless its delay stands out. -/
def State.timeRsp (s : State) (n : Nat) (u : Bytes) : State :=
  let p := s.port n
  match p.exch with
  | none => s
  | some (no, t1) =>
    if byteAt u 1 != no || (s.portState n != 4 && s.portState n != 5) then s
    else
      let t2 := leAt u 2 8
      let lo := leAt u 10 6
      let t3 : Nat := t2 / 2 ^ 48 * 2 ^ 48 + lo + (if lo < t2 % 2 ^ 48 then 2 ^ 48 else 0)
      let t4 := s.devNs
      let asym := sreg16 (s.fld (Reg.TL_ASYM n) Fld.TL_ASYM_NS)
      let a : Int := Int.ofNat t2 - Int.ofNat t1
      let b : Int := Int.ofNat t4 - Int.ofNat t3
      let offset := Int.fdiv (a - b) 2 - Int.fdiv asym 2
      let delay := Int.fdiv (a + b) 2
      let keep := p.kept.isEmpty || decide (delay ≤ medianInt (p.kept.map Prod.snd) + 20)
      let kept := if keep then ((offset, delay) :: p.kept).take 8 else p.kept
      let s := s.setPort n { p with exch := none, kept := kept, exchDone := p.exchDone + 1 }
      let s := s.setReg64 (Reg.TL_TIME_OFFSET_LO n) (Reg.TL_TIME_OFFSET_HI n) (trunc 64 (medianInt (kept.map Prod.fst)))
      let s := s.setFld (Reg.TL_DELAY n) Fld.TL_DELAY_NS (trunc 16 (medianInt (kept.map Prod.snd)))
      if s.portState n == 4 && decide (8 ≤ p.exchDone + 1) then s.setPortState n 5 else s

/-- SIGNAL_DETECT (R339): lanes are idle until the boot stage LINKS (R596). -/
def State.signalDetect (s : State) (n : Nat) : State :=
  if decide (7 ≤ s.fld Reg.BOOT_STAGE Fld.BOOT_STAGE_STAGE) && !s.pwr.seq && s.portState n == 0 && s.flag (Reg.TL_CTRL n) Fld.TL_CTRL_ENABLE then
    (s.setPort n { portDefault with req := (s.port n).req }).setPortState n 1
  else s

/-- PHY_TRAIN_DONE (R339). -/
def State.trainDone (s : State) (n : Nat) : State :=
  if s.portState n == 1 then (s.setPort n { s.port n with good := 0 }).setPortState n 2 else s

/-- TRAIN_TIMEOUT (R339): a port that has left DOWN and is not UP starts again. -/
def State.trainTimeout (s : State) (n : Nat) : State :=
  if s.portState n == 0 || s.portUp n then s else s.portDown n

/-- A loss that takes a port that is UP to DOWN (R342). -/
def State.portLoss (s : State) (n : Nat) : State := if s.portUp n then s.portDown n else s

/-- ECLIPSE_LONG_TIMEOUT (R344). -/
def State.eclipseLong (s : State) (n : Nat) : State :=
  if s.flag (Reg.TL_STATUS n) Fld.TL_STATUS_PEER_ECLIPSE then
    (s.setFld (Reg.TL_EVENT n) Fld.TL_EVENT_ECLIPSE_LONG 1).alarmFree 3 (Unit.port n) 0 0
  else s

/-! A flit received (R324). -/

/-- A PAYLOAD flit: accepted in sequence, or discarded with one NAK. -/
def State.payload (s : State) (n : Nat) (f : Flit) : State :=
  let p := s.port n
  if f.seq.toNat == (p.rxAck + 1) % 4096 then
    (s.setPort n { p with rxAck := f.seq.toNat, naked := false, stream := p.stream ++ (f.units.map (fixLen 16)).take 15 }).parseStream
      n (p.stream.length + 16)
  else
    let s := s.bump (Reg.TL_CNT_CRC n) Fld.TL_CNT_CRC_COUNT
    if p.naked then s else (s.setPort n { p with naked := true }).sendFlit n 2 0 0 []

/-- A control unit received. -/
def State.control (s : State) (n : Nat) (u : Bytes) : State :=
  match byteAt u 0 with
  | 1 => s.param n u
  | 2 => s.timeAnswer n u
  | 3 => s.timeRsp n u
  | _ => s

/-- FLIT_RECEIVE (R324) up to the acts of the messages that it brings. -/
def State.flitReceive (s : State) (n : Nat) (f : Flit) : State :=
  let st := s.portState n
  if st < 2 then s
  else if !f.crcOk then
    let s := s.bump (Reg.TL_CNT_CRC n) Fld.TL_CNT_CRC_COUNT
    let p := s.port n
    if st == 5 && !p.naked then (s.setPort n { p with naked := true }).sendFlit n 2 0 0 []
    else s.setPort n { p with good := 0 }
  else
    let s := s.setFld (Reg.TL_STATUS n) Fld.TL_STATUS_PEER_ECLIPSE (if f.eclipse then 1 else 0)
    let p := s.port n
    if st == 2 then
      let s := s.setPort n { p with good := p.good + 1 }
      if 64 ≤ p.good + 1 then s.setPortState n 3 else s
    else
      let s := if st == 5 then
          (s.setPort n { p with peerFreed := [f.crP.toNat, f.crNp.toNat, f.crCpl.toNat] }).ackFlits n f.ack.toNat
        else s
      match f.ftype.toNat with
      | 1 => if st == 5 then s.payload n f else s
      | 2 => s.nakReceive n f.ack.toNat
      | 3 => s.control n (f.units.headD [])
      | _ => s

/-! Sending (R322, R331, R337). -/

/-- Whether a message has credit for all its units. -/
def PortSt.credit (p : PortSt) (m : TlTx) : Bool :=
  let c := channelOf m.h
  let used := (p.sent.getD c 0 + 4096 - p.peerFreed.getD c 0 % 4096) % 4096
  decide (used + m.units.length ≤ p.adv.getD c 0)

/-- Whether a message may be taken now: it has credit, no earlier one of its channel waits, and it is no request while
the peer shows ECLIPSE. -/
def State.txReady (s : State) (n i : Nat) (m : TlTx) : Bool :=
  let p := s.port n
  p.credit m
  && (m.first || !(p.txq.take i).any (fun e => channelOf e.h == channelOf m.h))
  && !(channelOf m.h != 2 && s.flag (Reg.TL_STATUS n) Fld.TL_STATUS_PEER_ECLIPSE)

/-- The message to send next: a class-0 chunk first. -/
def State.txNext (s : State) (n : Nat) : Option Nat :=
  let q := (s.port n).txq
  let idx := (List.range q.length).filter (fun i => match q[i]? with | some m => s.txReady n i m | none => false)
  match idx.find? (fun i => match q[i]? with | some m => m.first | none => false) with
  | some i => some i
  | none => idx.head?

/-- Messages taken while their units fit. -/
def State.txTake (s : State) (n room : Nat) : Nat → List Bytes × List Nat → State × (List Bytes × List Nat)
  | 0, acc => (s, acc)
  | fuel + 1, (us, hs) =>
    match s.txNext n with
    | none => (s, (us, hs))
    | some i =>
      match (s.port n).txq[i]? with
      | none => (s, (us, hs))
      | some m =>
        let u := m.units
        if room < us.length + u.length then (s, (us, hs))
        else
          let p := s.port n
          let s := s.setPort n { p with txq := p.txq.eraseIdx i, sent := (addAt p.sent (channelOf m.h) u.length).map (· % 4096) }
          let s := s.bump (Reg.TL_CNT_TX_MSG n) Fld.TL_CNT_TX_MSG_COUNT
          let s := if m.h.mtype.toNat == mData && m.h.last then s.freeUnits n (blankHdr mRead) 1 else s
          State.txTake s n room fuel (us ++ u, hs ++ [us.length])

/-- Units sent as PAYLOAD flits, held in the replay buffer. -/
def State.sendUnits (s : State) (n : Nat) (us : List Bytes) (hs : List Nat) : Nat → Nat → State
  | 0, _ => s
  | fuel + 1, pos =>
    if us.length ≤ pos then s
    else
      let first := match hs.find? (fun h => pos ≤ h && h < pos + 15) with
        | some h => h - pos
        | none => 15
      let u := (us.drop pos).take 15
      let p := s.port n
      let s := (s.setPort n { p with txSeq := (p.txSeq + 1) % 4096, replay := p.replay ++ [(p.txSeq, first, u)] }).sendFlit n 1
        p.txSeq first u
      State.sendUnits s n us hs fuel (pos + 15)

/-- Flits of a slot that are issued up to cycle 247 (R53, R319, R599). -/
def slotFlits (n : Nat) : Nat := if n == 8 then 95 else 48

/-- A slot in which a port sends PAYLOAD flits. -/
def State.portSlot (s : State) (n : Nat) : State :=
  if !s.portUp n || s.portHeld n then s
  else
    let p := s.port n
    let flits := min (slotFlits n) (512 - p.replay.length)
    let (s, us, hs) := s.txTake n (flits * 15) 200 ([], [])
    s.sendUnits n us hs flits 0

/-- A message queued to be sent. -/
def State.tlSend (s : State) (n : Nat) (m : TlTx) : State :=
  let p := s.port n
  s.setPort n { p with txq := p.txq ++ [m] }

/-! The sled's own requests (R327–R330). -/

/-- A tag free on a port. -/
def State.tlTag (s : State) (n : Nat) : Nat :=
  ((List.range 4096).find? (fun t => !(s.port n).req.any (fun r => r.tag == t))).getD 0

/-- Whether a port's owner is replayed, so that its requests go nowhere (R646). -/
def State.portReplays (s : State) (n : Nat) : Bool :=
  match s.portServes n with
  | some p => n < 8 && s.replaying p
  | none => false

/-- A request of the sled queued to be sent. -/
def State.tlRequest (s : State) (n : Nat) (m : TlTx) : State := if s.portReplays n then s else s.tlSend n m

/-- A read of at most 64 lines at an accelerator's address. -/
def State.tlRead (s : State) (n : Nat) (who : HWho) (a lines : Nat) : State :=
  let t := s.tlTag n
  let p := s.port n
  (s.setPort n { p with req := p.req ++ [⟨t, who, false, [], none⟩] }).tlRequest n
    ⟨{ blankHdr mRead with tag := BitVec.ofNat 12 t, len := BitVec.ofNat 7 lines, arg := BitVec.ofNat 64 a }, 0, [], false⟩

/-- A write of whole lines, acknowledged. -/
def State.tlWrite (s : State) (n : Nat) (who : HWho) (a : Nat) (d : Bytes) : State :=
  let t := s.tlTag n
  let p := s.port n
  (s.setPort n { p with req := p.req ++ [⟨t, who, true, [], none⟩] }).tlRequest n
    ⟨{ blankHdr mWrite with
        ackReq := true, tag := BitVec.ofNat 12 t, len := BitVec.ofNat 7 (d.length / 64), arg := BitVec.ofNat 64 a }, 0, d, false⟩

/-- A masked write of one line, acknowledged. -/
def State.tlMasked (s : State) (n : Nat) (who : HWho) (a : Nat) (mask : BitVec 64) (d : Bytes) : State :=
  let t := s.tlTag n
  let p := s.port n
  (s.setPort n { p with req := p.req ++ [⟨t, who, true, [], none⟩] }).tlRequest n
    ⟨{ blankHdr mMasked with ackReq := true, tag := BitVec.ofNat 12 t, len := 1, arg := BitVec.ofNat 64 a }, mask, d, false⟩

/-- READ_DATA (R329, R343): a chunk for a request of the sled; one with an unknown tag is discarded and counted. -/
def State.readData (s : State) (n : Nat) (m : MsgHdr) (data : Bytes) : State :=
  let p := s.port n
  let s := s.freeUnits n m (if carriesData m then 1 + 4 * m.len.toNat else 1)
  match p.req.find? (fun r => r.tag == m.tag.toNat && !r.write && r.status.isNone) with
  | none => s.bump (Reg.TL_CNT_STALE_CPL n) Fld.TL_CNT_STALE_CPL_COUNT
  | some r =>
    let p := s.port n
    let r' := { r with
      got := if carriesData m then r.got ++ [(m.offset.toNat * 64, data)] else r.got
      status := if m.last || !carriesData m then some m.status.toNat else none }
    s.setPort n { p with req := p.req.map (fun x => if x = r then r' else x) }

/-- WRITE_ACK for a request of the sled (R330). -/
def State.writeAck (s : State) (n : Nat) (m : MsgHdr) : State :=
  let p := s.port n
  let s := s.freeUnits n m 1
  match p.req.find? (fun r => r.tag == m.tag.toNat && r.write && r.status.isNone) with
  | none => s.bump (Reg.TL_CNT_STALE_CPL n) Fld.TL_CNT_STALE_CPL_COUNT
  | some r =>
    let p := s.port n
    s.setPort n { p with req := p.req.map (fun x => if x = r then { r with status := some m.status.toNat } else x) }

/-- The outcome of a requester's requests on a port once all of them have ended: the first failing status, and the data
of its reads in order. -/
def State.tlTake (s : State) (n : Nat) (who : HWho) : Option (State × Nat × List (List (Nat × Bytes))) :=
  let p := s.port n
  let mine := p.req.filter (fun r => r.who = who)
  if mine.any (fun r => r.status.isNone) then none
  else
    let bad := (mine.filterMap (fun r => r.status)).find? (fun x => 2 ≤ x)
    some (s.setPort n { p with req := p.req.filter (fun r => !decide (r.who = who)) }, bad.getD 0, mine.map TlReq.got)

end Sys2Proof.Machine
end

