-- ==== Sys2Proof/Machine/PairSend.lean ====
section
/-! DEFINITION. What a primary sends to its partner: descriptors, mirror messages in PAIR slots, and the resync of a
partition (chapter Redundant Pair and Loss Behaviour, R602–R605). -/

namespace Sys2Proof.Machine

/-- Whether the sled runs in pair mode (R40). -/
def State.pairMode (s : State) : Bool := s.flag Reg.PAIR_STATUS Fld.PAIR_STATUS_PAIR_MODE

/-- Whether a partition is mirrored here and not treated as unmirrored (R602). -/
def State.isMirrored (s : State) (p : Nat) : Bool :=
  s.pairMode && s.bit Reg.PAIR_MIRRORED Fld.PAIR_MIRRORED_PARTS p && !s.pair.unmir.contains p

/-- Whether the sled is primary for a partition (PAIR_PRIMARY). -/
def State.isPrimary (s : State) (p : Nat) : Bool := s.bit Reg.PAIR_PRIMARY Fld.PAIR_PRIMARY_PARTS p

/-- PAIR_SYNCED of a partition. -/
def State.isSynced (s : State) (p : Nat) : Bool := s.bit Reg.PAIR_SYNCED Fld.PAIR_SYNCED_PARTS p

/-- PAIR_SYNCED of a partition set. -/
def State.setSynced (s : State) (p : Nat) (b : Bool) : State := s.setBit Reg.PAIR_SYNCED Fld.PAIR_SYNCED_PARTS p b

/-- The pair alarm (R632 bit 7). -/
def State.pairAlarm (s : State) (occ : Nat) : State := s.alarmFree 7 (Unit.port 8) occ 0

/-! Descriptors (R603). -/

/-- The sled's own descriptor of a partition. -/
def State.partDesc (s : State) (p : Nat) : Bytes :=
  let slots := ((List.range 64).filter (fun t => s.entryOf 4 (s.ephEntry 4 t) == .part p)).length
  le 1 5 ++ le 1 0 ++ le 1 p ++ le 1 (s.pkgsOf p).length ++ le 1 (s.clustersOf p).length
    ++ le 4 (s.fld (Reg.PAIR_MIR_FIRST p) Fld.PAIR_MIR_FIRST_GRANULE) ++ le 4 (s.fld (Reg.PAIR_MIR_COUNT p) Fld.PAIR_MIR_COUNT_GRANULES)
    ++ le 1 slots ++ zeros 2

/-- The sled's own descriptor of a namespace. -/
def State.nsDesc (s : State) (n : Nat) : Bytes :=
  le 1 5 ++ le 1 1 ++ le 1 n ++ le 1 (s.nsOwner n) ++ le 1 (if s.lbSize n = 4096 then 1 else 0) ++ le 5 (s.nsLen n) ++ zeros 3
    ++ le 1 (if s.nsState n = 0 then 0 else 1) ++ zeros 2

/-- The partitions and namespaces for which the sled sends descriptors. -/
def State.namedParts (s : State) : List Nat := (List.range 16).filter (fun p => s.bit Reg.PAIR_MIRRORED Fld.PAIR_MIRRORED_PARTS p)
def State.namedNs (s : State) : List Nat := (List.range 64).filter s.nsNamed

/-- Every descriptor sent, once the pair link is UP and after an image read. -/
def State.sendDescs (s : State) : State :=
  if !s.pairMode || !s.portUp 8 then s
  else
    let s := s.namedParts.foldl (fun t p => t.sendCtl 8 (t.partDesc p)) s
    s.namedNs.foldl (fun t n => t.sendCtl 8 (t.nsDesc n)) s

/-! Falling out of sync and resync (R604, R605). -/

/-- Commands that wait for the acknowledgement of a partition's mirror messages wait no longer. -/
def State.mirRelease (s : State) (sel : Nat → Nat → Bool) : State :=
  let gone := (s.pair.acks.filter (fun a => sel a.2.1 a.2.2)).map Prod.fst
  let s := { s with
    pair := { s.pair with acks := s.pair.acks.filter (fun a => !sel a.2.1 a.2.2) }
    stg := { s.stg with cmds := s.stg.cmds.map (fun c => { c with tags := c.tags.filter (fun t => !gone.contains t) }) } }
  if gone.isEmpty then s else s.stgStep

/-- A partition falls out of sync: its queued messages are discarded, the writes that wait released (R604). -/
def State.mirFall (s : State) (p : Nat) : State :=
  let s := s.setSynced p false
  let s := { s with pair := { s.pair with
    mq := Tab.erase s.pair.mq p, waiting := Tab.erase s.pair.waiting p, resync := Tab.erase s.pair.resync p } }
  let s := s.cartKill (fun w => match w with
    | .resync n _ => s.nsOwner n == p
    | _ => false)
  s.mirRelease (fun q _ => q == p)

/-- A resync begun (R605), where the sled mirrors the partition as primary and the partner is there. -/
def State.resyncStart (s : State) (p : Nat) : State :=
  if s.isMirrored p && s.isPrimary p && s.pair.agreed.contains p && !s.pair.lost && !s.isSynced p
      && !s.pair.resync.any (fun e => e.1 == p) then
    { s with pair := { s.pair with
      resync := Tab.ins s.pair.resync p (s.fld (Reg.PAIR_MIR_FIRST p) Fld.PAIR_MIR_FIRST_GRANULE) } }
  else s

/-- The mirrored namespaces of a partition, and the 4 KiB blocks of their data. -/
def State.mirNs (s : State) (p : Nat) : List Nat :=
  (List.range 64).filter (fun n => s.nsOwner n == p && s.nsNamed n && s.pair.nsAgreed.contains n && !s.pair.nsUnmir.contains n)

/-- Block `j` of the namespaces of a resync, counted over all of them. -/
def State.resyncBlock (s : State) : List Nat → Nat → Option (Nat × Nat)
  | [], _ => none
  | n :: t, j => if j < s.nsLen n - 1 then some (n, j) else State.resyncBlock s t (j - (s.nsLen n - 1))

/-- Lines of a granule queued as KIND 2 messages of 64 lines each; a line that fails is left out. -/
def State.resyncLines (s : State) (p : Nat) : Nat → Nat → State
  | 0, _ => s
  | k + 1, a =>
    let (s, st, d) := s.readBytes (.part p) a 4096
    State.resyncLines (if st.good then s.mirQueue p ⟨2, a, 0, d, 0⟩ else s) p k (a + 4096)

/-- A block's plain text queued as a KIND 1 message of a resync. -/
def State.resyncGot (s : State) (n b : Nat) (ct : Bytes) : State :=
  let p := s.nsOwner n
  if !s.pair.resync.any (fun e => e.1 == p) then s
  else
    let z := s.lbSize n
    let j := b - s.nsBase n - 1
    match s.xtsKey p 1 n with
    | (s, .inl _) => s
    | (s, .inr key) =>
      let (s, d) := s.xts p Client.storage true key z (j * 4096 / z) (fixLen 4096 ct)
      (s.stgMirror p n (4096 * j) 2 d).1

/-- The next step of a resync: a granule, or a block of a namespace from the write buffer or the cartridge. -/
def State.resyncNext (s : State) (p : Nat) : State :=
  match s.pair.resync.find? (fun e => e.1 == p) with
  | none => s
  | some (_, next) =>
    let first := s.fld (Reg.PAIR_MIR_FIRST p) Fld.PAIR_MIR_FIRST_GRANULE
    let count := s.fld (Reg.PAIR_MIR_COUNT p) Fld.PAIR_MIR_COUNT_GRANULES
    let s' := { s with pair := { s.pair with resync := Tab.ins s.pair.resync p (next + 1) } }
    if next < first + count then s'.resyncLines p 16 (65536 * next)
    else
      match s.resyncBlock (s.mirNs p) (next - (first + count)) with
      | none => s
      | some (n, j) =>
        let b := s.nsBase n + 1 + j
        match s.bufFind b with
        | some x => if x.mask = 255 then s'.resyncGot n b x.data else s'.cartAdd 1 p (.read b 1) (.resync n b)
        | none => s'.cartAdd 1 p (.read b 1) (.resync n b)

/-- Whether a resync has copied everything. -/
def State.resyncEnded (s : State) (p : Nat) : Bool :=
  match s.pair.resync.find? (fun e => e.1 == p) with
  | none => false
  | some (_, next) =>
    let first := s.fld (Reg.PAIR_MIR_FIRST p) Fld.PAIR_MIR_FIRST_GRANULE
    let count := s.fld (Reg.PAIR_MIR_COUNT p) Fld.PAIR_MIR_COUNT_GRANULES
    decide (first + count ≤ next) && (s.resyncBlock (s.mirNs p) (next - (first + count))).isNone
      && !s.stg.cart.any (fun c => match c.who with
        | .resync n _ => s.nsOwner n == p
        | _ => false)

/-! Namespaces treated as unmirrored (R602). -/

/-- A namespace treated as unmirrored: its writes complete at the local buffer alone. -/
def State.nsUnmirror (s : State) (n : Nat) : State :=
  let s := { s with pair := { s.pair with nsUnmir := s.pair.nsUnmir.filter (· != n) ++ [n], nsAgreed := s.pair.nsAgreed.filter (· != n) } }
  ((s.setFld Reg.PAIR_EVENT Fld.PAIR_EVENT_BAD_CONFIG 1).pairAlarm 0).mirRelease (fun _ m => m == n)

/-- A partition treated as unmirrored. -/
def State.partUnmirror (s : State) (p : Nat) : State :=
  let s := s.mirFall p
  let s := { s with pair := { s.pair with unmir := s.pair.unmir.filter (· != p) ++ [p], agreed := s.pair.agreed.filter (· != p) } }
  (s.setFld Reg.PAIR_EVENT Fld.PAIR_EVENT_BAD_CONFIG 1).pairAlarm 0

/-- MIRROR_DESC (R603): a descriptor compared with the sled's own. -/
def State.mirrorDesc (s : State) (u : Bytes) : State :=
  if !s.pairMode then s
  else
    let u := fixLen 16 u
    let i := byteAt u 2
    if byteAt u 1 = 0 then
      let p := i % 16
      if s.bit Reg.PAIR_MIRRORED Fld.PAIR_MIRRORED_PARTS p && s.partDesc p == u && decide (0 < byteAt u 13) then
        ({ s with pair := { s.pair with agreed := s.pair.agreed.filter (· != p) ++ [p], unmir := s.pair.unmir.filter (· != p) } }).resyncStart p
      else s.partUnmirror p
    else
      let n := i % 64
      if s.nsNamed n && s.nsDesc n == u && byteAt u 13 == 1 then
        { s with pair := { s.pair with nsAgreed := s.pair.nsAgreed.filter (· != n) ++ [n], nsUnmir := s.pair.nsUnmir.filter (· != n) } }
      else s.nsUnmirror n

/-- MIRROR_DESC_TIMEOUT (R603): what has no descriptor 1 ms after UP is a mismatch. -/
def State.descTimeout (s : State) : State :=
  if !s.pairMode || !s.portUp 8 then s
  else
    let s := (s.namedParts.filter (fun p => !s.pair.agreed.contains p && !s.pair.unmir.contains p)).foldl State.partUnmirror s
    (s.namedNs.filter (fun n => !s.pair.nsAgreed.contains n && !s.pair.nsUnmir.contains n)).foldl State.nsUnmirror s

/-- The pair link has reached UP: comparisons start anew. -/
def State.pairUp (s : State) : State :=
  let s := (List.range 16).foldl (fun t p => if t.isPrimary p && t.isSynced p then t.mirFall p else t) s
  ({ s with pair := { s.pair with agreed := [], nsAgreed := [], unmir := [], nsUnmir := [] } }).sendDescs

/-- What follows a command on a port that may have brought the pair link UP. -/
def State.pairAfter (s t : State) : State := if !s.portUp 8 && t.portUp 8 then t.pairUp else t

/-! The PAIR slot (R599, R602). -/

/-- A mirror message as a message of the pair link. -/
def MirMsg.tx (p : Nat) (m : MirMsg) : TlTx :=
  let masked := m.kind == 0 && m.mask != 2 ^ 64 - 1
  ⟨{ blankHdr (if masked then mMasked else mWrite) with
      ackReq := m.kind == 1, tag := BitVec.ofNat 12 m.tag, len := BitVec.ofNat 7 (m.data.length / 64)
      part := BitVec.ofNat 4 p, kind := BitVec.ofNat 2 m.kind, arg := BitVec.ofNat 64 m.arg },
   BitVec.ofNat 64 m.mask, m.data, false⟩

/-- Writes that wait move into the queue while the share has room (R604). -/
def State.mirRefill (s : State) (p : Nat) : Nat → State
  | 0 => s
  | fuel + 1 =>
    let q := Tab.get (fun _ => []) s.pair.mq p
    match Tab.get (fun _ => []) s.pair.waiting p with
    | [] => s
    | m :: t =>
      if mirBytes q + m.data.length ≤ s.fld (Reg.PAIR_MQ_SHARE p) Fld.PAIR_MQ_SHARE_MIB * 2 ^ 20 then
        State.mirRefill { s with pair := { s.pair with
          mq := Tab.set (fun _ => []) s.pair.mq p (q ++ [m]), waiting := Tab.set (fun _ => []) s.pair.waiting p t } } p fuel
      else s

/-- Messages of a partition handed to the link while units of a slot are left. -/
def State.mirSend (s : State) (p : Nat) : Nat → Nat → State
  | 0, _ => s
  | fuel + 1, room =>
    match Tab.get (fun _ => []) s.pair.mq p with
    | [] => s
    | m :: t =>
      let x := m.tx p
      if x.units.length ≤ room then
        State.mirSend (({ s with pair := { s.pair with mq := Tab.set (fun _ => []) s.pair.mq p t } }).tlSend 8 x) p fuel
          (room - x.units.length)
      else s

/-- A PAIR slot given to a partition. -/
def State.pairSlot (s : State) (p : Nat) : State :=
  if !s.portUp 8 || s.portHeld 8 then s
  else
    let s := if (Tab.get (fun _ => []) s.pair.mq p).isEmpty then s.resyncNext p else s
    ((s.mirSend p 2000 (slotFlits 8 * 15)).mirRefill p 70000).portSlot 8

/-- Whether a partition has work on the PAIR row. -/
def State.pairWork (s : State) (p : Nat) : Bool :=
  !(Tab.get (fun _ => []) s.pair.mq p).isEmpty || s.pair.resync.any (fun e => e.1 == p)
    || (s.port 8).txq.any (fun m => m.h.part.toNat == p)

end Sys2Proof.Machine
end

