-- ==== Sys2Proof/Machine/Eth.lean ====
section
/-! DEFINITION. Ethernet: the MAC's checks, extraction, prefix match and rules, the slow path, shaper queues and the
egress scheduler (chapter Ethernet Ports, Classification and Shaping). A frame's bytes run from its destination address
to the byte before its FCS. -/

namespace Sys2Proof.Machine

/-! Ports (R29, R410–R413). -/

/-- Ports of a mode, and bytes that a port carries in a slot (R54). -/
def ethPorts (mode : Nat) : Nat := if mode = 0 then 2 else if mode = 1 then 4 else 8
def ethSlotBytes (mode : Nat) : Nat := if mode = 0 then 25000 else if mode = 1 then 12500 else 6250

/-- The cage of a port. -/
def State.ethCage (s : State) (n : Nat) : Nat := n / (ethPorts s.eth.mode / 2)

/-- Whether a port exists and its link is up. -/
def State.ethUp (s : State) (n : Nat) : Bool :=
  decide (n < ethPorts s.eth.mode) && s.bit Reg.ETH_STATUS Fld.ETH_STATUS_LINK_UP n

/-- MODE_CHANGING ends once every port whose cage holds a module that may run is up. -/
def State.ethTrained (s : State) : State :=
  let all := (List.range (ethPorts s.eth.mode)).all (fun n =>
    !s.bit Reg.ETH_STATUS Fld.ETH_STATUS_CAGE_PRESENT (s.ethCage n)
      || s.bit Reg.ETH_STATUS Fld.ETH_STATUS_CAGE_LOWPOWER (s.ethCage n) || s.bit Reg.ETH_STATUS Fld.ETH_STATUS_LINK_UP n)
  if all then s.setFld Reg.ETH_STATUS Fld.ETH_STATUS_MODE_CHANGING 0 else s

/-- A write of ETH_CTRL (R411): MODE 3 is discarded; APPLY takes every port down to retrain in the new mode. -/
def State.ethCtrl (s : State) (v : Word) : State :=
  if v.toNat % 4 = 3 then s
  else
    let s := s.setFld Reg.ETH_CTRL Fld.ETH_CTRL_MODE (v.toNat % 4)
    if v.getLsbD 2 then
      let s := { s with eth := { s.eth with mode := v.toNat % 4, busy := [] } }
      ((s.setFld Reg.ETH_STATUS Fld.ETH_STATUS_LINK_UP 0).setFld Reg.ETH_STATUS Fld.ETH_STATUS_MODE_CHANGING 1).ethTrained
    else s

/-- ETH_LINK_CHANGE (R413): a link comes up only where the port exists and its cage holds a module that may run. -/
def State.ethLink (s : State) (n : Nat) (up : Bool) : State :=
  let c := s.ethCage n
  if up && (!decide (n < ethPorts s.eth.mode) || !s.bit Reg.ETH_STATUS Fld.ETH_STATUS_CAGE_PRESENT c
      || s.bit Reg.ETH_STATUS Fld.ETH_STATUS_CAGE_LOWPOWER c) then s
  else ((s.setBit Reg.ETH_STATUS Fld.ETH_STATUS_LINK_UP n up).tailEvent (Unit.eth n) 5 (if up then 1 else 0) 0).ethTrained

/-- A port's MAC address as it stands in a frame. -/
def State.ethMac (s : State) (n : Nat) : Bytes :=
  be 2 (s.fld (Reg.ETH_MAC_HI n) Fld.ETH_MAC_HI_ADDR) ++ be 4 (s.fld (Reg.ETH_MAC_LO n) Fld.ETH_MAC_LO_ADDR)

/-- The outcome of the MAC's checks: the counter that a drop advances (R412). -/
def State.macDrop (s : State) (n : Nat) (f : Frame) : Option (Nat × Fld) :=
  let len := f.bytes.length + 4
  if !f.fcsOk then some (Reg.ETH_RX_DROP_FCS n, Fld.ETH_RX_DROP_FCS_COUNT)
  else if len < 64 || 9216 < len then some (Reg.ETH_RX_DROP_SIZE n, Fld.ETH_RX_DROP_SIZE_COUNT)
  else if beAt f.bytes 12 2 == 0x8808 then some (Reg.ETH_RX_DROP_CTRL n, Fld.ETH_RX_DROP_CTRL_COUNT)
  else if f.bytes.take 6 != s.ethMac n && beAt f.bytes 0 2 != 0x3333 then some (Reg.ETH_RX_DROP_DMAC n, Fld.ETH_RX_DROP_DMAC_COUNT)
  else none

/-! Extraction (R414–R416). -/

/-- The bytes that a tag adds. -/
def tagLen (b : Bytes) : Nat := if beAt b 12 2 == 0x8100 then 4 else 0

/-- A frame's EtherType behind its tag. -/
def etherType (b : Bytes) : Nat := beAt b (12 + tagLen b) 2

/-- Whether the destination address is multicast. -/
def ip6Multicast (b : Bytes) : Bool := byteAt b (38 + tagLen b) == 0xFF

/-- A frame's shape code (R414). -/
def shapeOf (b : Bytes) : Nat :=
  let t := tagLen b
  let e := etherType b
  let nh := byteAt b (20 + t)
  let dbl := t == 4 && (e == 0x8100 || e == 0x88A8)
  let raw : Nat :=
    if dbl then 6
    else if e == 0x0800 then 4
    else if e != 0x86DD then 5
    else if nh == 44 then 2
    else if nh == 0 || nh == 43 || nh == 60 || (135 ≤ nh && nh ≤ 140) then 3
    else if nh != 17 || ip6Multicast b || beAt b (60 + t) 2 == 0 then 1
    else 0
  let need : Nat := if raw == 0 || (raw == 1 && nh == 17) then 62 + t else if 4 ≤ raw then 14 + t else 54 + t
  if b.length < need then 7 else raw

/-- A field that a frame does not have. -/
def noField : Nat := 0xFFFFFFFF

/-- Whether a frame of a shape has an IPv6 header. -/
def hasIp6 (shape : Nat) : Bool := decide (shape < 4)

/-- The field that a comparator selects (R415). -/
def ethField (n : Nat) (b : Bytes) (sel : Nat) : Nat :=
  let t := tagLen b
  let sh := shapeOf b
  let ip (x : Nat) : Nat := if hasIp6 sh then x else noField
  let udp (x : Nat) : Nat := if sh == 0 then x else noField
  match sel with
  | 1 => n
  | 2 => if t == 4 then beAt b 14 2 % 4096 else 0x1000
  | 3 => if sh == 7 && decide (b.length < 14 + t) then noField else etherType b
  | 4 => sh
  | 5 => ip (beAt b (14 + t) 2 / 16 % 256)
  | 6 => ip (beAt b (14 + t) 4 % 2 ^ 20)
  | 7 => ip (byteAt b (20 + t))
  | 8 => ip (byteAt b (21 + t))
  | 9 => ip (beAt b (22 + t) 4)
  | 10 => ip (beAt b (26 + t) 4)
  | 11 => ip (beAt b (30 + t) 4)
  | 12 => ip (beAt b (34 + t) 4)
  | 13 => ip (beAt b (38 + t) 4)
  | 14 => ip (beAt b (42 + t) 4)
  | 15 => ip (beAt b (46 + t) 4)
  | 16 => ip (beAt b (50 + t) 4)
  | 17 => udp (beAt b (54 + t) 2)
  | 18 => udp (beAt b (56 + t) 2)
  | 19 => udp (beAt b (58 + t) 2)
  | 20 => udp (beAt b (62 + t) 4)
  | 21 => udp (beAt b (66 + t) 4)
  | 22 => udp (beAt b (70 + t) 4)
  | 23 => udp (beAt b (74 + t) 4)
  | 24 => b.length + 4
  | _ => noField

/-- The sum of 16-bit words of a byte string, network order. -/
def sum16 : Bytes → Nat
  | [] => 0
  | [a] => a.toNat * 256
  | a :: b :: t => a.toNat * 256 + b.toNat + sum16 t

/-- Folded to 16 bits in ones'-complement arithmetic. -/
def fold16 (n : Nat) : Nat :=
  let a := n % 65536 + n / 65536
  a % 65536 + a / 65536

/-- Whether a frame of shape 0 has a right UDP checksum and IPv6 payload length (R416). -/
def udpOk (b : Bytes) : Bool :=
  let t := tagLen b
  let plen := beAt b (18 + t) 2
  let ulen := beAt b (58 + t) 2
  plen == ulen && decide (8 ≤ ulen) && decide (54 + t + ulen ≤ b.length)
    && fold16 (sum16 (slice b (22 + t) 32) + ulen + 17 + sum16 (slice b (54 + t) ulen)) == 0xFFFF

/-! Partition and rules (R417–R421). -/

/-- The partition whose prefix a frame's destination has. -/
def State.ethPart (s : State) (b : Bytes) : Option Nat :=
  let t := tagLen b
  let hi := beAt b (38 + t) 4
  let lo := beAt b (42 + t) 4
  if !hasIp6 (shapeOf b) then none
  else (List.range 16).find? (fun p =>
    s.flag (Reg.ETH_PART_CFG p) Fld.ETH_PART_CFG_PFX_EN && !s.isStandby p && s.reg (Reg.ETH_PFX_HI p) == BitVec.ofNat 32 hi
      && s.reg (Reg.ETH_PFX_LO p) == BitVec.ofNat 32 lo)

/-- Whether comparator `i` of a rule matches, and whether its selector is reserved. -/
def State.ruleCmp (s : State) (n : Nat) (b : Bytes) (r i : Nat) : Bool × Bool :=
  let sel := s.fld (Reg.ETH_RULE_SEL r i) Fld.ETH_RULE_SEL_SEL
  if sel = 0 then (true, false)
  else if 25 ≤ sel then (false, true)
  else
    let x := ethField n b sel
    (decide (s.fld (Reg.ETH_RULE_LOW r i) Fld.ETH_RULE_LOW_LOW ≤ x) && decide (x ≤ s.fld (Reg.ETH_RULE_HIGH r i) Fld.ETH_RULE_HIGH_HIGH),
     false)

/-- The first rule of a range that decides a frame; BAD_RULE where a reserved selector is evaluated. -/
def State.ruleSearch (s : State) (n : Nat) (b : Bytes) : Nat → Nat → State × Option Nat
  | 0, _ => (s, none)
  | k + 1, r =>
    if !s.flag (Reg.ETH_RULE_CTRL r) Fld.ETH_RULE_CTRL_VALID then State.ruleSearch s n b k (r + 1)
    else
      let c := (List.range 4).map (s.ruleCmp n b r)
      let s := if c.any Prod.snd then s.setFld Reg.ETH_RULE_STATUS Fld.ETH_RULE_STATUS_BAD_RULE 1 else s
      if c.all Prod.fst then (s, some r) else State.ruleSearch s n b k (r + 1)

/-- Bytes of a partition's ingress share in use. -/
def State.rxOcc (s : State) (p : Nat) : Nat :=
  ((s.eth.rx.filter (fun f => f.part == p)).map (fun f => f.bytes.length + 4)).sum

/-- The slow path's ring of a share (16 is the device's). -/
def State.slowRing (s : State) (share : Nat) : List SlowFrame := Tab.get (fun _ => []) s.eth.slow share

/-- A ring set. -/
def State.setSlow (s : State) (share : Nat) (l : List SlowFrame) : State :=
  { s with eth := { s.eth with slow := Tab.set (fun _ => []) s.eth.slow share l } }

/-- A slow-path drop counted. -/
def State.slowDrop (s : State) (share : Nat) : State :=
  if share < 16 then s.bump (Reg.ETH_RX_DROP_SLOW share) Fld.ETH_RX_DROP_SLOW_COUNT
  else s.bump Reg.ETH_RX_DROP_SLOW_DEV Fld.ETH_RX_DROP_SLOW_DEV_COUNT

/-- A frame to the slow path of a share (R422). -/
def State.toSlow (s : State) (share : Nat) (f : SlowFrame) : State :=
  let l := s.slowRing share
  if (if share < 16 then 64 else 1024) ≤ l.length || f.again then s.slowDrop share
  else s.setSlow share (l ++ [f])

/-- A frame dropped by rule or default. -/
def State.ruleDrop (s : State) (p : Nat) : State := s.bump (Reg.ETH_RX_DROP_RULE p) Fld.ETH_RX_DROP_RULE_COUNT

/-- A frame that rules decide for a partition (R418, R419, R643). -/
def State.ethDecide (s : State) (p : Nat) (f : SlowFrame) : State :=
  let first := s.fld (Reg.ETH_RULE_SHARE p) Fld.ETH_RULE_SHARE_FIRST
  let count := s.fld (Reg.ETH_RULE_SHARE p) Fld.ETH_RULE_SHARE_COUNT
  let (s, hit) := s.ruleSearch f.port f.bytes count first
  match hit with
  | none =>
    if s.fld (Reg.ETH_PART_CFG p) Fld.ETH_PART_CFG_DEFAULT == 2 then s.toSlow p f else s.ruleDrop p
  | some r =>
    let s := s.bump (Reg.ETH_RULE_HITS r) Fld.ETH_RULE_HITS_COUNT
    match s.fld (Reg.ETH_RULE_CTRL r) Fld.ETH_RULE_CTRL_ACTION with
    | 0 => s.ruleDrop p
    | 1 =>
      if shapeOf f.bytes == 0 then
        let q := s.fld (Reg.ETH_RULE_CTRL r) Fld.ETH_RULE_CTRL_QUEUE
        let c := s.fld (Reg.ETH_RULE_CTRL r) Fld.ETH_RULE_CTRL_CLASS
        let s := s.recItem p 3 f.port (le 2 q ++ le 2 c ++ f.bytes)
        { s with eth := { s.eth with rx := s.eth.rx ++ [⟨p, q, c, s.now, f.bytes⟩] } }
      else s.toSlow p f
    | 2 => s.toSlow p f
    | _ => (s.setFld Reg.ETH_RULE_STATUS Fld.ETH_RULE_STATUS_BAD_RULE 1).ruleDrop p

/-- Extraction, prefix match and rule search (R414–R421, R429, R646); a reinjected frame must keep its share (R423). -/
def State.ethClassify (s : State) (f : SlowFrame) (entered : Option Nat) : State :=
  let sh := shapeOf f.bytes
  if sh == 0 && !udpOk f.bytes then s.bump (Reg.ETH_RX_DROP_CSUM f.port) Fld.ETH_RX_DROP_CSUM_COUNT
  else
    let part := if sh != 0 && ip6Multicast f.bytes && hasIp6 sh then none else s.ethPart f.bytes
    let moved := entered.isSome && entered != some (part.getD 16)
    if moved then s.slowDrop (entered.getD 16)
    else
      match part with
      | none => s.toSlow 16 f
      | some p =>
        if s.flag Reg.ECL_STATUS Fld.ECL_STATUS_ACTIVE then s.bump (Reg.ETH_RX_DROP_ECLIPSE p) Fld.ETH_RX_DROP_ECLIPSE_COUNT
        else if s.replaying p then s.ruleDrop p
        else if s.fld (Reg.ETH_RX_SHARE p) Fld.ETH_RX_SHARE_UNITS * 65536 < s.rxOcc p + f.bytes.length + 4 then
          s.bump (Reg.ETH_RX_DROP_FULL p) Fld.ETH_RX_DROP_FULL_COUNT
        else s.ethDecide p f

/-- A frame received during a global stop: kept while its port's first 64 KiB last, dropped beyond them (R639). -/
def State.ethKeep (s : State) (n : Nat) (b : Bytes) : State :=
  let l := Tab.get (fun _ => []) s.dbg.capEth n
  if 65536 < stagedBytes l + b.length then s
  else { s with dbg := { s.dbg with capEth := Tab.set (fun _ => []) s.dbg.capEth n (l ++ [(s.orbitN, b)]) } }

/-- ETH_FRAME_RECEIVE (R412, R639). -/
def State.ethReceive (s : State) (n : Nat) (f : Frame) : State :=
  if !s.ethUp n then s
  else if s.flag Reg.DBG_STATUS Fld.DBG_STATUS_STOPPED then s.ethKeep n f.bytes
  else
    let s := s.bump (Reg.ETH_RX_FRAMES n) Fld.ETH_RX_FRAMES_COUNT
    match s.macDrop n f with
    | some (k, fld) => s.bump k fld
    | none => s.ethClassify ⟨n, f.bytes, false⟩ none

/-! The slow path (R422, R423). -/

/-- A frame put on a shaper queue. -/
def State.shpPush (s : State) (q : Nat) (b : Bytes) : State :=
  let l := Tab.get (fun _ => []) s.eth.q q
  let head := if l.isEmpty then Tab.set (fun _ => 0) s.eth.head q s.now else s.eth.head
  { s with eth := { s.eth with q := Tab.set (fun _ => []) s.eth.q q (l ++ [b]), head := head } }

/-- REINJECT (R423). -/
def State.reinject (s : State) (share : Nat) (f : SlowFrame) : State := s.ethClassify { f with again := true } (some share)

/-- The frame that complete fragments make: the head with its next header and payload length restored. -/
def FragSet.frame (g : FragSet) (total : Nat) : Bytes :=
  let t := tagLen g.head
  let body := g.parts.foldl (fun b x => overlay b x.1 x.2) (zeros total)
  overlay (overlay g.head (18 + t) (be 2 total)) (20 + t) (le 1 g.nh) ++ body

/-- Whether fragments cover a datagram. -/
def FragSet.covers (g : FragSet) (total : Nat) : Bool :=
  (List.range (total / 8 + 1)).all (fun i =>
    decide (total ≤ 8 * i) || g.parts.any (fun x => decide (x.1 ≤ 8 * i) && decide (8 * i < x.1 + x.2.length)))

/-- A fragment taken into reassembly; a whole datagram of at most 9,216 bytes is reinjected (R422). -/
def State.reassemble (s : State) (share : Nat) (f : SlowFrame) : State :=
  let b := f.bytes
  let t := tagLen b
  if shapeOf b != 2 then s.slowDrop share
  else
    let plen := beAt b (18 + t) 2
    let key := slice b (22 + t) 32 ++ slice b (58 + t) 4
    let off := beAt b (56 + t) 2 / 8 * 8
    let more := beAt b (56 + t) 2 % 2 == 1
    let data := slice b (62 + t) (plen - 8)
    let old := s.eth.frags.find? (fun g => g.share == share && g.key == key)
    let g : FragSet := old.getD ⟨share, key, s.now, [], 0, [], none⟩
    let g := { g with
      parts := g.parts ++ [(off, data)]
      head := if off = 0 then b.take (54 + t) else g.head
      nh := if off = 0 then byteAt b (54 + t) else g.nh
      total := if more then g.total else some (off + data.length) }
    let rest := s.eth.frags.filter (fun x => !(x.share == share && x.key == key))
    let s := { s with eth := { s.eth with frags := rest } }
    match g.total with
    | some n =>
      if g.covers n && !g.head.isEmpty then
        if 9216 < n + g.head.length + 4 then s.slowDrop share
        else s.reinject share ⟨f.port, g.frame n, true⟩
      else { s with eth := { s.eth with frags := rest ++ [g] } }
    | none => { s with eth := { s.eth with frags := rest ++ [g] } }

/-- SLOW_PATH_FRAME (R422): firmware takes the oldest frame of a share. -/
def State.slowFrame (s : State) (share : Nat) (act : SlowAct) : State :=
  match s.slowRing share with
  | [] => s
  | f :: t =>
    let s := s.setSlow share t
    match act with
    | .answer reply => s.shpPush 511 reply
    | .reassemble => s.reassemble share f
    | .reinject => s.reinject share f
    | .drop => s

/-- FRAGMENT_TIMEOUT (R422): fragments older than 1 ms are dropped. -/
def State.fragTimeout (s : State) (share : Nat) : State :=
  let late (g : FragSet) : Bool := g.share == share && decide (g.since + 2048000 ≤ s.now)
  let n := (s.eth.frags.filter late).length
  let s := { s with eth := { s.eth with frags := s.eth.frags.filter (fun g => !late g) } }
  if n = 0 then s else s.slowDrop share

/-- A write of a rule's control word (R420). -/
def State.ruleCtrl (s : State) (r : Nat) (v : Word) : State := s.setReg (Reg.ETH_RULE_CTRL r) (v &&& 0xFF1F)

/-- A write of another word of a rule: discarded while the rule is live (R420). -/
def State.ruleWord (s : State) (r k : Nat) (v : Word) : State :=
  if s.flag (Reg.ETH_RULE_CTRL r) Fld.ETH_RULE_CTRL_VALID then s.setFld Reg.ETH_RULE_STATUS Fld.ETH_RULE_STATUS_LIVE_WRITE 1
  else s.setReg k v

/-! Shaping (R424–R427). -/

/-- The credit of a queue. -/
def State.shpCredit (s : State) (q : Nat) : Int := sext 25 (s.fld (Reg.ETH_SHP_CREDIT q) Fld.ETH_SHP_CREDIT_CREDIT)

/-- A queue's credit set. -/
def State.setCredit (s : State) (q : Nat) (c : Int) : State := s.setFld (Reg.ETH_SHP_CREDIT q) Fld.ETH_SHP_CREDIT_CREDIT (trunc 25 c)

/-- The refill of a queue in cycle 0 of an orbit (R425). -/
def State.shpRefill (s : State) (q : Nat) : State :=
  let r := s.fld (Reg.ETH_SHP_REFILL q) Fld.ETH_SHP_REFILL_BYTES
  let b := s.fld (Reg.ETH_SHP_BURST q) Fld.ETH_SHP_BURST_BYTES
  let c := s.shpCredit q
  if r = 0 ∧ c = 0 then s else s.setCredit q (min (b : Int) (c + r))

/-- The partition whose range holds a queue; firmware's queue belongs to none. -/
def State.shpOwner (s : State) (q : Nat) : Option Nat :=
  if q = 511 then none
  else (List.range 16).find? (fun p =>
    let f := s.fld (Reg.ETH_Q_SHARE p) Fld.ETH_Q_SHARE_FIRST
    decide (f ≤ q) && decide (q < f + s.fld (Reg.ETH_Q_SHARE p) Fld.ETH_Q_SHARE_COUNT))

/-- Whether an entry of the EGR row has a holder of its own for its run: consecutive slots of one owner (R53). -/
def State.egrRun (s : State) (slot : Nat) : Nat → Nat
  | 0 => 0
  | k + 1 =>
    if s.ephEntry 0 (slot % 64) == s.ephEntry 0 ((slot + 1) % 64) then 1 + State.egrRun s (slot + 1) k else 1

/-- Slots left in the run that holds a slot, itself included: a lent or Free slot is a run of its own. -/
def State.egrLeft (s : State) : Nat :=
  let slot := s.tm.cycle / 256
  match s.holderOf 0 with
  | .owner p => if s.entryOf 0 (s.ephEntry 0 slot) == .part p.val then s.egrRun slot 64 else 1
  | .housekeeping => if s.entryOf 0 (s.ephEntry 0 slot) == .housekeeping then s.egrRun slot 64 else 1
  | _ => 1

/-- The longest run of consecutive EGR slots that a partition owns (R54). -/
def State.egrLongest (s : State) (p : Nat) : Nat :=
  (List.range 64).foldl (fun m t =>
    if s.entryOf 0 (s.ephEntry 0 t) == .part p then max m (min 64 (s.egrRun t 64)) else m) 0

/-- Cycles that a frame of some bytes takes on a port, with 20 bytes of preamble and gap (R53). -/
def State.frameCycles (s : State) (len : Nat) : Nat :=
  ((len + 24) * 256 + ethSlotBytes s.eth.mode - 1) / ethSlotBytes s.eth.mode

/-- Whom the EGR slot serves: the queues of a partition, or firmware's. -/
def State.egrShare (s : State) : Option Nat :=
  match s.holderOf 0 with
  | .owner p => some p.val
  | .borrower p => some p.val
  | .housekeeping => some 16
  | .idle => none

/-- The queues of a share bound to a port and a class, with a frame. -/
def State.egrQueues (s : State) (share n cls : Nat) : List Nat :=
  (s.eth.q.map Prod.fst).filter (fun q =>
    (if share = 16 then q == 511 else s.shpOwner q == some share)
    && s.flag (Reg.ETH_SHP_CFG q) Fld.ETH_SHP_CFG_EN && s.fld (Reg.ETH_SHP_CFG q) Fld.ETH_SHP_CFG_PORT == n
    && s.fld (Reg.ETH_SHP_CFG q) Fld.ETH_SHP_CFG_CLASS == cls)

/-- The queue that a port takes next: lowest class, then round robin after the queue served last (R426). -/
def State.egrPick (s : State) (share n : Nat) : Option Nat :=
  (List.range 4).findSome? (fun c =>
    let l := (s.egrQueues share n c).filter (fun q => decide (0 ≤ s.shpCredit q))
    let last := Tab.get (fun _ => 511) s.eth.served (4 * n + c)
    match l.find? (fun q => last < q) with
    | some q => some q
    | none => l.head?)

/-- A frame taken off a queue, the next one reaching the head. -/
def State.shpPop (s : State) (q : Nat) : State :=
  let l := (Tab.get (fun _ => []) s.eth.q q).tail
  { s with eth := { s.eth with
    q := Tab.set (fun _ => []) s.eth.q q l
    head := Tab.set (fun _ => 0) s.eth.head q (if l.isEmpty then 0 else s.now) } }

/-- EGRESS_FRAME_START (R54, R425, R426): an eligible frame starts on a port, or one that fits no run is dropped. -/
def State.egressStart (s : State) (n : Nat) : State :=
  match s.egrShare with
  | none => s
  | some share =>
    if !s.ethUp n || decide (s.now < Tab.get (fun _ => 0) s.eth.busy n) then s
    else
      match s.egrPick share n with
      | none => s
      | some q =>
        let b := (Tab.get (fun _ => []) s.eth.q q).headD []
        let cyc := s.frameCycles b.length
        if share < 16 && decide (s.egrLongest share * 256 < cyc) then
          (s.shpPop q).bump (Reg.EGR_OVERSIZE_DROP share) Fld.EGR_OVERSIZE_DROP_COUNT
        else if s.egrLeft * 256 < s.tm.cycle % 256 + cyc then s
        else
          let charge := b.length + 4 + s.fld (Reg.ETH_SHP_CFG q) Fld.ETH_SHP_CFG_OVERHEAD
          let c := s.fld (Reg.ETH_SHP_CFG q) Fld.ETH_SHP_CFG_CLASS
          let s := (s.shpPop q).setCredit q (s.shpCredit q - charge)
          let s := s.bump (Reg.ETH_TX_FRAMES n) Fld.ETH_TX_FRAMES_COUNT
          let s := { s with eth := { s.eth with
            busy := Tab.set (fun _ => 0) s.eth.busy n (s.now + cyc)
            served := Tab.set (fun _ => 511) s.eth.served (4 * n + c) q } }
          { s with out := s.out ++ [.frame n (overlay b 6 (s.ethMac n))] }

/-- Whether a share has eligible work on the EGR row. -/
def State.egrWork (s : State) (share : Nat) : Bool :=
  (List.range (ethPorts s.eth.mode)).any (fun n => s.ethUp n && (s.egrPick share n).isSome)

/-! Marks and resets (R428, R429). -/

/-- Times in ns, saturated (R428). -/
def satNs (cycles : Nat) : Nat := min 16777215 (cycles * 1000 / 2048)

/-- The samples of R428. -/
def State.ethSample (s : State) : State :=
  let s := (List.range 512).foldl (fun t q =>
    let l := Tab.get (fun _ => []) t.eth.q q
    let d := if l.isEmpty then 0 else satNs (t.now - Tab.get (fun _ => 0) t.eth.head q)
    let n := min 16777215 ((l.map (fun b => b.length + 4)).sum)
    if l.isEmpty && t.fld (Reg.ETH_EQ_DEPTH q) Fld.ETH_EQ_DEPTH_BYTES == 0 && t.fld (Reg.ETH_EQ_DELAY q) Fld.ETH_EQ_DELAY_NS == 0 then t
    else (t.setFld (Reg.ETH_EQ_DEPTH q) Fld.ETH_EQ_DEPTH_BYTES n).setFld (Reg.ETH_EQ_DELAY q) Fld.ETH_EQ_DELAY_NS d) s
  (List.range 16).foldl (fun t p =>
    let since := ((t.eth.rx.filter (fun f => f.part == p)).map RxFrame.since).foldl min t.now
    (t.setFld (Reg.ETH_RX_OCC p) Fld.ETH_RX_OCC_BYTES (min 16777215 (t.rxOcc p))).setFld (Reg.ETH_RX_DELAY p) Fld.ETH_RX_DELAY_NS
      (satNs (t.now - since))) s

/-- Shaper queues emptied and their credits set to 0 (R429). -/
def State.shpEmpty (s : State) (sel : Nat → Bool) : State :=
  let s := { s with eth := { s.eth with q := Tab.drop sel s.eth.q, head := Tab.drop sel s.eth.head } }
  (List.range 512).foldl (fun t q => if sel q && t.fld (Reg.ETH_SHP_CREDIT q) Fld.ETH_SHP_CREDIT_CREDIT != 0 then t.setCredit q 0 else t) s

/-- A partition's queues and ingress share emptied. -/
def State.ethPartReset (s : State) (p : Nat) : State :=
  let s := s.shpEmpty (fun q => s.shpOwner q == some p)
  { s with eth := { s.eth with rx := s.eth.rx.filter (fun f => f.part != p) } }

/-! The commands. -/

/-- ETH_FRAME_RECEIVE (R412). -/
def execEthFrameReceive (n : Fin 8) (f : Frame) (s : State) : Host.Outcome State Fault Refusal := s.answer (s.ethReceive n f)

/-- ETH_APPLY (R411). -/
def execEthApply (src : Src) (v : Word) (s : State) : Host.Outcome State Fault Refusal :=
  s.answer (s.hostGate src Reg.ETH_CTRL v (fun s => s.ethCtrl v))

/-- ETH_LINK_CHANGE (R413). -/
def execEthLinkChange (n : Fin 8) (up : Bool) (s : State) : Host.Outcome State Fault Refusal := s.answer (s.ethLink n up)

/-- ETH_RULE_CTRL_WRITE (R420). -/
def execEthRuleCtrlWrite (src : Src) (r : Fin 2048) (v : Word) (s : State) : Host.Outcome State Fault Refusal :=
  s.answer (s.hostGate src (Reg.ETH_RULE_CTRL r) v (fun s => s.ruleCtrl r v))

/-- EGRESS_FRAME_START (R426). -/
def execEgressFrameStart (n : Fin 8) (s : State) : Host.Outcome State Fault Refusal :=
  s.answer (s.unitAct (fun s => s.egressStart n))

/-- SLOW_PATH_FRAME (R422). -/
def execSlowPathFrame (share : Fin 17) (act : SlowAct) (s : State) : Host.Outcome State Fault Refusal :=
  s.answer (s.unitAct (fun s => s.slowFrame share act))

/-- REINJECT (R423). -/
def execReinject (share : Fin 17) (f : Frame) (s : State) : Host.Outcome State Fault Refusal :=
  s.answer (s.unitAct (fun s => s.reinject share ⟨0, f.bytes, true⟩))

/-- FRAGMENT_TIMEOUT (R422). -/
def execFragmentTimeout (share : Fin 17) (s : State) : Host.Outcome State Fault Refusal :=
  s.answer (s.unitAct (fun s => s.fragTimeout share))

end Sys2Proof.Machine
end

