-- ==== Sys2Proof/Machine/Srmt.lean ====
section
/-! DEFINITION. SRMT: contexts, queues, windows, the packets that the sled sends, acknowledgement and congestion
(chapter Remote Memory Transport). -/

namespace Sys2Proof.Machine

/-! State. -/

/-- A context at reset. -/
def ctxDefault : SrCtx :=
  { state := 0, gen := 0, vf := 0, peerAddr := 0, peerConn := 0, peerGen := 0xFFF, iid := 0, paths := 1, pmtu := 0, dscp := 0
    retry := 1, rq := 0, ctlq := 0, rto := 1, keys := [], wrapped := none, resident := false, used := 0, nextPsn := 1
    nextMsn := 0, nextSend := 0, path := 0, unacked := [], wait := [], peerMsn := 0, cwnd := 0, lastCut := 0, srtt := none
    rnr := false, expiries := 0, connTry := 0, accTry := 0, cumPsn := 1, sack := [], cumMsn := 0, msgs := [], reads := []
    nextSeq := 0, ackSeq := 1, lastAck := 0, ce := false, ackDue := false, lastTs := 0, closeAt := none, closeSent := false }

/-- A context. -/
def State.ctx (s : State) (p i : Nat) : SrCtx := Tab.get (fun _ => ctxDefault) s.srmt.ctx (p * 2 ^ 20 + i)

/-- SRMT_STATUS shows contexts resident and miss entries in use. -/
def State.srmtStatus (s : State) : State :=
  let n := (s.srmt.ctx.filter (fun e => e.2.resident)).length
  (s.setFld Reg.SRMT_STATUS Fld.SRMT_STATUS_RESIDENT n).setFld Reg.SRMT_STATUS Fld.SRMT_STATUS_MISS s.srmt.miss.length

/-- A context set. -/
def State.setCtx (s : State) (p i : Nat) (c : SrCtx) : State :=
  ({ s with srmt := { s.srmt with ctx := Tab.set (fun _ => ctxDefault) s.srmt.ctx (p * 2 ^ 20 + i) c } }).srmtStatus

def sqDefault : SrSq := ⟨0, 4, false, 0, 0, 0, 0, none, [], []⟩
def rqDefault : SrRq := ⟨0, 4, false, 0, 0, 0, none, []⟩
def cqDefault : SrCq := ⟨0, 4, false, 0, 0, true, false, []⟩
def winDefault : SrWin := ⟨0, 0, 0, 0, false, false, none, none⟩
def aqDefault : SrAq := ⟨0, none, false⟩

def State.sq (s : State) (v q : Nat) : SrSq := Tab.get (fun _ => sqDefault) s.srmt.sq (64 * v + q)
def State.rq (s : State) (v q : Nat) : SrRq := Tab.get (fun _ => rqDefault) s.srmt.rq (64 * v + q)
def State.cq (s : State) (v q : Nat) : SrCq := Tab.get (fun _ => cqDefault) s.srmt.cq (64 * v + q)
def State.win (s : State) (p i : Nat) : SrWin := Tab.get (fun _ => winDefault) s.srmt.win (p * 2 ^ 17 + i)
def State.aq (s : State) (v : Nat) : SrAq := Tab.get (fun _ => aqDefault) s.srmt.aq v

def State.setSq (s : State) (v q : Nat) (x : SrSq) : State :=
  { s with srmt := { s.srmt with sq := Tab.set (fun _ => sqDefault) s.srmt.sq (64 * v + q) x } }
def State.setRq (s : State) (v q : Nat) (x : SrRq) : State :=
  { s with srmt := { s.srmt with rq := Tab.set (fun _ => rqDefault) s.srmt.rq (64 * v + q) x } }
def State.setCq (s : State) (v q : Nat) (x : SrCq) : State :=
  { s with srmt := { s.srmt with cq := Tab.set (fun _ => cqDefault) s.srmt.cq (64 * v + q) x } }
def State.setWin (s : State) (p i : Nat) (x : SrWin) : State :=
  { s with srmt := { s.srmt with win := Tab.set (fun _ => winDefault) s.srmt.win (p * 2 ^ 17 + i) x } }
def State.setAq (s : State) (v : Nat) (x : SrAq) : State :=
  { s with srmt := { s.srmt with aq := Tab.set (fun _ => aqDefault) s.srmt.aq v x } }

def State.sqMade (s : State) (v q : Nat) : Bool := s.flag (Reg.SRMT_SQ_STATE v q) Fld.SRMT_SQ_STATE_CREATED
def State.rqMade (s : State) (v q : Nat) : Bool := s.flag (Reg.SRMT_RQ_STATE v q) Fld.SRMT_RQ_STATE_CREATED
def State.cqMade (s : State) (v q : Nat) : Bool := s.flag (Reg.SRMT_CQ_STATE v q) Fld.SRMT_CQ_STATE_CREATED
def State.sqHead (s : State) (v q : Nat) : Nat := s.fld (Reg.SRMT_SQ_STATE v q) Fld.SRMT_SQ_STATE_HEAD
def State.rqHead (s : State) (v q : Nat) : Nat := s.fld (Reg.SRMT_RQ_STATE v q) Fld.SRMT_RQ_STATE_HEAD
def State.cqTail (s : State) (v q : Nat) : Nat := s.fld (Reg.SRMT_CQ_STATE v q) Fld.SRMT_CQ_STATE_TAIL

/-- Whether a partition's queues start new work (R467). -/
def State.srmtRuns (s : State) (p : Nat) : Bool := !s.computeHeld && s.ownerRuns (some p)

/-- Payload bytes of a PMTU code (R434). -/
def pmtuBytes (code : Nat) : Nat := 1024 * 2 ^ code

/-! Memory of a function's partition or of the host. -/

/-- Bytes written to a place that a LOC bit names: the R94 code of a failure, or 0. -/
def State.locWrite (s : State) (p : Nat) (loc : Bool) (a : Nat) (d : Bytes) : State × Nat :=
  if loc then (s.hostWrite p a d, 0)
  else
    let (s, st) := s.writeBytes (.part p) a d
    (s, if st.good then 0 else st.code)

/-! Completion queues (R452). -/

/-- Whether a completion queue has room: at most 2^LOG2 − 1 entries. -/
def State.cqRoom (s : State) (v q : Nat) : Bool :=
  let c := s.cq v q
  (s.cqTail v q + 1) % 2 ^ c.log2 != c.head

/-- An entry written, with its phase, and the vector signalled if the queue is armed. -/
def State.cqWrite (s : State) (p v q : Nat) (e : Bytes) : State :=
  let c := s.cq v q
  let t := s.cqTail v q
  let e := e.take 14 ++ le 1 (byteAt e 14 + (if c.phase then 1 else 0)) ++ e.drop 15
  let (s, _) := s.locWrite p c.loc (c.base + 32 * t) e
  let t' := (t + 1) % 2 ^ c.log2
  let fire := c.armed && c.vec != 0
  let s := s.setCq v q { c with phase := if t' = 0 then !c.phase else c.phase, armed := c.armed && !fire }
  let s := s.setFld (Reg.SRMT_CQ_STATE v q) Fld.SRMT_CQ_STATE_TAIL t'
  if fire then s.msix (v + 1) c.vec else s

/-- A completion put into a queue, or held while it would fill it. -/
def State.cqPut (s : State) (p v q : Nat) (e : Bytes) : State :=
  let c := s.cq v q
  if !s.cqMade v q then s
  else if c.held.isEmpty && s.cqRoom v q then s.cqWrite p v q e
  else
    ((s.setCq v q { c with held := c.held ++ [e] }).setFld (Reg.SRMT_CQ_STATE v q) Fld.SRMT_CQ_STATE_HELD 1).bump
      (Reg.SRMT_CNT_CQ_FULL p) Fld.SRMT_CNT_CQ_FULL_COUNT

/-- Held completions written while there is room. -/
def State.cqRelease (s : State) (p v q : Nat) : Nat → State
  | 0 => s
  | n + 1 =>
    let c := s.cq v q
    match c.held with
    | [] => s.setFld (Reg.SRMT_CQ_STATE v q) Fld.SRMT_CQ_STATE_HELD 0
    | e :: t => if s.cqRoom v q then State.cqRelease ((s.setCq v q { c with held := t }).cqWrite p v q e) p v q n else s

/-- A completion entry (R452). -/
def State.cqEntry (s : State) (p wrid bytes st dt : Nat) (rq : Bool) (q conn : Nat) : Bytes :=
  le 8 wrid ++ le 4 bytes ++ le 1 st ++ le 1 dt ++ le 1 (if rq then 2 else 0) ++ le 1 q ++ le 4 conn
    ++ le 6 (s.obsOrbit (some p)) ++ zeros 6

/-! Keys (R435). -/

/-- Direction keys and salts of an imported secret: K0, K1, S0, S1. -/
def srmtKeys (secret : Bytes) : Bytes :=
  let k (d : Nat) : Bytes := fixLen 32 (Config.kmac secret (ascii "SRMT-K" ++ le 1 d) 32 [])
  let t (d : Nat) : Bytes := fixLen 4 (Config.kmac secret (ascii "SRMT-S" ++ le 1 d) 4 [])
  k 0 ++ k 1 ++ t 0 ++ t 1

/-- The IPv6 address of a connection's own end (R431). -/
def State.localAddr (s : State) (p : Nat) (c : SrCtx) : Nat :=
  (s.reg64 (Reg.ETH_PFX_LO p) (Reg.ETH_PFX_HI p)) * 2 ^ 64 + c.iid

/-- The direction of the sled's own traffic on a connection. -/
def State.srmtDir (s : State) (p i : Nat) (c : SrCtx) : Nat :=
  let l := s.localAddr p c
  if l < c.peerAddr || (l == c.peerAddr && decide (i < c.peerConn)) then 0 else 1

/-- Key and IV of a packet in a direction: salt, KIND, TRY and sequence number. -/
def srmtKeyIv (c : SrCtx) (d kind tries n : Nat) : Bytes × Bytes :=
  (slice c.keys (32 * d) 32, slice c.keys (64 + 4 * d) 4 ++ be 1 kind ++ zeros 2 ++ be 1 tries ++ be 4 n)

/-! Packets (R431–R435). -/

/-- The fields of an SRMT header that vary (R432). -/
structure SrHdr where
  typ : Nat
  flags : Nat
  tries : Nat
  path : Nat
  dst : Nat
  psn : Nat
  msn : Nat
  off : Nat
  len : Nat
  target : Nat
  winOff : Nat
  ts : Nat
  deriving DecidableEq, Repr

/-- A header's 40 bytes. -/
def SrHdr.bytes (h : SrHdr) : Bytes :=
  be 1 (16 + h.typ) ++ be 1 h.flags ++ be 1 h.tries ++ be 1 h.path ++ be 4 h.dst ++ be 4 h.psn ++ be 4 h.msn ++ be 4 h.off
    ++ be 4 h.len ++ be 4 h.target ++ be 8 h.winOff ++ be 4 h.ts

/-- The header that bytes spell. -/
def srHdr (b : Bytes) : SrHdr :=
  ⟨byteAt b 0 % 16, byteAt b 1, byteAt b 2, byteAt b 3, beAt b 4 4, beAt b 8 4, beAt b 12 4, beAt b 16 4, beAt b 20 4, beAt b 24 4,
   beAt b 28 8, beAt b 36 4⟩

/-- The UDP checksum of a datagram whose own checksum field is zero. -/
def udpSum (src dst : Bytes) (udp : Bytes) : Nat :=
  let x := 0xFFFF - fold16 (fold16 (sum16 src + sum16 dst + udp.length + 17 + sum16 udp))
  if x = 0 then 0xFFFF else x

/-- The frame of a sealed packet (R431). -/
def State.srmtFrame (s : State) (p i : Nat) (c : SrCtx) (path : Nat) (body : Bytes) : Bytes :=
  let src := be 16 (s.localAddr p c)
  let dst := be 16 c.peerAddr
  let sport := 0xC000 + i % 1024 * 16 + path
  let len := 8 + body.length
  let udp0 := be 2 sport ++ be 2 (s.fld Reg.SRMT_CTRL Fld.SRMT_CTRL_UDP_PORT) ++ be 2 len
  let udp := udp0 ++ be 2 (udpSum src dst (udp0 ++ zeros 2 ++ body)) ++ body
  fixLen 6 (Config.nextHop c.peerAddr) ++ zeros 6 ++ be 2 0x86DD
    ++ be 4 (6 * 2 ^ 28 + (c.dscp * 4 + 2) * 2 ^ 20) ++ be 2 len ++ be 1 17 ++ be 1 64 ++ src ++ dst ++ udp

/-- A packet sealed and put on a shaper queue of its partition; nothing leaves a partition that is replayed (R646). -/
def State.srmtEmit (s : State) (p i : Nat) (h : SrHdr) (kind n : Nat) (payload : Bytes) (shq : Nat) : State :=
  if s.replaying p then s
  else
    let c := s.ctx p i
    let (key, iv) := srmtKeyIv c (s.srmtDir p i c) kind h.tries n
    let client := if s.fld (Reg.ETH_SHP_CFG shq) Fld.ETH_SHP_CFG_CLASS == 0 then Client.tx0 else Client.srmt
    let (s, _, ct, tag) := s.gcmSeal p client key iv h.bytes payload
    s.shpPush shq (s.srmtFrame p i c h.path (h.bytes ++ ct ++ tag))

/-- The peer's index and generation as a packet names them. -/
def SrCtx.dst (c : SrCtx) : Nat := c.peerGen * 2 ^ 20 + c.peerConn

/-- The next path of a connection (R465). -/
def SrCtx.nextPath (c : SrCtx) : Nat := (c.path + 1) % c.paths

/-- Device time as a packet carries it. -/
def State.ts (s : State) : Nat := s.devNs % 2 ^ 32

/-- A control packet of a connection: CONNECT, ACCEPT, CLOSE_ACK (R433, R439, R440). -/
def State.srmtControl (s : State) (p i typ tries kind psn dst : Nat) (payload : Bytes) : State :=
  let c := s.ctx p i
  let path := c.nextPath
  let s := s.setCtx p i { c with path := path }
  s.srmtEmit p i ⟨typ, 0, tries, path, dst, psn, 0, 0, 0, 0, 0, s.ts⟩ kind psn payload c.ctlq

/-- The payload of CONNECT and ACCEPT: the sender's index, generation and PMTU code. -/
def SrCtx.hello (c : SrCtx) (i : Nat) : Bytes := be 4 (c.gen * 2 ^ 20 + i) ++ be 1 c.pmtu ++ zeros 3

/-- CONNECT sent. -/
def State.sendConnect (s : State) (p i : Nat) : State :=
  let c := s.ctx p i
  (s.setCtx p i { c with connTry := c.connTry + 1 }).srmtControl p i 5 c.connTry 0 0 (0xFFF * 2 ^ 20 + c.peerConn) (c.hello i)

/-- ACCEPT sent. -/
def State.sendAccept (s : State) (p i : Nat) : State :=
  let c := s.ctx p i
  (s.setCtx p i { c with accTry := (c.accTry + 1) % 256 }).srmtControl p i 6 c.accTry 2 0 c.dst (c.hello i)

/-- The SACK bytes: bit i for PSN CUM_PSN + 1 + i (R433). -/
def SrCtx.sackBytes (c : SrCtx) : Bytes :=
  le 32 (((c.sack.filter (fun n => c.cumPsn < n && n ≤ c.cumPsn + 256)).map (fun n => 2 ^ (n - c.cumPsn - 1))).sum)

/-- An ACK sent (R461), with a NAK and the message it names. -/
def State.sendAck (s : State) (p i nak detail nakMsn : Nat) : State :=
  let c := s.ctx p i
  let path := c.nextPath
  let s := s.setCtx p i { c with path := path, ackSeq := c.ackSeq + 1, ce := false, ackDue := false }
  s.srmtEmit p i ⟨4, if c.ce then 8 else 0, 0, path, c.dst, c.ackSeq, nakMsn, c.cumPsn, c.cumMsn, nak + 256 * detail, 0, c.lastTs⟩
    1 c.ackSeq c.sackBytes c.ctlq

/-! Entries (R449, R453). -/

/-- Entries of a partition's queues that satisfy a test changed. -/
def State.entMap (s : State) (p : Nat) (f : SrEnt → SrEnt) : State :=
  let mine (k : Nat) : Bool := if k / 64 = 64 then k % 64 == p else s.vfPart (k / 64) == some p
  { s with srmt := { s.srmt with sq := s.srmt.sq.map (fun e => if mine e.1 then (e.1, { e.2 with ents := e.2.ents.map f }) else e) } }

/-- A message of a connection failed at its sender: its entry takes the status (R458). -/
def State.msgFail (s : State) (p i msn st dt : Nat) : State :=
  s.entMap p (fun e =>
    if e.conn == i && e.left.contains msn && e.status.isNone then { e with status := some (st, dt), left := [] } else e)

/-- A message of a connection completed. -/
def State.msgDone (s : State) (p i msn : Nat) : State :=
  s.entMap p (fun e => if e.conn == i then { e with left := e.left.filter (· != msn) } else e)

/-- Whether an entry has finished. -/
def SrEnt.finished (e : SrEnt) : Bool := e.status.isSome || (e.next == e.total && e.left.isEmpty)

/-! Receive-queue completions (R451, R459). -/

/-- A receive entry completed: its CQ entry, DONE, head. -/
def State.rqComplete (s : State) (p v q conn wrid bytes st dt : Nat) : State :=
  let r := s.rq v q
  let h := s.rqHead v q
  let s := s.cqPut p v r.cq (s.cqEntry p wrid bytes st dt true q conn)
  let r := s.rq v q
  (s.setRq v q { r with done := (r.done + 1) % 2 ^ 32, ents := r.ents.filter (fun e => e.1 != h) }).setFld
    (Reg.SRMT_RQ_STATE v q) Fld.SRMT_RQ_STATE_HEAD ((h + 1) % 2 ^ r.log2)

/-- A posted receive entry: its bytes, or the code of a failed read; none while a host entry has not arrived. -/
def State.rqEntry (s : State) (p v q idx : Nat) : State × Option (Bytes ⊕ Nat) :=
  let r := s.rq v q
  if r.loc then
    match s.hostTake (.srmtRqe v (65536 * q + idx)) with
    | some (s, .inl d) => (s.setRq v q { r with ents := r.ents ++ [(idx, d)] }, some (.inl d))
    | some (s, .inr poisonOrTimeout) => (s, some (.inr (if poisonOrTimeout then 0x20 else 0x21)))
    | none => (s, (r.ents.find? (fun e => e.1 == idx)).map (fun e => .inl e.2))
  else
    let (s, d) := s.partRead p (r.base + 32 * idx) 32
    (s, some d)

/-- WR_ID of a receive entry that was read. -/
def rqWrid : Option (Bytes ⊕ Nat) → Nat
  | some (.inl d) => leAt d 16 8
  | _ => 0

/-- Posted entries of a receive queue. -/
def State.rqPosted (s : State) (v q : Nat) : Nat :=
  let r := s.rq v q
  (r.tail + 2 ^ r.log2 - s.rqHead v q) % 2 ^ r.log2

/-- Posted buffers completed FLUSHED (R440, R443). -/
def State.rqFlush (s : State) (p v q conn : Nat) : Nat → State
  | 0 => s
  | n + 1 =>
    if s.rqPosted v q = 0 then s
    else
      let (s, e) := s.rqEntry p v q (s.rqHead v q)
      State.rqFlush (s.rqComplete p v q conn (rqWrid e) 0 1 0) p v q conn n

/-! Sending data (R442, R462–R465). -/

/-- A context frees: everything but its generation as at reset. -/
def State.ctxFree (s : State) (p i : Nat) : State :=
  let c := s.ctx p i
  let s := s.setCtx p i { ctxDefault with gen := c.gen }
  let r := s.rq c.vf c.rq
  if r.conn == some i then s.setRq c.vf c.rq { r with conn := none } else s

/-- Entries of a connection that are not finished take a status: those started at once, those of its function's queues
not started when their turn comes (R440, R443). -/
def State.connFlush (s : State) (p i st dt : Nat) (started : Bool) : State :=
  let v := (s.ctx p i).vf
  let s := if started then
      s.entMap p (fun e => if e.conn == i && !e.finished then { e with status := some (st, dt), left := [] } else e)
    else s
  (List.range 64).foldl (fun t q =>
    let x := t.sq v q
    let n := (x.tail + 2 ^ x.log2 - t.sqHead v q) % 2 ^ x.log2
    if t.sqMade v q && decide (0 < n) then t.setSq v q { x with flush := x.flush ++ [(i, n, st, dt)] } else t) s

/-- A connection in ERROR (R443): entries complete with the cause, posted buffers FLUSHED. -/
def State.connError (s : State) (p i st dt : Nat) : State :=
  let c := s.ctx p i
  let s := s.setCtx p i { c with state := 4, unacked := [], wait := [], msgs := [], reads := [], ackDue := false }
  let s := (s.connFlush p i st dt true).bump (Reg.SRMT_CNT_CONN_ERR p) Fld.SRMT_CNT_CONN_ERR_COUNT
  let s := s.tailEvent Unit.srmt 2 4 (i % 65536)
  s.rqFlush p c.vf c.rq i 65536

/-- A window that a handle names, if it admits an access of some bytes under a right (R455, R456). -/
def State.winCheck (s : State) (p handle : Nat) (wr : Bool) (off len : Nat) : Option SrWin :=
  let i := handle % 65536
  let w := s.win p i
  let open_ : Bool := match w.opened with
    | some o => decide (o ≤ s.orbitN) && (match w.closes with | some c => decide (s.orbitN < c) | none => true)
    | none => false
  if open_ && decide (i < s.fld (Reg.SRMT_WIN_SHARE p) Fld.SRMT_WIN_SHARE_COUNT) && w.gen == handle / 65536
      && (if wr then w.wr else w.rd) && decide (off + len ≤ w.len) then some w
  else none

/-- The payload of a packet read from its source, or the NAK code and DETAIL of a failure; a READ_RESP packet is checked
against its window as it is built (R456, R460). -/
def State.pktData (s : State) (p : Nat) (k : TxPkt) : State × (Bytes ⊕ (Nat × Nat)) :=
  match k.src with
  | .bytes b => (s, .inl b)
  | .mem a =>
    let base := (s.win p (k.target % 65536)).base
    if k.typ = 3 && (decide (a < base) || (s.winCheck p k.target false (a - base) k.len).isNone) then (s, .inr (2, 0))
    else if k.len = 0 then (s, .inl [])
    else
      match s.partRead p a k.len with
      | (s, .inl d) => (s, .inl d)
      | (s, .inr code) => (s, .inr (4, code))

/-- A data packet transmitted (first time or again) on the next path. -/
def State.pktSend (s : State) (p i : Nat) (k : TxPkt) (d : Bytes) : State × TxPkt :=
  let c := s.ctx p i
  let path := c.nextPath
  let k := { k with ts := s.ts }
  let ackReq := k.last || k.psn % 16 == 0
  let flags := (if k.last then 1 else 0) + (if ackReq then 2 else 0) + (if k.abort then 4 else 0)
  let s := s.setCtx p i { c with path := path, used := s.now }
  (s.srmtEmit p i ⟨k.typ, flags, k.tries, path, c.dst, k.psn, k.msn, k.off, k.msgLen, if k.typ = 3 then 0 else k.target,
    k.winOff, k.ts⟩ 0 k.psn d k.shq, k)

/-- Payload bytes not acknowledged. -/
def SrCtx.inFlight (c : SrCtx) : Nat := ((c.unacked.filter (fun k => !k.acked)).map TxPkt.len).sum

/-- Whether the windows of R442 and R464 let a packet go. -/
def SrCtx.mayPacket (c : SrCtx) (k : TxPkt) : Bool :=
  let low := ((c.unacked.filter (fun u => !u.acked)).map TxPkt.psn).foldl min c.nextPsn
  (c.state == 2 || c.state == 3) && decide (c.nextPsn < low + 256) && !c.rnr
    && (c.unacked.all (fun u => u.acked) || decide (c.inFlight + k.len ≤ c.cwnd))

/-- Waiting packets sent while the windows allow. A packet whose data cannot be read fails its message: an ABORT packet
goes in its place, or the REMOTE_MEMORY failure of a read (R458, R460). -/
def State.pump (s : State) (p i : Nat) : Nat → State
  | 0 => s
  | fuel + 1 =>
    let c := s.ctx p i
    match c.wait with
    | [] => s
    | k :: rest =>
      if !c.mayPacket k then s
      else if 0xFFFF0000 ≤ c.nextPsn + 1 then s.connError p i 0x0A 0
      else
        let (s, d) := s.pktData p k
        match d with
        | .inl d =>
          let k := { k with psn := c.nextPsn }
          let s := s.setCtx p i { c with wait := rest, nextPsn := c.nextPsn + 1 }
          let (s, k) := s.pktSend p i k d
          let c := s.ctx p i
          State.pump (s.setCtx p i { c with unacked := c.unacked ++ [k] }) p i fuel
        | .inr (nak, code) =>
          let rest := rest.filter (fun x => !(x.msn == k.msn && x.typ == k.typ))
          if k.typ = 3 then
            State.pump ((s.setCtx p i { c with wait := rest }).sendAck p i nak code k.msn) p i fuel
          else
            let s := s.msgFail p i k.msn 4 code
            let k := { k with psn := c.nextPsn, abort := true, last := true, len := 0, src := .bytes [] }
            let s := s.setCtx p i { c with wait := rest, nextPsn := c.nextPsn + 1 }
            let (s, k) := s.pktSend p i k []
            let c := s.ctx p i
            State.pump (s.setCtx p i { c with unacked := c.unacked ++ [k] }) p i fuel

/-- Every waiting packet that may go is sent. -/
def State.pumpAll (s : State) (p i : Nat) : State := s.pump p i ((s.ctx p i).wait.length + 1)

/-- The packets of one message (R434). -/
def msgPackets (typ msn len pmtu target winOff shq : Nat) (src : Nat → Nat → TxSrc) : List TxPkt :=
  let n := max 1 ((len + pmtu - 1) / pmtu)
  (List.range n).map (fun j =>
    let m := min pmtu (len - j * pmtu)
    ⟨0, typ, msn, j * pmtu, len, target, winOff, j + 1 == n, false, m, src (j * pmtu) m, shq, 0, 0, false, false⟩)

/-- The next message of an entry taken: its packets wait on the connection (R449). -/
def State.takeMsg (s : State) (p shq : Nat) (e : SrEnt) : State × SrEnt :=
  let i := e.conn
  let c := s.ctx p i
  let pm := pmtuBytes c.pmtu
  let unit := 256 * pm
  let off := e.next * unit
  let len := if e.op = 1 then e.len else min unit (e.len - off)
  let msn := c.nextMsn
  let src (o n : Nat) : TxSrc :=
    match e.data with
    | some d => .bytes (slice d (off + o) n)
    | none => .mem (e.addr + off + o)
  let pkts := match e.op with
    | 1 => msgPackets 0 msn len pm c.nextSend 0 shq src
    | 2 => msgPackets 1 msn len pm e.win (e.winOff + off) shq src
    | _ => [⟨0, 2, msn, 0, len, e.win, e.winOff + off, true, false, 0, .bytes [], shq, 0, 0, false, false⟩]
  let reads := if e.op = 3 then c.reads ++ [⟨msn, len, e.addr + off, e.loc, [], e.data.map (fun _ => [])⟩] else c.reads
  let c := { c with
    wait := c.wait ++ pkts, nextMsn := msn + 1, reads := reads
    nextSend := if e.op = 1 then (c.nextSend + 1) % 2 ^ 32 else c.nextSend }
  (s.setCtx p i c, { e with next := e.next + 1, left := e.left ++ [msn] })

/-- Messages of an entry taken while the message window of R442 has room. -/
def State.takeMsgs (s : State) (p shq : Nat) (e : SrEnt) : Nat → State × SrEnt
  | 0 => (s, e)
  | n + 1 =>
    let c := s.ctx p e.conn
    if e.status.isSome || e.total ≤ e.next || c.state != 2 || c.peerMsn + 32 ≤ c.nextMsn || !c.wait.isEmpty then (s, e)
    else
      let (s, e) := s.takeMsg p shq e
      State.takeMsgs (s.pumpAll p e.conn) p shq e n

/-- The last entry of every queue of a partition that names a connection takes further messages. -/
def State.connContinue (s : State) (p i : Nat) : State :=
  (s.srmt.sq.map Prod.fst).foldl (fun t k =>
    let mine := if k / 64 = 64 then k % 64 == p else t.vfPart (k / 64) == some p
    let q := t.sq (k / 64) (k % 64)
    match q.ents.getLast? with
    | some e =>
      if mine && e.conn == i && !e.finished && decide (e.next < e.total) then
        let (t, e) := t.takeMsgs p q.shq e 64
        let q := t.sq (k / 64) (k % 64)
        t.setSq (k / 64) (k % 64) { q with ents := q.ents.dropLast ++ [e] }
      else t
    | none => t) s

/-- CLOSE goes out once the connection's started messages have finished (R440). -/
def State.closeSend (s : State) (p i : Nat) : State :=
  let c := s.ctx p i
  let busy := s.srmt.sq.any (fun e =>
    (if e.1 / 64 = 64 then e.1 % 64 == p else s.vfPart (e.1 / 64) == some p) && e.2.ents.any (fun x => x.conn == i && !x.finished))
  if c.state == 3 && !c.closeSent && c.wait.isEmpty && !busy then
    (s.setCtx p i { c with closeSent := true, wait := [⟨0, 7, 0, 0, 0, 0, 0, true, false, 0, .bytes [], c.ctlq, 0, 0, false, false⟩] }).pumpAll p i
  else s

/-! Resending (R462, R463). -/

/-- Unacknowledged packets that satisfy a test sent again; TRY 256 ends the connection. -/
def State.resendPkts (s : State) (p i : Nat) (sel : TxPkt → Bool) (fast : Bool) : State :=
  let c := s.ctx p i
  if c.unacked.any (fun k => !k.acked && sel k && k.tries == 255) then s.connError p i 9 0
  else
    c.unacked.foldl (fun t k =>
      if k.acked || !sel k then t
      else
        let (t, d) := t.pktData p k
        let t := match d with
          | .inr (nak, dt) => if k.typ = 3 then t.sendAck p i nak dt k.msn else t.msgFail p i k.msn 4 dt
          | .inl _ => t
        let k' := { k with tries := k.tries + 1, fast := fast || k.fast }
        let k' := match d with
          | .inl _ => k'
          | .inr _ => { k' with abort := true, last := true, len := 0, src := .bytes [] }
        let (t, k') := t.pktSend p i k' (match d with | .inl b => b | .inr _ => [])
        let c := t.ctx p i
        (t.setCtx p i { c with unacked := c.unacked.map (fun x => if x.psn == k.psn then k' else x) }).bump
          (Reg.SRMT_CNT_RESEND p) Fld.SRMT_CNT_RESEND_COUNT) s

/-- RTO_EXPIRY (R463). -/
def State.rtoExpiry (s : State) (p i : Nat) : State :=
  let c := s.ctx p i
  let running := c.state == 1 || ((c.state == 2 || c.state == 3) && c.unacked.any (fun k => !k.acked))
    || (c.state == 3 && c.closeSent)
  if !running || s.flag Reg.DBG_STATUS Fld.DBG_STATUS_STOPPED then s
  else
    let s := s.bump (Reg.SRMT_CNT_EXPIRY p) Fld.SRMT_CNT_EXPIRY_COUNT
    let c := { c with
      expiries := c.expiries + 1, rnr := false, cwnd := s.fld Reg.SRMT_CC_CWND_MIN Fld.SRMT_CC_CWND_MIN_BYTES
      unacked := c.unacked.map (fun k => { k with fast := false }) }
    let s := s.setCtx p i c
    if c.retry < c.expiries then
      if c.state == 3 then (s.connFlush p i 1 0 true).ctxFree p i else s.connError p i 9 0
    else if c.state == 1 then s.sendConnect p i
    else (s.resendPkts p i (fun _ => true) false).pumpAll p i

/-- ACK_TIMER (R461). -/
def State.ackTimer (s : State) (p i : Nat) : State :=
  let c := s.ctx p i
  if c.ackDue && (c.state == 2 || c.state == 3) && !s.flag Reg.DBG_STATUS Fld.DBG_STATUS_STOPPED then s.sendAck p i 0 0 0 else s

end Sys2Proof.Machine
end

