-- ==== Sys2Proof/Machine/SrmtRx.lean ====
section
/-! DEFINITION. SRMT packets received: the checks of R441, placement, acknowledgement, the handshake and the close, and the
miss buffer (R436–R465). -/

namespace Sys2Proof.Machine

/-! Reception (R441). -/

/-- Whether a packet fails the checks that need no context. -/
def srmtMalformed (k : SrmtPkt) : Bool :=
  let b := k.bytes
  decide (b.length < 56) || decide (8192 + 56 < b.length) || k.udpLen.toNat != 8 + b.length || byteAt b 0 / 16 != 1
    || decide (8 < byteAt b 0 % 16) || byteAt b 1 / 16 != 0 || byteAt b 3 / 16 != 0

/-- Whether a frame of the ingress share is the one that a packet came in. -/
def isFrameOf (k : SrmtPkt) (f : RxFrame) : Bool :=
  f.part == k.part.val && slice f.bytes (62 + tagLen f.bytes) k.bytes.length == k.bytes

/-- The cipher client of a packet: the class of the rule that delivered it (R488). -/
def State.rxClient (s : State) (k : SrmtPkt) : Nat :=
  match s.eth.rx.find? (isFrameOf k) with
  | some f => if f.cls == 0 then Client.rx0 else Client.srmt
  | none => Client.srmt

/-- A packet's frame leaves the ingress share. -/
def State.rxTake (s : State) (k : SrmtPkt) : State :=
  match s.eth.rx.find? (isFrameOf k) with
  | some f => { s with eth := { s.eth with rx := s.eth.rx.erase f } }
  | none => s

/-- A malformed packet or one out of its window. -/
def State.badPkt (s : State) (p : Nat) : State := s.bump (Reg.SRMT_CNT_BAD_PKT p) Fld.SRMT_CNT_BAD_PKT_COUNT

/-- A packet of a context that does not expect it. -/
def State.stale (s : State) (p : Nat) : State := s.bump (Reg.SRMT_CNT_STALE p) Fld.SRMT_CNT_STALE_COUNT

/-- The lowest number from `n` that a list lacks. -/
def cumAdvance (l : List Nat) : Nat → Nat → Nat
  | 0, n => n
  | fuel + 1, n => if l.contains n then cumAdvance l fuel (n + 1) else n

/-- A PSN accepted: CUM_PSN and SACK advance, an ACK is due (R461). -/
def SrCtx.acceptPsn (c : SrCtx) (psn ts : Nat) (ce : Bool) : SrCtx :=
  let l := psn :: c.sack
  let cum := cumAdvance l 257 c.cumPsn
  { c with cumPsn := cum, sack := l.filter (fun n => cum ≤ n), lastTs := ts, ce := c.ce || ce, ackDue := true }

/-- What a placed packet leads to: it fails R457, it waits for its receive entry, it finds no buffer, or it is accepted,
with whether it ended its message and with which NAK. -/
inductive RxOut where
  | bad
  | wait
  | rnr
  | ok (ended : Bool) (nak detail : Nat)
  deriving DecidableEq, Repr

/-- The size checks of R457 for a message of the header's length. -/
def sizeOk (pm : Nat) (h : SrHdr) (n : Nat) : Bool :=
  let pk := max 1 ((h.len + pm - 1) / pm)
  let i := h.off / pm
  h.off % pm == 0 && decide (i < pk) && decide (pk ≤ 256) && n == min pm (h.len - h.off) && (h.flags % 2 == 1) == (i + 1 == pk)

/-- A message in reassembly set. -/
def State.setMsg (s : State) (p i : Nat) (m : RxMsg) : State :=
  let c := s.ctx p i
  s.setCtx p i { c with msgs := c.msgs.filter (fun x => x.msn != m.msn) ++ [m] }

/-- A message that fails at the receiver (R458). -/
def State.rxFail (s : State) (p i : Nat) (m : RxMsg) (st dt : Nat) : State :=
  s.setMsg p i { m with done := true, fail := some (st, dt) }

/-- A packet's index recorded; the message is done when all are in. -/
def RxMsg.mark (m : RxMsg) (pm i : Nat) : RxMsg :=
  let got := i :: m.got.filter (· != i)
  { m with got := got, done := decide (max 1 ((m.len + pm - 1) / pm) ≤ got.length) }

/-- A packet of a message in reassembly placed (R456–R459). -/
def State.rxPlace (s : State) (p i : Nat) (m : RxMsg) (h : SrHdr) (d : Bytes) : State × RxOut :=
  let c := s.ctx p i
  let pm := pmtuBytes c.pmtu
  if h.typ = 0 then
    let (s, code) := s.locWrite p m.loc (m.addr + h.off) d
    if code != 0 then (s.rxFail p i m 4 code, .ok true 4 code)
    else
      let m := m.mark pm (h.off / pm)
      (s.setMsg p i m, .ok m.done 0 0)
  else
    match s.winCheck p h.target true (h.winOff + h.off) d.length with
    | none => (s.rxFail p i m 5 0, .ok true 2 0)
    | some w =>
      let (s, st) := s.writeBytes (.part p) (w.base + h.winOff + h.off) d
      if st.good then
        let m := m.mark pm (h.off / pm)
        (s.setMsg p i m, .ok m.done 0 0)
      else (s.rxFail p i m 7 st.code, .ok true 4 st.code)

/-- The first packet of a SEND finds its receive entry (R451). -/
def State.rxSendFirst (s : State) (p i : Nat) (h : SrHdr) (d : Bytes) : State × RxOut :=
  let c := s.ctx p i
  let v := c.vf
  let ahead := (h.target + 2 ^ 32 - c.nextSeq) % 2 ^ 32
  let m : RxMsg := ⟨h.msn, h.len, 0, h.target, [], false, none, 0, false, 0⟩
  if !decide (ahead < s.rqPosted v c.rq) then (s, .rnr)
  else
    let idx := (s.rqHead v c.rq + ahead) % 2 ^ (s.rq v c.rq).log2
    match s.rqEntry p v c.rq idx with
    | (_, none) => (s, .wait)
    | (s, some (.inr code)) => (s.rxFail p i m 4 code, .ok true 4 code)
    | (s, some (.inl e)) =>
      let m := { m with addr := leAt e 0 8, loc := byteAt e 12 % 2 == 1, wrid := leAt e 16 8 }
      if h.flags.testBit 2 then (s.rxFail p i m 8 0, .ok true 0 0)
      else if leAt e 8 4 < h.len then (s.rxFail p i m 6 0, .ok true 3 0)
      else (s.setMsg p i m).rxPlace p i m h d

/-- A packet of a SEND or a WRITE: the message checks of R457. -/
def State.rxData (s : State) (p i : Nat) (h : SrHdr) (d : Bytes) : State × RxOut :=
  let c := s.ctx p i
  let pm := pmtuBytes c.pmtu
  if h.msn < c.cumMsn then (s, .ok false 0 0)
  else if c.cumMsn + 32 ≤ h.msn then (s, .bad)
  else
    let fits := h.flags.testBit 2 || sizeOk pm h d.length
    match c.msgs.find? (fun m => m.msn == h.msn) with
    | some m =>
      if m.done then (s, .ok false 0 0)
      else if h.typ != m.typ || h.target != m.target || !fits || (!h.flags.testBit 2 && h.len != m.len) then (s, .bad)
      else if h.flags.testBit 2 then (s.rxFail p i m 8 0, .ok true 0 0)
      else s.rxPlace p i m h d
    | none =>
      if !fits then (s, .bad)
      else if h.typ = 0 then s.rxSendFirst p i h d
      else
        let m : RxMsg := ⟨h.msn, h.len, 1, h.target, [], false, none, 0, false, 0⟩
        if h.flags.testBit 2 then (s.rxFail p i m 8 0, .ok true 0 0)
        else (s.setMsg p i m).rxPlace p i m h d

/-- A READ_REQ (R460): its READ_RESP packets wait on the connection, and the message is done. -/
def State.rxReadReq (s : State) (p i : Nat) (h : SrHdr) (d : Bytes) : State × RxOut :=
  let c := s.ctx p i
  let pm := pmtuBytes c.pmtu
  let m : RxMsg := ⟨h.msn, h.len, 2, h.target, [], true, none, 0, false, 0⟩
  if h.msn < c.cumMsn || c.msgs.any (fun m => m.msn == h.msn) then (s, .ok false 0 0)
  else if c.cumMsn + 32 ≤ h.msn || h.off != 0 || !d.isEmpty || h.flags % 2 != 1 || 256 * pm < h.len then (s, .bad)
  else
    match s.winCheck p h.target false h.winOff (min pm h.len) with
    | none => (s.rxFail p i m 5 0, .ok true 2 0)
    | some w =>
      let pkts := msgPackets 3 h.msn h.len pm h.target 0 c.ctlq (fun o _ => .mem (w.base + h.winOff + o))
      let s := s.setMsg p i m
      let c := s.ctx p i
      (s.setCtx p i { c with wait := c.wait ++ pkts }, .ok true 0 0)

/-- A READ of the requester changed. -/
def State.setRead (s : State) (p i : Nat) (r : RdMsg) : State :=
  let c := s.ctx p i
  s.setCtx p i { c with reads := c.reads.map (fun x => if x.msn == r.msn then r else x) }

/-- A READ of the requester ended: the entry waits for it no longer, or it fails with a status. -/
def State.endRead (s : State) (p i msn : Nat) (fail : Option (Nat × Nat)) : State :=
  let c := s.ctx p i
  let s := s.setCtx p i { c with reads := c.reads.filter (fun x => x.msn != msn) }
  match fail with
  | some (st, dt) => s.msgFail p i msn st dt
  | none => s.msgDone p i msn

/-- The checkpoint engine's own read keeps its bytes in its entry (R551). -/
def State.keepRead (s : State) (p i : Nat) (r : RdMsg) : State :=
  match r.data with
  | none => s
  | some l =>
    let d := l.foldl (fun b e => overlay b e.1 e.2) (zeros r.len)
    s.entMap p (fun e => if e.conn == i && e.left.contains r.msn then { e with data := some d } else e)

/-- A READ_RESP packet placed (R457, R460). -/
def State.rxReadResp (s : State) (p i : Nat) (h : SrHdr) (d : Bytes) : State × RxOut :=
  let c := s.ctx p i
  let pm := pmtuBytes c.pmtu
  match c.reads.find? (fun r => r.msn == h.msn) with
  | none => (s, .ok false 0 0)
  | some r =>
    if h.flags.testBit 2 then (s.endRead p i h.msn (some (7, 0)), .ok true 0 0)
    else if h.len != r.len || h.target != 0 || !sizeOk pm h d.length then (s, .bad)
    else
      let (s, code) := match r.data with
        | some _ => (s, 0)
        | none => s.locWrite p r.loc (r.addr + h.off) d
      if code != 0 then (s.endRead p i h.msn (some (4, code)), .ok true 0 0)
      else
        let got := (h.off / pm) :: r.got.filter (· != h.off / pm)
        let r := { r with got := got, data := r.data.map (fun l => l ++ [(h.off, d)]) }
        let s := s.setRead p i r
        if max 1 ((r.len + pm - 1) / pm) ≤ got.length then ((s.keepRead p i r).endRead p i h.msn none, .ok true 0 0)
        else (s, .ok false 0 0)

/-- CUM_MSN advances over done messages; a SEND passed completes its receive entry (R459). -/
def State.msnAdvance (s : State) (p i : Nat) : Nat → State
  | 0 => s
  | fuel + 1 =>
    let c := s.ctx p i
    match c.msgs.find? (fun m => m.msn == c.cumMsn && m.done) with
    | none => s
    | some m =>
      let s := s.setCtx p i { c with
        cumMsn := c.cumMsn + 1, msgs := c.msgs.filter (fun x => x.msn != m.msn)
        nextSeq := if m.typ = 0 then (c.nextSeq + 1) % 2 ^ 32 else c.nextSeq }
      let s := if m.typ = 0 then
          match m.fail with
          | none => s.rqComplete p c.vf c.rq i m.wrid m.len 0 0
          | some (st, dt) => s.rqComplete p c.vf c.rq i m.wrid (min m.len (m.got.length * pmtuBytes c.pmtu)) st dt
        else s
      State.msnAdvance s p i fuel

/-- A CLOSE that CUM_PSN has passed: entries and buffers FLUSHED, CLOSE_ACK, FREE (R440). -/
def State.actClose (s : State) (p i : Nat) : State :=
  let c := s.ctx p i
  match c.closeAt with
  | some psn =>
    if psn < c.cumPsn then
      let s := (s.connFlush p i 1 0 true).rqFlush p c.vf c.rq i 65536
      (s.srmtControl p i 8 0 0 c.nextPsn c.dst []).ctxFree p i
    else s
  | none => s

/-- A packet with a PSN in the window, verified (R441, R457–R461). -/
def State.rxSequenced (s : State) (p i : Nat) (h : SrHdr) (d : Bytes) (ce : Bool) (k : SrmtPkt) : State :=
  let c := s.ctx p i
  if h.psn < c.cumPsn || c.sack.contains h.psn then
    let s := (s.rxTake k).bump (Reg.SRMT_CNT_DUP p) Fld.SRMT_CNT_DUP_COUNT
    (s.setCtx p i { c with lastTs := h.ts }).sendAck p i 0 0 0
  else if c.cumPsn + 255 < h.psn then (s.rxTake k).badPkt p
  else
    let (t, out) := match h.typ with
      | 0 => s.rxData p i h d
      | 1 => s.rxData p i h d
      | 2 => s.rxReadReq p i h d
      | 3 => s.rxReadResp p i h d
      | 7 => (s.setCtx p i { c with closeAt := some h.psn }, RxOut.ok false 0 0)
      | _ => (s, RxOut.ok false 0 0)
    match out with
    | .wait => s
    | .bad => (s.rxTake k).badPkt p
    | .rnr =>
      let t := (t.rxTake k).bump (Reg.SRMT_CNT_RNR p) Fld.SRMT_CNT_RNR_COUNT
      let c := t.ctx p i
      (t.setCtx p i { c with lastTs := h.ts }).sendAck p i 1 0 h.msn
    | .ok ended nak dt =>
      let t := t.rxTake k
      let c := t.ctx p i
      let t := (t.setCtx p i (c.acceptPsn h.psn h.ts ce)).msnAdvance p i 33
      let t := if h.flags.testBit 1 || ended then t.sendAck p i nak dt (if nak = 0 then 0 else h.msn) else t
      if h.typ = 8 then (if (t.ctx p i).state == 3 then t.ctxFree p i else t)
      else (((t.actClose p i).pumpAll p i).connContinue p i).closeSend p i

/-! Acknowledgement (R461–R464). -/

/-- The SRTT after a sample of some ns. -/
def srttStep (old : Option Nat) (sample : Nat) : Nat :=
  match old with
  | none => sample
  | some r => (Int.ofNat r + (Int.ofNat sample - Int.ofNat r) / 8).toNat

/-- CWND after an ACK of `b` new bytes (R464). -/
def State.cwndStep (s : State) (c : SrCtx) (b : Nat) (ce : Bool) : SrCtx :=
  if ce then
    if c.srtt.getD 0 ≤ s.devNs - c.lastCut then
      { c with cwnd := max (s.fld Reg.SRMT_CC_CWND_MIN Fld.SRMT_CC_CWND_MIN_BYTES) (c.cwnd / 2), lastCut := s.devNs }
    else c
  else
    let inc := (s.fld Reg.SRMT_CC_AI Fld.SRMT_CC_AI_BYTES * b + c.cwnd - 1) / max 1 c.cwnd
    { c with cwnd := max c.cwnd (min (c.cwnd + inc) (s.fld Reg.SRMT_CC_CWND_MAX Fld.SRMT_CC_CWND_MAX_BYTES)) }

/-- The effect of a NAK at the sender (R458, R463). -/
def State.nakAct (s : State) (p i nak detail msn : Nat) : State :=
  let c := s.ctx p i
  if nak = 1 then s.setCtx p i { c with rnr := true }
  else if 2 ≤ nak ∧ nak ≤ 4 then
    let st := if nak = 2 then 5 else if nak = 3 then 6 else 7
    (s.setCtx p i { c with
      wait := c.wait.filter (fun k => !(k.msn == msn && decide (k.typ < 3))), reads := c.reads.filter (fun r => r.msn != msn) }).msgFail
      p i msn st (if nak = 4 then detail else 0)
  else s

/-- Messages that the peer's CUM_MSN has passed complete, READs excepted (R449). -/
def State.peerDone (s : State) (p i cum : Nat) : State :=
  let c := s.ctx p i
  let s := s.setCtx p i { c with peerMsn := max c.peerMsn cum }
  s.entMap p (fun e =>
    if e.conn == i then { e with left := e.left.filter (fun m => cum ≤ m || c.reads.any (fun r => r.msn == m)) } else e)

/-- An ACK accepted (R462–R464). -/
def State.rxAck (s : State) (p i : Nat) (h : SrHdr) (d : Bytes) : State :=
  let c := s.ctx p i
  let bits := leAt d 0 32
  let shown (n : Nat) : Bool := n < h.off || (decide (h.off + 1 ≤ n) && bits.testBit (n - h.off - 1))
  let newly := c.unacked.filter (fun k => shown k.psn)
  let top := (c.unacked.map TxPkt.psn).foldl (fun m n => if shown n then max m n else m)
    (max (h.off - 1) (if bits = 0 then 0 else h.off + 1 + Nat.log2 bits))
  let sample := newly.find? (fun k => k.tries == 0 && k.ts == h.ts)
  let c := { c with
    ackSeq := c.ackSeq, lastAck := h.psn, unacked := c.unacked.filter (fun k => !shown k.psn)
    expiries := if newly.isEmpty then c.expiries else 0
    srtt := match sample with
      | some k => some (srttStep c.srtt ((s.ts + 2 ^ 32 - k.ts) % 2 ^ 32))
      | none => c.srtt }
  let b := (newly.map TxPkt.len).sum
  let c := if b = 0 && !h.flags.testBit 3 then c else s.cwndStep c b (h.flags.testBit 3)
  let s := (s.setCtx p i c).peerDone p i h.len
  let s := s.nakAct p i (h.target % 256) (h.target / 256 % 256) h.msn
  let s := s.resendPkts p i (fun k => !k.fast && decide (k.psn + 32 ≤ top)) true
  ((s.pumpAll p i).connContinue p i).closeSend p i

/-! The handshake (R439). -/

/-- A context enters ESTABLISHED with what its peer says. -/
def State.establish (s : State) (p i : Nat) (d : Bytes) : State :=
  let c := s.ctx p i
  s.setCtx p i { c with
    state := 2, peerGen := beAt d 0 4 / 2 ^ 20, pmtu := min c.pmtu (byteAt d 4), expiries := 0
    cwnd := s.fld Reg.SRMT_CC_CWND_INIT Fld.SRMT_CC_CWND_INIT_BYTES }

/-- A verified CONNECT. -/
def State.rxConnect (s : State) (p i : Nat) (d : Bytes) : State :=
  let c := s.ctx p i
  if d.length != 8 || 3 < byteAt d 4 || leAt d 5 3 != 0 || beAt d 0 4 % 2 ^ 20 != c.peerConn then s.badPkt p
  else if c.state == 1 then (s.establish p i d).sendAccept p i
  else if c.state == 2 then (if beAt d 0 4 / 2 ^ 20 == c.peerGen then s.sendAccept p i else s.stale p)
  else s

/-- A verified ACCEPT. -/
def State.rxAccept (s : State) (p i : Nat) (d : Bytes) : State :=
  let c := s.ctx p i
  if d.length != 8 || 3 < byteAt d 4 || leAt d 5 3 != 0 || beAt d 0 4 % 2 ^ 20 != c.peerConn then s.badPkt p
  else if c.state == 1 then s.establish p i d
  else s

/-- A packet of a resident context: its tag, then what its type does (R441). -/
def State.rxResident (s : State) (p i : Nat) (h : SrHdr) (k : SrmtPkt) : State :=
  let c := s.ctx p i
  let kind := if h.typ = 4 then 1 else if h.typ = 6 then 2 else 0
  let (key, iv) := srmtKeyIv c (1 - s.srmtDir p i c) kind h.tries h.psn
  let body := k.bytes.drop 40
  let n := body.length - 16
  let (t, st, d) := s.gcmOpen p (s.rxClient k) key iv (k.bytes.take 40) (body.take n) (body.drop n)
  if st != 0 then (t.rxTake k).bump (Reg.SRMT_CNT_AUTH p) Fld.SRMT_CNT_AUTH_COUNT
  else
    let t := t.setCtx p i { c with used := t.now }
    if h.typ = 5 then (t.rxTake k).rxConnect p i d
    else if h.typ = 6 then (t.rxTake k).rxAccept p i d
    else if h.typ = 4 then
      let t := t.rxTake k
      if d.length != 32 then t.badPkt p
      else if h.psn ≤ c.lastAck then t.bump (Reg.SRMT_CNT_DUP p) Fld.SRMT_CNT_DUP_COUNT
      else t.rxAck p i h d
    else t.rxSequenced p i h d k.ce k

/-- Entries of the miss buffer that a partition holds. -/
def State.missCount (s : State) (p : Nat) : Nat := (s.srmt.miss.filter (fun e => e.1 / 2 ^ 20 == p)).length

/-- A received packet of one type (R441, R445); none is served during a global stop (R638). -/
def State.srmtRx (s : State) (typ : Nat) (k : SrmtPkt) : State :=
  let p := k.part.val
  let h := srHdr k.bytes
  let i := h.dst % 2 ^ 20
  if s.flag Reg.DBG_STATUS Fld.DBG_STATUS_STOPPED then s
  else if srmtMalformed k then (s.rxTake k).badPkt p
  else if h.typ != typ then s
  else if s.fld (Reg.SRMT_CTX_COUNT p) Fld.SRMT_CTX_COUNT_COUNT ≤ i then (s.rxTake k).badPkt p
  else
    let c := s.ctx p i
    let gen := h.dst / 2 ^ 20
    let genOk := gen == c.gen || (h.typ == 5 && gen == 0xFFF)
    let stateOk := if h.typ = 5 ∨ h.typ = 6 then true else c.state == 2 || c.state == 3
    if c.state == 0 || c.state == 4 || !genOk || k.src.toNat != c.peerAddr || !stateOk then (s.rxTake k).stale p
    else if c.resident && !s.srmt.miss.any (fun e => e.1 == p * 2 ^ 20 + i) then s.rxResident p i h k
    else if s.fld (Reg.SRMT_SHARES p) Fld.SRMT_SHARES_MISS ≤ s.missCount p then
      (s.rxTake k).bump (Reg.SRMT_CNT_MISS_DROP p) Fld.SRMT_CNT_MISS_DROP_COUNT
    else
      ({ s with srmt := { s.srmt with miss := s.srmt.miss ++ [(p * 2 ^ 20 + i, s.now, k)] } }).srmtStatus

/-! Residency (R444, R445, R500). -/

/-- Whether an entry naming a context is in progress. -/
def State.ctxInUse (s : State) (p i : Nat) : Bool :=
  s.srmt.sq.any (fun e =>
    (if e.1 / 64 = 64 then e.1 % 64 == p else s.vfPart (e.1 / 64) == some p) && e.2.ents.any (fun x => x.conn == i))

/-- Whether a resident context is pinned (R444). -/
def State.ctxPinned (s : State) (p i : Nat) : Bool :=
  let c := s.ctx p i
  c.state == 1 || c.state == 3 || !c.unacked.isEmpty || c.ackDue || c.msgs.any (fun m => !m.done) || !c.reads.isEmpty
    || s.ctxInUse p i

/-- The resident contexts of a partition. -/
def State.residentOf (s : State) (p : Nat) : List (Nat × SrCtx) :=
  s.srmt.ctx.filter (fun e => e.1 / 2 ^ 20 == p && e.2.resident)

/-- Whether a partition owns a slot of the SVC row, without which it never evicts. -/
def State.hasSvc (s : State) (p : Nat) : Bool := (List.range 63).any (fun t => s.entryOf 3 (s.ephEntry 3 t) == .part p)

/-- A context written back to the service package with its keys wrapped; no root key leaves no wrapped keys. -/
def State.ctxEvict (s : State) (p i : Nat) : State :=
  let c := s.ctx p i
  let (s, k) := s.deriveKey p 5 0
  s.setCtx p i { c with resident := false, keys := [], wrapped := k.map (fun k => fixLen 80 (Config.wrapEnc k c.keys)) }

/-- Room for one more resident context of a partition; none when every one is pinned. -/
def State.ctxRoom (s : State) (p : Nat) : Option State :=
  let l := s.residentOf p
  if l.length < s.fld (Reg.SRMT_SHARES p) Fld.SRMT_SHARES_RESIDENT then some s
  else
    let free := l.filter (fun e => !s.ctxPinned p (e.1 % 2 ^ 20))
    match free with
    | [] => none
    | e :: t =>
      if s.hasSvc p then
        let old := t.foldl (fun (a b : Nat × SrCtx) => if b.2.used < a.2.used then b else a) e
        some (s.ctxEvict p (old.1 % 2 ^ 20))
      else none

/-- The waiting packets of a context taken out of the miss buffer. -/
def State.missTake (s : State) (k : Nat) : State × List SrmtPkt :=
  (({ s with srmt := { s.srmt with miss := s.srmt.miss.filter (fun e => e.1 != k) } }).srmtStatus,
   (s.srmt.miss.filter (fun e => e.1 == k)).map (fun e => e.2.2))

/-- CONTEXT_FETCH_COMPLETE (R444, R445, R500). -/
def State.ctxFetch (s : State) (p i : Nat) : State :=
  let c := s.ctx p i
  if c.state == 0 || c.state == 4 || c.resident then s
  else
    match s.ctxRoom p with
    | none => s
    | some s =>
      let s := s.bump (Reg.SRMT_CNT_MISS p) Fld.SRMT_CNT_MISS_COUNT
      let (s, w) := s.deriveKey p 5 0
      let keys := match w, c.wrapped with
        | some w, some b => Config.wrapDec w b
        | _, _ => none
      let (s, waiting) := s.missTake (p * 2 ^ 20 + i)
      match keys with
      | some k =>
        let s := s.setCtx p i { c with resident := true, keys := fixLen 72 k, wrapped := none, used := s.now }
        waiting.foldl (fun t k => t.srmtRx (byteAt k.bytes 0 % 16) k) s
      | none =>
        let s := waiting.foldl (fun t k => (t.rxTake k).bump (Reg.CPH_CNT_UNWRAP p) Fld.CPH_CNT_UNWRAP_COUNT) s
        s.connError p i 0x0A 1

/-- MISS_WAIT_TIMEOUT (R445): packets that have waited 1 ms are dropped. -/
def State.missTimeout (s : State) (p i : Nat) : State :=
  let late (e : Nat × Nat × SrmtPkt) : Bool := e.1 == p * 2 ^ 20 + i && decide (e.2.1 + 2048000 ≤ s.now)
  let gone := s.srmt.miss.filter late
  let s := ({ s with srmt := { s.srmt with miss := s.srmt.miss.filter (fun e => !late e) } }).srmtStatus
  gone.foldl (fun t e => (t.rxTake e.2.2).bump (Reg.SRMT_CNT_MISS_DROP p) Fld.SRMT_CNT_MISS_DROP_COUNT) s

/-! The commands. -/

/-- SRMT_SEND_PACKET (R457). -/
def execSrmtSendPacket (k : SrmtPkt) (s : State) : Host.Outcome State Fault Refusal :=
  s.answer (s.unitAct (fun s => s.srmtRx 0 k))

/-- SRMT_WRITE_PACKET (R456). -/
def execSrmtWritePacket (k : SrmtPkt) (s : State) : Host.Outcome State Fault Refusal :=
  s.answer (s.unitAct (fun s => s.srmtRx 1 k))

/-- READ_REQ (R460). -/
def execReadReq (k : SrmtPkt) (s : State) : Host.Outcome State Fault Refusal :=
  s.answer (s.unitAct (fun s => s.srmtRx 2 k))

/-- READ_RESP (R460). -/
def execReadResp (k : SrmtPkt) (s : State) : Host.Outcome State Fault Refusal :=
  s.answer (s.unitAct (fun s => s.srmtRx 3 k))

/-- ACK (R462). -/
def execAck (k : SrmtPkt) (s : State) : Host.Outcome State Fault Refusal := s.answer (s.unitAct (fun s => s.srmtRx 4 k))

/-- CONNECT (R439). -/
def execConnect (k : SrmtPkt) (s : State) : Host.Outcome State Fault Refusal :=
  s.answer (s.unitAct (fun s => s.srmtRx 5 k))

/-- ACCEPT (R439). -/
def execAccept (k : SrmtPkt) (s : State) : Host.Outcome State Fault Refusal :=
  s.answer (s.unitAct (fun s => s.srmtRx 6 k))

/-- CLOSE (R440). -/
def execClose (k : SrmtPkt) (s : State) : Host.Outcome State Fault Refusal :=
  s.answer (s.unitAct (fun s => s.srmtRx 7 k))

/-- CLOSE_ACK (R440). -/
def execCloseAck (k : SrmtPkt) (s : State) : Host.Outcome State Fault Refusal :=
  s.answer (s.unitAct (fun s => s.srmtRx 8 k))

/-- CONTEXT_FETCH_COMPLETE (R445). -/
def execContextFetchComplete (p : Fin 16) (i : BitVec 20) (s : State) : Host.Outcome State Fault Refusal :=
  s.answer (s.unitAct (fun s => s.ctxFetch p i.toNat))

/-- MISS_WAIT_TIMEOUT (R445). -/
def execMissWaitTimeout (p : Fin 16) (i : BitVec 20) (s : State) : Host.Outcome State Fault Refusal :=
  s.answer (s.unitAct (fun s => s.missTimeout p i.toNat))

/-- RTO_EXPIRY (R463). -/
def execRtoExpiry (p : Fin 16) (i : BitVec 20) (s : State) : Host.Outcome State Fault Refusal :=
  s.answer (s.unitAct (fun s => s.rtoExpiry p i.toNat))

/-- ACK_TIMER (R461). -/
def execAckTimer (p : Fin 16) (i : BitVec 20) (s : State) : Host.Outcome State Fault Refusal :=
  s.answer (s.unitAct (fun s => s.ackTimer p i.toNat))

end Sys2Proof.Machine
end

