-- ==== Sys2Proof/Machine/SrmtCmd.lean ====
section
/-! DEFINITION. SRMT as its driver sees it: doorbells, send entries, the admin queue, windows, and what resets leave of the
transport (R447–R456, R467). -/

namespace Sys2Proof.Machine

/-! Doorbells (R447, R452, R454). -/

/-- SRMT_SQ_DB. -/
def State.sqDoorbell (s : State) (v q n : Nat) : State :=
  let x := s.sq v q
  if !s.sqMade v q then s
  else if 2 ^ x.log2 ≤ n then s.setFld (Reg.SRMT_SQ_STATE v q) Fld.SRMT_SQ_STATE_BAD_DB 1
  else s.setSq v q { x with tail := n }

/-- SRMT_RQ_DB: entries in host memory are read as they are posted. -/
def State.rqDoorbell (s : State) (v q n : Nat) : State :=
  let x := s.rq v q
  if !s.rqMade v q then s
  else if 2 ^ x.log2 ≤ n then s.setFld (Reg.SRMT_RQ_STATE v q) Fld.SRMT_RQ_STATE_BAD_DB 1
  else
    let s := s.setRq v q { x with tail := n }
    if x.loc then
      (List.range ((n + 2 ^ x.log2 - x.tail) % 2 ^ x.log2)).foldl (fun t k =>
        let idx := (x.tail + k) % 2 ^ x.log2
        t.hostRead (.srmtRqe v (65536 * q + idx)) (t.fnShare (v + 1)) (x.base + 32 * idx) 32) s
    else s

/-- SRMT_CQ_DB. -/
def State.cqDoorbell (s : State) (v q : Nat) (w : Word) : State :=
  let x := s.cq v q
  let n := w.toNat % 65536
  if !s.cqMade v q then s
  else if 2 ^ x.log2 ≤ n then s.setFld (Reg.SRMT_CQ_STATE v q) Fld.SRMT_CQ_STATE_BAD_DB 1
  else
    let s := s.setCq v q { x with head := n, armed := x.armed || w.getLsbD 31 }
    match s.vfPart v with
    | some p => s.cqRelease p v q (x.held.length + 1)
    | none => s

/-- Entries of a function's admin queue. -/
def State.aqSize (s : State) (v : Nat) : Nat := 2 ^ s.fld (Reg.SRMT_AQ_CFG v) Fld.SRMT_AQ_CFG_LOG2

/-- SRMT_AQ_DB. -/
def State.aqDoorbell (s : State) (v n : Nat) : State :=
  if s.aqSize v ≤ n then s else s.setAq v { s.aq v with tail := n }

/-- A write of SRMT_AQ_CFG: LOG2 holds while the queue runs, and writing EN lets a stopped queue go on (R454). -/
def State.aqCfg (s : State) (v : Nat) (w : Word) : State :=
  let old := s.reg (Reg.SRMT_AQ_CFG v)
  let keep : Word := if old.getLsbD 16 then (w &&& 0x103F0) ||| (old &&& 0xF) else w &&& 0x103FF
  (s.setReg (Reg.SRMT_AQ_CFG v) keep).setAq v { s.aq v with stopped := false }

/-- A write of SRMT_AQ_BASE_LO or _HI, discarded while the queue runs. -/
def State.aqBase (s : State) (v : Nat) (hi : Bool) (w : Word) : State :=
  if s.flag (Reg.SRMT_AQ_CFG v) Fld.SRMT_AQ_CFG_EN then s
  else if hi then s.setReg (Reg.SRMT_AQ_BASE_HI v) (w &&& 0xFFFF)
  else s.setReg (Reg.SRMT_AQ_BASE_LO v) w

/-! Send entries (R448–R450). -/

/-- The next send entry: not there yet, unreadable with its status DETAIL, or its 64 bytes. -/
inductive SqFetch where
  | wait (s : State)
  | fail (s : State) (detail : Nat)
  | got (s : State) (e : Bytes)

/-- The entry at the head of a send queue read, from partition memory or with a read of host memory. -/
def State.sqFetch (s : State) (p v q : Nat) : SqFetch :=
  let x := s.sq v q
  let a := x.base + 64 * s.sqHead v q
  if x.loc then
    match s.hostTake (.srmtSqe v q) with
    | some (s, .inl d) => .got s d
    | some (s, .inr timeout) => .fail s (if timeout then 0x20 else 0x21)
    | none =>
      if s.host.reads.any (fun r => decide (r.who = .srmtSqe v q)) then .wait s
      else .wait (s.hostRead (.srmtSqe v q) p a 64)
  else
    match s.partRead p a 64 with
    | (s, .inl d) => .got s d
    | (s, .inr code) => .fail s code

/-- Whether a send entry is malformed (R449). -/
def State.sqeBad (s : State) (p v : Nat) (e : Bytes) : Bool :=
  let op := byteAt e 0
  let conn := leAt e 4 4
  let c := s.ctx p conn
  let len := leAt e 16 4
  let wq := leAt e 40 2
  let limit := match op with
    | 0 => 0
    | 1 => 256 * pmtuBytes c.pmtu
    | _ => 2 ^ 26
  let wv := wq / 256 % 64
  decide (3 < op) || byteAt e 1 / 8 != 0 || leAt e 2 2 != 0 || decide (2 ^ 20 ≤ conn) || leAt e 42 2 != 0 || leAt e 48 16 != 0
    || wq / 64 % 4 != 0 || wq / 2 ^ 14 % 2 != 0 || decide (limit < len)
    || decide (s.fld (Reg.SRMT_CTX_COUNT p) Fld.SRMT_CTX_COUNT_COUNT ≤ conn) || (c.state != 0 && c.vf != v)
    || ((byteAt e 1).testBit 1
      && (s.vfPart wv != some p || !(if wq.testBit 15 then s.rqMade wv (wq % 64) else s.sqMade wv (wq % 64))))

/-- DONE of the queue that WAIT_Q names. -/
def State.waitDone (s : State) (wq : Nat) : Nat :=
  if wq.testBit 15 then (s.rq (wq / 256 % 64) (wq % 64)).done else (s.sq (wq / 256 % 64) (wq % 64)).done

/-- The head of a send queue moves on, with an entry in progress. -/
def State.sqStarted (s : State) (v q : Nat) (e : SrEnt) : State :=
  let x := s.sq v q
  let h := (s.sqHead v q + 1) % 2 ^ x.log2
  let flush := (x.flush.map (fun f => (f.1, f.2.1 - 1, f.2.2))).filter (fun f => f.2.1 != 0)
  let s := s.setSq v q { x with ents := x.ents ++ [e], since := none, flush := flush }
  (s.setFld (Reg.SRMT_SQ_STATE v q) Fld.SRMT_SQ_STATE_HEAD h).setFld (Reg.SRMT_SQ_STATE v q) Fld.SRMT_SQ_STATE_WAITING 0

/-- An entry that completes without sending anything. -/
def State.sqEnd (s : State) (v q : Nat) (e : Bytes) (st dt : Nat) : State :=
  s.sqStarted v q ⟨s.sqHead v q, byteAt e 0, leAt e 4 4, leAt e 32 8, (byteAt e 1).testBit 0, leAt e 16 4, (byteAt e 1).testBit 2,
    leAt e 8 8, leAt e 20 4, leAt e 24 8, 0, 0, [], if st = 0 then none else some (st, dt), none⟩

/-- The messages of an entry (R449). -/
def State.sqeMsgs (s : State) (p : Nat) (e : Bytes) : Nat :=
  if byteAt e 0 = 1 then 1
  else
    let unit := 256 * pmtuBytes (s.ctx p (leAt e 4 4)).pmtu
    max 1 ((leAt e 16 4 + unit - 1) / unit)

/-- An entry on an established, resident connection starts with its messages. -/
def State.sqGo (s : State) (p v q : Nat) (e : Bytes) (data : Option Bytes) : State :=
  let ent : SrEnt := ⟨s.sqHead v q, byteAt e 0, leAt e 4 4, leAt e 32 8, (byteAt e 1).testBit 0, leAt e 16 4,
    (byteAt e 1).testBit 2, leAt e 8 8, leAt e 20 4, leAt e 24 8, s.sqeMsgs p e, 0, [], none, data⟩
  let shq := (s.sq v q).shq
  let s := s.sqStarted v q ent
  let (s, ent) := s.takeMsgs p shq ent 64
  let x := s.sq v q
  let s := s.setSq v q { x with ents := x.ents.dropLast ++ [ent] }
  if ent.next < ent.total then s.setFld (Reg.SRMT_SQ_STATE v q) Fld.SRMT_SQ_STATE_WAITING 1 else s

/-- An entry whose wait is over: its connection and its local data (R444, R449). -/
def State.sqReady (s0 s : State) (p v q : Nat) (e : Bytes) : State :=
  let op := byteAt e 0
  let c := s.ctx p (leAt e 4 4)
  if op = 0 then s.sqEnd v q e 0 0
  else if c.state != 2 then s.sqEnd v q e 3 0
  else if !c.resident then s0
  else if (byteAt e 1).testBit 2 && op != 3 && leAt e 16 4 != 0 then
    match s.hostTake (.srmtData v q 0) with
    | some (s, .inl d) => s.sqGo p v q e (some d)
    | some (s, .inr timeout) => s.sqEnd v q e 4 (if timeout then 0x20 else 0x21)
    | none =>
      if s0.host.reads.any (fun r => decide (r.who = .srmtData v q 0)) then s0
      else s0.hostRead (.srmtData v q 0) p (leAt e 8 8) (leAt e 16 4)
  else s.sqGo p v q e none

/-- An entry with WAIT_EN: it waits, or its wait ends and is traced (R450, R625). -/
def State.sqWait (s0 s : State) (p v q : Nat) (e : Bytes) : State :=
  let wq := leAt e 40 2
  let count := leAt e 44 4
  let seen := s.waitDone wq
  let x := s0.sq v q
  let start := x.since.getD s.now
  if sext 32 (seen + 2 ^ 32 - count) < 0 then
    (s0.setSq v q { x with since := some start }).setFld (Reg.SRMT_SQ_STATE v q) Fld.SRMT_SQ_STATE_WAITING 1
  else
    let t := s.sqReady s p v q e
    if t.sqHead v q == s.sqHead v q then t.setSq v q { t.sq v q with since := some start }
    else t.waitTrace Unit.srmt 0 3 wq count seen start (some p)

/-- Whether a send queue may start its next entry: running, an entry posted, its completion queue not held, and its
last entry fully taken. -/
def State.sqOpen (s : State) (p v q : Nat) : Bool :=
  let x := s.sq v q
  s.sqMade v q && s.srmtRuns p && s.sqHead v q != x.tail && (s.cq v x.cq).held.isEmpty
    && (match x.ents.getLast? with
      | some e => e.finished || decide (e.total ≤ e.next)
      | none => true)

/-- SQ_NOP, SQ_SEND, SQ_WRITE, SQ_READ: the entry at the head starts if its OP is the row's; a reserved OP and an
unreadable entry complete under SQ_NOP. -/
def State.sqStart (s : State) (row v q : Nat) : State :=
  match s.vfPart v with
  | none => s
  | some p =>
    if !s.sqOpen p v q then s
    else
      match s.sqFetch p v q with
      | .wait t => t
      | .fail t dt => if row = 0 then t.sqEnd v q (zeros 64) 4 dt else s
      | .got t e =>
        let op := byteAt e 0
        if (if 3 < op then 0 else op) != row then s
        else
          match (s.sq v q).flush.find? (fun f => f.1 == leAt e 4 4) with
          | some f => t.sqEnd v q e f.2.2.1 f.2.2.2
          | none =>
            if t.sqeBad p v e then t.sqEnd v q e 2 0
            else if (byteAt e 1).testBit 1 then s.sqWait t p v q e
            else s.sqReady t p v q e

/-- SQ_ENTRY_COMPLETE (R449, R452): the oldest entry, once finished, completes unless its completion queue is held. -/
def State.sqComplete (s : State) (v q : Nat) : State :=
  match s.vfPart v with
  | none => s
  | some p =>
    let x := s.sq v q
    match x.ents with
    | [] => s
    | e :: rest =>
      if !e.finished || !(s.cq v x.cq).held.isEmpty then s
      else
        let (st, dt) := e.status.getD (0, 0)
        let s := s.setSq v q { x with ents := rest, done := (x.done + 1) % 2 ^ 32 }
        let s := if e.signal || st != 0 then
            s.cqPut p v x.cq (s.cqEntry p e.wrid (if st = 0 then e.len else 0) st dt false q e.conn)
          else s
        s.closeSend p e.conn

/-! The admin queue (R454, R455). -/

/-- The place of the admin entry that is next. -/
def State.aqAddr (s : State) (v : Nat) : Nat :=
  s.reg64 (Reg.SRMT_AQ_BASE_LO v) (Reg.SRMT_AQ_BASE_HI v) + 64 * s.fld (Reg.SRMT_AQ_STATUS v) Fld.SRMT_AQ_STATUS_HEAD

/-- An admin command's end written into its entry, and its vector signalled. -/
def State.aqFinish (s : State) (p v a result status : Nat) : State :=
  let old := match s.partRead p (a + 63) 1 with
    | (_, .inl d) => byteAt d 0
    | _ => 0
  let s := (s.writeBytes (.part p) (a + 56) (le 4 result ++ le 1 status)).1
  let s := (s.writeBytes (.part p) (a + 63) (le 1 (old % 128 + 128))).1
  let vec := s.fld (Reg.SRMT_AQ_CFG v) Fld.SRMT_AQ_CFG_VECTOR
  if vec = 0 then s else s.msix (v + 1) vec

/-- The admin queue moves to its next entry. -/
def State.aqNext (s : State) (v : Nat) : State :=
  s.setFld (Reg.SRMT_AQ_STATUS v) Fld.SRMT_AQ_STATUS_HEAD
    ((s.fld (Reg.SRMT_AQ_STATUS v) Fld.SRMT_AQ_STATUS_HEAD + 1) % s.aqSize v)

/-- An admin queue of a bound function whose next entry may be executed. -/
def State.aqOpen (s : State) (p v : Nat) : Bool :=
  let x := s.aq v
  s.srmtRuns p && s.flag (Reg.SRMT_AQ_CFG v) Fld.SRMT_AQ_CFG_EN && !x.stopped && x.pend.isNone
    && s.fld (Reg.SRMT_AQ_STATUS v) Fld.SRMT_AQ_STATUS_HEAD != x.tail

/-- What an admin command comes to: it stays queued, it ends with RESULT and STATUS, or it ends at the mark that its own
state holds. -/
inductive AqOut where
  | stay
  | done (s : State) (result status : Nat)
  | later (s : State)

/-- The OPs of R454. -/
def aqOps : List Nat := [1, 2, 3, 4, 0x10, 0x11, 0x20, 0x21]

/-- The next admin entry executed if its OP is the row's; an unreadable entry stops the queue, and a reserved OP is
BAD_COMMAND under CREATE_CQ. -/
def State.aqRun (s : State) (row v : Nat) (f : State → Nat → Bytes → AqOut) : State :=
  match s.vfPart v with
  | none => s
  | some p =>
    if !s.aqOpen p v then s
    else
      let a := s.aqAddr v
      match s.partRead p a 64 with
      | (t, .inr _) =>
        (t.setFld (Reg.SRMT_AQ_STATUS v) Fld.SRMT_AQ_STATUS_ERROR 1).setAq v { t.aq v with stopped := true }
      | (t, .inl e) =>
        let op := byteAt e 0
        if !aqOps.contains op && row == 1 then (t.aqFinish p v a 0 1).aqNext v
        else if op != row then s
        else
          match f t p e with
          | .stay => s
          | .done t r st => (t.aqFinish p v a r st).aqNext v
          | .later t => t.aqNext v

/-- BASE, LOG2 and LOC of a queue that is created; none where a field is out of range. -/
def aqQueue (e : Bytes) : Option (Nat × Nat × Bool) :=
  let base := leAt e 8 8
  let log2 := byteAt e 16
  if base % 4096 = 0 ∧ 4 ≤ log2 ∧ log2 ≤ 16 then some (base, log2, (byteAt e 17).testBit 0) else none

/-- CREATE_CQ. -/
def State.aqCreateCq (s : State) (v : Nat) (e : Bytes) : AqOut :=
  let q := leAt e 4 4
  match aqQueue e with
  | none => .done s 0 1
  | some (base, log2, loc) =>
    if 64 ≤ q ∨ 63 < byteAt e 18 then .done s 0 1
    else if s.cqMade v q then .done s 0 3
    else
      let s := s.setCq v q ⟨base, log2, loc, byteAt e 18, 0, true, false, []⟩
      .done ((s.setReg (Reg.SRMT_CQ_STATE v q) 0).setFld (Reg.SRMT_CQ_STATE v q) Fld.SRMT_CQ_STATE_CREATED 1) 0 0

/-- CREATE_SQ. -/
def State.aqCreateSq (s : State) (p v : Nat) (e : Bytes) : AqOut :=
  let q := leAt e 4 4
  match aqQueue e with
  | none => .done s 0 1
  | some (base, log2, loc) =>
    if 64 ≤ q || 63 < byteAt e 22 || !s.cqMade v (byteAt e 22) || s.shpOwner (leAt e 20 2) != some p then .done s 0 1
    else if s.sqMade v q then .done s 0 3
    else
      let s := s.setSq v q ⟨base, log2, loc, leAt e 20 2, byteAt e 22, 0, 0, none, [], []⟩
      .done ((s.setReg (Reg.SRMT_SQ_STATE v q) 0).setFld (Reg.SRMT_SQ_STATE v q) Fld.SRMT_SQ_STATE_CREATED 1) 0 0

/-- CREATE_RQ. -/
def State.aqCreateRq (s : State) (v : Nat) (e : Bytes) : AqOut :=
  let q := leAt e 4 4
  match aqQueue e with
  | none => .done s 0 1
  | some (base, log2, loc) =>
    if 64 ≤ q || 63 < byteAt e 22 || !s.cqMade v (byteAt e 22) then .done s 0 1
    else if s.rqMade v q then .done s 0 3
    else
      let s := s.setRq v q ⟨base, log2, loc, byteAt e 22, 0, 0, none, []⟩
      .done ((s.setReg (Reg.SRMT_RQ_STATE v q) 0).setFld (Reg.SRMT_RQ_STATE v q) Fld.SRMT_RQ_STATE_CREATED 1) 0 0

/-- Entries of a send queue that have not started complete FLUSHED; an entry that cannot be read has no WR_ID. -/
def State.sqFlushAll (s : State) (p v q : Nat) : Nat → State
  | 0 => s
  | n + 1 =>
    let x := s.sq v q
    let h := s.sqHead v q
    if h == x.tail then s
    else
      let (s, e) := match x.loc, s.partRead p (x.base + 64 * h) 64 with
        | false, (t, .inl d) => (t, d)
        | _, _ => (s, zeros 64)
      let s := s.cqPut p v x.cq (s.cqEntry p (leAt e 32 8) 0 1 0 false q (leAt e 4 4))
      let x := s.sq v q
      let s := (s.setSq v q { x with done := (x.done + 1) % 2 ^ 32 }).setFld (Reg.SRMT_SQ_STATE v q) Fld.SRMT_SQ_STATE_HEAD
        ((h + 1) % 2 ^ x.log2)
      State.sqFlushAll s p v q n

/-- DESTROY. -/
def State.aqDestroy (s : State) (p v : Nat) (e : Bytes) : AqOut :=
  let q := leAt e 4 4
  let kind := byteAt e 8
  if 64 ≤ q ∨ 2 < kind then .done s 0 1
  else if kind = 0 then
    if !s.sqMade v q then .done s 0 1
    else if !(s.sq v q).ents.isEmpty then .done s 0 3
    else .done (((s.sqFlushAll p v q 65536).setSq v q sqDefault).setReg (Reg.SRMT_SQ_STATE v q) 0) 0 0
  else if kind = 1 then
    if !s.rqMade v q then .done s 0 1
    else if (s.rq v q).conn.isSome then .done s 0 3
    else .done (((s.rqFlush p v q 0 65536).setRq v q rqDefault).setReg (Reg.SRMT_RQ_STATE v q) 0) 0 0
  else if !s.cqMade v q then .done s 0 1
  else if (List.range 64).any (fun i => (s.sqMade v i && (s.sq v i).cq == q) || (s.rqMade v i && (s.rq v i).cq == q)) then
    .done s 0 3
  else .done ((s.setCq v q cqDefault).setReg (Reg.SRMT_CQ_STATE v q) 0) 0 0

/-- The key import of R499: the secret, once read and overwritten. -/
def State.keyImport (s : State) (p a : Nat) : State × Option Bytes :=
  match s.partRead p a 64 with
  | (s, .inr _) => (s, none)
  | (s, .inl d) =>
    let (s, st) := s.partWrite p a (zeros 64)
    let secret := slice d 8 32
    if st.good && leAt d 0 4 == 0x4B455931 && leAt d 4 4 == 0 && leAt d 40 24 == 0 && leVal secret != 0 then (s, some secret)
    else (s, none)

/-- Whether the fields of OPEN_CONN are in range. -/
def State.openFields (s : State) (p v : Nat) (e : Bytes) : Bool :=
  decide (leAt e 24 4 < 2 ^ 20) && decide (1 ≤ byteAt e 36) && decide (byteAt e 36 ≤ 16) && decide (byteAt e 37 ≤ 3)
    && decide (byteAt e 38 < 64) && decide (1 ≤ byteAt e 39) && decide (byteAt e 39 ≤ 15) && decide (byteAt e 40 < 64)
    && s.rqMade v (byteAt e 40) && s.shpOwner (leAt e 42 2) == some p && decide (1 ≤ leAt e 44 4) && decide (leAt e 44 4 ≤ 65535)
    && leAt e 48 8 % 64 == 0

/-- OPEN_CONN (R437, R439, R444, R499). -/
def State.aqOpenConn (s : State) (p v : Nat) (e : Bytes) : AqOut :=
  let i := leAt e 4 4
  let c := s.ctx p i
  if s.fld (Reg.SRMT_CTX_COUNT p) Fld.SRMT_CTX_COUNT_COUNT ≤ i
      || (!s.hasSvc p && decide (s.fld (Reg.SRMT_SHARES p) Fld.SRMT_SHARES_RESIDENT ≤ i)) then .done s 0 2
  else if !s.openFields p v e then .done s 0 1
  else if c.state != 0 || (s.rq v (byteAt e 40)).conn.isSome then .done s 0 3
  else
    match s.ctxRoom p with
    | none => .stay
    | some s =>
      match s.keyImport p (leAt e 48 8) with
      | (s, none) => .done s 0 4
      | (s, some secret) =>
        let s := s.setCtx p i { ctxDefault with
          state := 1, gen := (c.gen + 1) % 4096, vf := v, peerAddr := leAt e 8 16, peerConn := leAt e 24 4, iid := leAt e 28 8
          paths := byteAt e 36, pmtu := byteAt e 37, dscp := byteAt e 38, retry := byteAt e 39, rq := byteAt e 40
          ctlq := leAt e 42 2, rto := leAt e 44 4, keys := srmtKeys secret, resident := true, used := s.now }
        let s := s.setRq v (byteAt e 40) { s.rq v (byteAt e 40) with conn := some i }
        .done (s.sendConnect p i) 0 0

/-- CLOSE_CONN (R438, R440). -/
def State.aqCloseConn (s : State) (p v : Nat) (e : Bytes) : AqOut :=
  let i := leAt e 4 4
  let c := s.ctx p i
  if s.fld (Reg.SRMT_CTX_COUNT p) Fld.SRMT_CTX_COUNT_COUNT ≤ i then .done s 0 2
  else if c.state = 0 then .done s 0 0
  else if c.vf != v then .done s 0 5
  else
    match c.state with
    | 1 => .done s 0 3
    | 2 =>
      if !c.resident then .stay
      else .done (((s.setCtx p i { c with state := 3 }).connFlush p i 1 0 false).closeSend p i) 0 0
    | 4 => .done (s.ctxFree p i) 0 0
    | _ => .done s 0 0

/-- OPEN_WINDOW: it admits from the next mark, at which it completes. -/
def State.aqOpenWindow (s : State) (p v : Nat) (e : Bytes) : AqOut :=
  let i := leAt e 4 4
  let w := s.win p i
  let base := leAt e 8 8
  let len := leAt e 16 8
  if s.fld (Reg.SRMT_WIN_SHARE p) Fld.SRMT_WIN_SHARE_COUNT ≤ i then .done s 0 2
  else if s.spaceSize (.part p) < base + len then .done s 0 1
  else if w.opened.isSome then .done s 0 3
  else
    let gen := (w.gen + 1) % 65536
    let s' := s.setWin p i ⟨gen, v, base, len, (byteAt e 24).testBit 0, (byteAt e 24).testBit 1, some (s.orbitN + 1), none⟩
    .later (s'.setAq v { s'.aq v with pend := some (true, s.aqAddr v, gen * 65536 + i, s.orbitN + 1) })

/-- REVOKE_WINDOW: its checks fail from the next mark. -/
def State.aqRevokeWindow (s : State) (p v : Nat) (e : Bytes) : AqOut :=
  let i := leAt e 4 4
  let w := s.win p i
  if s.fld (Reg.SRMT_WIN_SHARE p) Fld.SRMT_WIN_SHARE_COUNT ≤ i then .done s 0 2
  else if w.opened.isNone then .done s 0 1
  else if w.vf != v then .done s 0 5
  else
    let s' := s.setWin p i { w with closes := some (s.orbitN + 1) }
    .later (s'.setAq v { s'.aq v with pend := some (false, s.aqAddr v, i, s.orbitN + 1) })

/-- WINDOW_OPEN_EFFECT and REVOKE_COMPLETE: a window command whose mark has come completes. -/
def State.winEffect (s : State) (v : Nat) (open_ : Bool) : State :=
  let x := s.aq v
  match s.vfPart v, x.pend with
  | some p, some (isOpen, a, r, due) =>
    if isOpen == open_ && decide (due ≤ s.orbitN) then
      let s := s.setAq v { x with pend := none }
      let s := if open_ then s else s.setWin p r { s.win p r with opened := none, closes := none }
      s.aqFinish p v a (if open_ then r else 0) 0
    else s
  | _, _ => s

/-! Resets (R467). -/

/-- Contexts that satisfy a test lost: FREE with the next generation. -/
def State.ctxLose (s : State) (sel : Nat → SrCtx → Bool) : State :=
  { s with srmt := { s.srmt with
    ctx := s.srmt.ctx.map (fun e =>
      if e.2.state != 0 && sel e.1 e.2 then (e.1, { ctxDefault with gen := (e.2.gen + 1) % 4096 }) else e)
    miss := s.srmt.miss.filter (fun e => !sel e.1 (s.ctx (e.1 / 2 ^ 20) (e.1 % 2 ^ 20))) } }

/-- Queues of functions that satisfy a test uncreated. -/
def State.srmtUncreate (s : State) (sel : Nat → Bool) : State :=
  { s with srmt := { s.srmt with
    sq := Tab.drop (fun k => sel (k / 64)) s.srmt.sq, rq := Tab.drop (fun k => sel (k / 64)) s.srmt.rq
    cq := Tab.drop (fun k => sel (k / 64)) s.srmt.cq, aq := Tab.drop sel s.srmt.aq } }

/-- Windows that satisfy a test closed, their generations kept. -/
def State.winLose (s : State) (sel : Nat → SrWin → Bool) : State :=
  { s with srmt := { s.srmt with
    win := s.srmt.win.map (fun e => if sel e.1 e.2 then (e.1, { winDefault with gen := e.2.gen }) else e) } }

/-- The event that tells a partition of the loss: class letter and function. -/
def State.srmtEvent (s : State) (p letter v : Nat) : State := s.raiseEvent 4 p (le 1 letter ++ le 1 v)

/-- A partition reset. -/
def State.srmtPartReset (s : State) (p : Nat) : State :=
  let vfs := s.vfsOf p
  let s := s.ctxLose (fun k _ => k / 2 ^ 20 == p)
  let s := (s.srmtUncreate vfs.contains).winLose (fun k _ => k / 2 ^ 17 == p)
  let s := { s with srmt := { s.srmt with sq := Tab.erase s.srmt.sq (64 * 64 + p) } }
  (s.srmtEvent p 0x54 0).srmtStatus

/-- A Function Level Reset. -/
def State.srmtFuncReset (s : State) (v : Nat) : State :=
  match s.vfPart v with
  | none => s.srmtUncreate (· == v)
  | some p =>
    let s := s.ctxLose (fun k c => k / 2 ^ 20 == p && c.vf == v)
    let s := (s.srmtUncreate (· == v)).winLose (fun k w => k / 2 ^ 17 == p && w.vf == v)
    (s.srmtEvent p 0x46 v).srmtStatus

/-- The exit of an Eclipse. -/
def State.srmtEclipse (s : State) : State :=
  let owners := (List.range 16).filter (fun p => s.srmt.ctx.any (fun e => e.1 / 2 ^ 20 == p && e.2.state != 0))
  let s := (s.ctxLose (fun _ _ => true)).srmtUncreate (fun _ => true)
  let s := { s with srmt := { s.srmt with miss := [] } }
  (owners.foldl (fun t p => t.srmtEvent p 0x45 0) s).srmtStatus

/-- P, H, K. -/
def State.srmtClear (s : State) : State := { s with srmt := ⟨[], [], [], [], [], [], []⟩ }

/-! The commands. -/

/-- SRMT_SQ_DB (R447). -/
def execSrmtSqDb (q : QRef) (v : Word) (s : State) : Host.Outcome State Fault Refusal :=
  s.answer (s.vfGate (fun s => s.sqDoorbell q.vf q.q (v.toNat % 65536)))

/-- SRMT_RQ_DB (R447). -/
def execSrmtRqDb (q : QRef) (v : Word) (s : State) : Host.Outcome State Fault Refusal :=
  s.answer (s.vfGate (fun s => s.rqDoorbell q.vf q.q (v.toNat % 65536)))

/-- SRMT_CQ_DB (R452). -/
def execSrmtCqDb (q : QRef) (v : Word) (s : State) : Host.Outcome State Fault Refusal := s.answer (s.vfGate (fun s => s.cqDoorbell q.vf q.q v))

/-- SRMT_AQ_DB (R454). -/
def execSrmtAqDb (v : Fin 64) (w : Word) (s : State) : Host.Outcome State Fault Refusal :=
  s.answer (s.vfGate (fun s => s.aqDoorbell v (w.toNat % 256)))

/-- SQ_NOP (R449). -/
def execSqNop (q : QRef) (s : State) : Host.Outcome State Fault Refusal := s.answer (s.sqStart 0 q.vf q.q)

/-- SQ_SEND (R449). -/
def execSqSend (q : QRef) (s : State) : Host.Outcome State Fault Refusal := s.answer (s.sqStart 1 q.vf q.q)

/-- SQ_WRITE (R449). -/
def execSqWrite (q : QRef) (s : State) : Host.Outcome State Fault Refusal := s.answer (s.sqStart 2 q.vf q.q)

/-- SQ_READ (R449). -/
def execSqRead (q : QRef) (s : State) : Host.Outcome State Fault Refusal := s.answer (s.sqStart 3 q.vf q.q)

/-- SQ_ENTRY_COMPLETE (R449). -/
def execSqEntryComplete (q : QRef) (s : State) : Host.Outcome State Fault Refusal :=
  s.answer (s.unitAct (fun s => s.sqComplete q.vf q.q))

/-- CREATE_CQ (R454). -/
def execCreateCq (v : Fin 64) (s : State) : Host.Outcome State Fault Refusal :=
  s.answer (s.unitAct (fun s => s.aqRun 1 v (fun t _ e => t.aqCreateCq v e)))

/-- CREATE_SQ (R454). -/
def execCreateSq (v : Fin 64) (s : State) : Host.Outcome State Fault Refusal :=
  s.answer (s.unitAct (fun s => s.aqRun 2 v (fun t p e => t.aqCreateSq p v e)))

/-- CREATE_RQ (R454). -/
def execCreateRq (v : Fin 64) (s : State) : Host.Outcome State Fault Refusal :=
  s.answer (s.unitAct (fun s => s.aqRun 3 v (fun t _ e => t.aqCreateRq v e)))

/-- DESTROY (R454). -/
def execDestroy (v : Fin 64) (s : State) : Host.Outcome State Fault Refusal :=
  s.answer (s.unitAct (fun s => s.aqRun 4 v (fun t p e => t.aqDestroy p v e)))

/-- OPEN_CONN (R454). -/
def execOpenConn (v : Fin 64) (s : State) : Host.Outcome State Fault Refusal :=
  s.answer (s.unitAct (fun s => s.aqRun 0x10 v (fun t p e => t.aqOpenConn p v e)))

/-- CLOSE_CONN (R440). -/
def execCloseConn (v : Fin 64) (s : State) : Host.Outcome State Fault Refusal :=
  s.answer (s.unitAct (fun s => s.aqRun 0x11 v (fun t p e => t.aqCloseConn p v e)))

/-- OPEN_WINDOW (R455). -/
def execOpenWindow (v : Fin 64) (s : State) : Host.Outcome State Fault Refusal :=
  s.answer (s.unitAct (fun s => s.aqRun 0x20 v (fun t p e => t.aqOpenWindow p v e)))

/-- REVOKE_WINDOW (R455). -/
def execRevokeWindow (v : Fin 64) (s : State) : Host.Outcome State Fault Refusal :=
  s.answer (s.unitAct (fun s => s.aqRun 0x21 v (fun t p e => t.aqRevokeWindow p v e)))

/-- WINDOW_OPEN_EFFECT (R455). -/
def execWindowOpenEffect (v : Fin 64) (s : State) : Host.Outcome State Fault Refusal :=
  s.answer (s.unitAct (fun s => s.winEffect v true))

/-- REVOKE_COMPLETE (R455). -/
def execRevokeComplete (v : Fin 64) (s : State) : Host.Outcome State Fault Refusal :=
  s.answer (s.unitAct (fun s => s.winEffect v false))

end Sys2Proof.Machine
end

