-- ==== Sys2Proof/Machine/Ckpt.lean ====
section
/-! DEFINITION. The checkpoint engines: triggers, cuts, Skims, Cures and restores (chapter Checkpoint: Skim and Cure). -/

namespace Sys2Proof.Machine

/-! State. -/

def State.ckPhase (s : State) (p : Nat) : Nat := s.fld (Reg.CK_STATUS p) Fld.CK_STATUS_PHASE
def State.setPhase (s : State) (p n : Nat) : State := s.setFld (Reg.CK_STATUS p) Fld.CK_STATUS_PHASE n
def State.ckResult (s : State) (p n : Nat) : State := s.setFld (Reg.CK_STATUS p) Fld.CK_STATUS_LAST_RESULT n
def State.ckBase (s : State) (p : Nat) (b : Bool) : State := s.setFld (Reg.CK_STATUS p) Fld.CK_STATUS_BASE_NEXT (if b then 1 else 0)
def State.ckGen (s : State) (p : Nat) : Nat := s.reg64 (Reg.CK_GEN_LO p) (Reg.CK_GEN_HI p)
def State.ckStepTarget (s : State) (p : Nat) : Nat := s.reg64 (Reg.CK_STEP_TARGET_LO p) (Reg.CK_STEP_TARGET_HI p)

/-- CK_DIRTY counted again over the range in force. -/
def State.ckRecount (s : State) (p : Nat) : State :=
  let (lo, hi) := s.ckRange p
  let c := s.ckpt p
  let clean := (c.gran.filter (fun e => decide (lo ≤ e.1) && decide (e.1 < hi))).length
  s.ckDirty p (hi - lo - clean)

/-! Triggers (R536–R538). -/

/-- Whether a partition's engine may act on a trigger. -/
def State.ckRuns (s : State) (p : Nat) : Bool := !s.computeHeld && s.ownerRuns (some p)

/-- A trigger: its cut is due at the next mark, or it is held, or it merges with one held. -/
def State.ckTrigger (s : State) (p : Nat) : State :=
  if !s.flag (Reg.CK_CTRL p) Fld.CK_CTRL_EN then s
  else if s.flag (Reg.CK_STATUS p) Fld.CK_STATUS_TRIGGER_HELD then s.bump (Reg.CK_CNT_MERGED p) Fld.CK_CNT_MERGED_COUNT
  else if s.ckPhase p != 0 || !s.ckRuns p then s.setFld (Reg.CK_STATUS p) Fld.CK_STATUS_TRIGGER_HELD 1
  else
    let c := s.ckpt p
    if c.trig.isSome then s else s.setCkpt p { c with trig := some (s.orbitN + 1) }

/-- At a mark, a held trigger that can be acted on makes its cut due (R538). -/
def State.ckHeldMark (s : State) (p : Nat) : State :=
  if s.flag (Reg.CK_STATUS p) Fld.CK_STATUS_TRIGGER_HELD && s.ckPhase p == 0 && s.ckRuns p then
    (s.setFld (Reg.CK_STATUS p) Fld.CK_STATUS_TRIGGER_HELD 0).setCkpt p { s.ckpt p with trig := some s.orbitN }
  else s

/-- CHECKPOINT_TIMER (R536). -/
def State.ckTimer (s : State) (p : Nat) : State :=
  let n := s.fld (Reg.CK_INTERVAL p) Fld.CK_INTERVAL_ORBITS
  if s.flag (Reg.CK_CFG p) Fld.CK_CFG_TRIG_TIMER && s.orbitN == (s.ckpt p).lastCut + n && n != 0 then s.ckTrigger p else s

/-- The ports that CK_STEP_PORTS names. -/
def State.ckPorts (s : State) (p : Nat) : List Nat :=
  (List.range 8).filter (fun n => s.bit (Reg.CK_STEP_PORTS p) Fld.CK_STEP_PORTS_PORTS n)

/-- Whether CK_STEP_PORTS names a port that the partition does not own. -/
def State.ckForeign (s : State) (p : Nat) : Bool := (s.ckPorts p).any (fun n => s.portOwner n != some p)

/-- A STEP_MARK from a port of the owner (R537). -/
def State.ckStep (s : State) (p n count : Nat) : State :=
  let c := s.ckpt p
  let s := s.setCkpt p { c with steps := Tab.set (fun _ => 0) c.steps n count }
  if !(s.flag (Reg.CK_CTRL p) Fld.CK_CTRL_EN && s.flag (Reg.CK_CFG p) Fld.CK_CFG_TRIG_STEP) then s
  else if s.ckForeign p then s.setFld (Reg.CK_EVENT p) Fld.CK_EVENT_BAD_CONFIG 1
  else
    let ports := s.ckPorts p
    let target := s.ckStepTarget p
    if !ports.isEmpty && ports.all (fun k => decide (target ≤ Tab.get (fun _ => 0) (s.ckpt p).steps k)) then
      (s.setReg64 (Reg.CK_STEP_TARGET_LO p) (Reg.CK_STEP_TARGET_HI p)
        (target + s.fld (Reg.CK_STEP_EVERY p) Fld.CK_STEP_EVERY_STEPS)).ckTrigger p
    else s

/-! The cut (R539, R540, R547). -/

/-- Whether the range and the Skim area are as R534 asks. -/
def State.ckConfigOk (s : State) (p : Nat) : Bool :=
  let (lo, hi) := s.ckRange p
  let n := s.spaceSize (.part p) / 65536
  let base := s.skimBase p
  let len := s.fld (Reg.CK_SKIM_LEN p) Fld.CK_SKIM_LEN_GRANULES
  decide (lo ≤ hi) && decide (hi ≤ n) && base % 65536 == 0 && decide (base / 65536 + len ≤ n)
    && !runsMeet lo (hi - lo) (base / 65536) len

/-- CHAIN_MAX as it acts. -/
def State.chainMax (s : State) (p : Nat) : Nat := max 1 (s.fld (Reg.CK_CFG p) Fld.CK_CFG_CHAIN_MAX)

/-- Whether a delta of some granules would bring the chain to its limit (R547). -/
def State.chainFull (s : State) (p g : Nat) : Bool :=
  match (s.ckpt p).newest with
  | none => true
  | some m =>
    decide (s.chainMax p ≤ (m.entries.map CkEntry.gen).dedup.length + 1)
      || decide (65536 ≤ m.entries.length + (g + 16383) / 16384)

/-- A cut refused (R539). -/
def State.cutRefuse (s : State) (p result : Nat) : State :=
  let c := s.ckpt p
  let s := (s.setCkpt p { c with trig := none }).ckResult p result
  let s := if result = 2 then s.setFld (Reg.CK_EVENT p) Fld.CK_EVENT_BAD_CONFIG 1 else s
  let s := s.raiseEvent 5 p (le 1 result ++ le 8 (s.ckGen p))
  (s.setFld (Reg.CK_EVENT p) Fld.CK_EVENT_FAILED 1).bump (Reg.CK_CNT_FAIL p) Fld.CK_CNT_FAIL_COUNT

/-- CUT (R539): at its mark, DIRTY granules become PENDING, or the cut is refused. -/
def State.ckCut (s : State) (p : Nat) : State :=
  let c := s.ckpt p
  match c.trig with
  | none => s
  | some due =>
    if s.orbitN < due then s
    else if !s.ckRuns p || s.ckPhase p != 0 then
      (s.setCkpt p { c with trig := none }).setFld (Reg.CK_STATUS p) Fld.CK_STATUS_TRIGGER_HELD 1
    else
      let (lo, hi) := s.ckRange p
      let dirty := ((List.range (hi - lo)).map (lo + ·)).filter (fun g => c.state g == .dirty)
      let base := s.flag (Reg.CK_STATUS p) Fld.CK_STATUS_BASE_NEXT || s.chainFull p dirty.length
      let grans := if base then (List.range (hi - lo)).map (lo + ·) else dirty
      if !s.ckConfigOk p || s.ckForeign p then s.cutRefuse p 2
      else if s.fld (Reg.CK_SKIM_LEN p) Fld.CK_SKIM_LEN_GRANULES < grans.length then s.cutRefuse p 1
      else
        let c := grans.foldl (fun c g => c.mark g .pending) c
        let c := { c with
          trig := none, lastCut := s.orbitN, copying := []
          skimEnd := if grans.isEmpty then some (s.orbitN + 1) else none
          cut := some ⟨s.orbitN, s.devNs, grans, if s.flag (Reg.CK_CFG p) Fld.CK_CFG_TRIG_STEP then s.ckStepTarget p else 0, base,
            s.epoch p⟩ }
        let s := ((s.setCkpt p c).setPhase p 1).ckDirty p 0
        let s := (s.ckBase p base).setFld (Reg.CK_PROGRESS p) Fld.CK_PROGRESS_GRANULES 0
        s.bump (Reg.CK_CNT_CUTS p) Fld.CK_CNT_CUTS_COUNT

/-! Copies (R541–R543). -/

/-- SKIM_SLICE: up to SLICE granules begin their copies, in ascending order. -/
def State.skimSlice (s : State) (p : Nat) : State :=
  let c := s.ckpt p
  if s.ckPhase p != 1 || s.computeHeld then s
  else
    let n := max 1 (s.fld (Reg.CK_CFG p) Fld.CK_CFG_SLICE)
    let next := (c.pendingLeft.filter (fun g => !c.copying.contains g)).take n
    s.setCkpt p { c with copying := c.copying ++ next }

/-- COW_FORCED_COPY: a PENDING granule's copy begins at once, up to half as many as the partition has channels. -/
def State.forcedCopy (s : State) (p g : Nat) : State :=
  let c := s.ckpt p
  if c.state g ≠ .pending || c.copying.contains g || decide ((s.pkgsOf p).length * 8 / 2 ≤ c.copying.length) then s
  else s.setCkpt p { c with copying := g :: c.copying }

/-- GRANULE_COPY_COMPLETE: a copy that has begun ends. -/
def State.copyDone (s : State) (p g : Nat) : State := if (s.ckpt p).copying.contains g then s.granCopy p g else s

/-! Manifests (R547, R551). -/

/-- Bytes of a shard entry. -/
def CkEntry.bytes (e : CkEntry) : Bytes :=
  le 8 e.gen ++ le 4 e.shard ++ le 4 e.count ++ le 4 e.extent ++ zeros 12 ++ fixLen 64 e.digest

/-- A shard entry read from a manifest. -/
def ckEntryOf (b : Bytes) : CkEntry := ⟨leAt b 0 8, leAt b 8 4, leAt b 12 4, leAt b 16 4, slice b 32 64⟩

/-- The bytes of a manifest before its MAC. -/
def State.manifestBody (s : State) (p : Nat) (cut : CkCut) (gen baseGen : Nat) (entries : List CkEntry) : Bytes :=
  let (lo, hi) := s.ckRange p
  le 4 0x434B4D46 ++ le 4 1 ++ le 8 gen ++ le 8 baseGen ++ le 8 cut.orbit ++ le 8 cut.time ++ le 4 lo ++ le 4 hi ++ le 8 cut.step
    ++ le 4 entries.length ++ le 1 p ++ le 1 cut.epoch ++ le 2 0 ++ (entries.map CkEntry.bytes).flatten

/-- The MAC of a manifest's body; none where the key is not to be had. -/
def State.manifestMac (s : State) (p : Nat) (b : Bytes) : State × Option Bytes :=
  match s.mac p Client.ckpt 2 0 b 64 (ascii "RLQ74-CKPT") with
  | (s, 0, m) => (s, some m)
  | (s, _, _) => (s, none)

/-- The MAC bytes that a manifest slot holds. -/
def rawMac (b : Bytes) : Bytes := slice b (64 + 96 * leAt b 0x38 4) 64

/-- A valid manifest of the partition in a slot's bytes (R551). -/
def State.manifestOf (s : State) (p slot : Nat) (b : Bytes) : State × Option CkManifest :=
  let n := leAt b 0x38 4
  if leAt b 0 4 != 0x434B4D46 || n == 0 || decide (65536 < n) then (s, none)
  else
    let (s, m) := s.manifestMac p (slice b 0 (64 + 96 * n))
    let (lo, hi) := s.ckRange p
    if m == some (rawMac b) && byteAt b 0x3C == p && byteAt b 0x3D == s.epoch p && leAt b 0x28 4 == lo && leAt b 0x2C 4 == hi then
      (s, some ⟨slot, leAt b 8 8, leAt b 16 8, (List.range n).map (fun j => ckEntryOf (slice b (64 + 96 * j) 96)), rawMac b⟩)
    else (s, none)

/-! The remote side (R549). -/

/-- The queue of a checkpoint engine on its connection: the entries in progress. -/
def State.ckRemoteEnts (s : State) (p : Nat) : List SrEnt := (s.sq 64 p).ents

/-- Whether the connection is open and at hand. -/
def State.ckConnOk (s : State) (p : Nat) : Bool :=
  let c := s.ctx p (s.fld (Reg.CK_REMOTE_CONN p) Fld.CK_REMOTE_CONN_CONN)
  c.state == 2

/-- A message run of the engine's own: a WRITE of bytes or a READ, at an offset of the remote window. -/
def State.ckRemote (s : State) (p op off len : Nat) (d : Bytes) : State :=
  let conn := s.fld (Reg.CK_REMOTE_CONN p) Fld.CK_REMOTE_CONN_CONN
  let unit := 256 * pmtuBytes (s.ctx p conn).pmtu
  let base := s.reg64 (Reg.CK_REMOTE_OFS_LO p) (Reg.CK_REMOTE_OFS_HI p)
  let e : SrEnt := ⟨0, op, conn, 0, false, len, false, 0, s.fld (Reg.CK_REMOTE_WIN p) Fld.CK_REMOTE_WIN_HANDLE, base + off,
    max 1 ((len + unit - 1) / unit), 0, [], if s.ckConnOk p then none else some (3, 0), some d⟩
  let x := s.sq 64 p
  let shq := s.fld (Reg.CK_REMOTE_SHQ p) Fld.CK_REMOTE_SHQ_QUEUE
  let busy := x.ents.any (fun y => !y.finished)
  let (s, e) := if busy || e.status.isSome then (s, e) else s.takeMsgs p shq e 64
  let x := s.sq 64 p
  s.setSq 64 p { x with shq := shq, ents := x.ents ++ [e] }

/-- Entries of the engine that follow a finished one take their messages. -/
def State.ckRemotePump (s : State) (p : Nat) : State :=
  let x := s.sq 64 p
  match x.ents.find? (fun e => !e.finished) with
  | some e =>
    let (s, e') := s.takeMsgs p x.shq e 64
    let x := s.sq 64 p
    s.setSq 64 p { x with ents := (x.ents.takeWhile SrEnt.finished) ++ e' :: (x.ents.dropWhile SrEnt.finished).tail }
  | none => s

/-- The byte offset of an extent in the region, and of a manifest slot (R544). -/
def extentOff (e : Nat) : Nat := (4096 + 262160 * e) * 4096
def slotOff (k : Nat) : Nat := 2048 * k * 4096

/-! The Cure (R544–R549). -/

/-- Whether a Cure may run. -/
def State.cureRuns (s : State) (p : Nat) : Bool :=
  s.cartState == 2 && !s.flag (Reg.CK_CTRL p) Fld.CK_CTRL_CURE_PAUSE && !s.computeHeld

/-- Granules of a shard. -/
def shardGrans (cut : CkCut) (i : Nat) : List Nat := (cut.grans.drop (16384 * i)).take 16384

/-- The plain text of a shard: its directory and its granules from the Skim area (R545). -/
def State.shardPlain (s : State) (p : Nat) (cut : CkCut) (i : Nat) : State × Option Bytes :=
  let gs := shardGrans cut i
  let dir := (gs.map (le 4)).flatten
  let dir := dir ++ List.replicate (65536 - dir.length) 0xFF
  match s.partRead p (s.skimBase p + 65536 * (16384 * i)) (65536 * gs.length) with
  | (s, .inl d) => (s, some (dir ++ d))
  | (s, .inr _) => (s, none)

/-- A Cure set. -/
def State.setCure (s : State) (p : Nat) (u : CkCure) : State := s.setCkpt p { s.ckpt p with cure := some u }

/-- A cartridge command of a Cure queued in class 4 (R525). -/
def State.cureCmd (s : State) (p : Nat) (u : CkCure) (op : CartOp) : State :=
  (s.setCure p { u with cmd := some (s.cartId p) }).cartAdd 4 p op (.cure p)

/-- A shard read from the Skim area, encrypted and sent (R545, R546, R549). -/
def State.cureShard (s : State) (p : Nat) (u : CkCure) (cut : CkCut) (i : Nat) : State :=
  match s.shardPlain p cut i with
  | (s, none) => s.ckFail p 7
  | (s, some d) =>
    match s.xtsKey p 3 0 with
    | (s, .inl _) => s.ckFail p 5
    | (s, .inr key) =>
      let (s, ct) := s.xts p Client.ckpt false key 4096 (u.gen * 2 ^ 64 + i * 2 ^ 32) d
      let (s, dg) := s.shake p Client.ckpt ct 64
      let x := u.extents.getD i 0
      let e : CkEntry := ⟨u.gen, i, (shardGrans cut i).length, x, dg⟩
      let u := { u with entries := u.entries.filter (fun y => y.shard != i) ++ [e] }
      let s := if s.flag (Reg.CK_CFG p) Fld.CK_CFG_REMOTE then s.ckRemote p 2 (extentOff x) ct.length ct else s
      s.cureCmd p u (.write ((s.ckRegion p).1 + 4096 + 262160 * x) ct false)

/-- The manifest of a Cure written with FUA into the slot that does not hold the newest valid one (R548). -/
def State.cureManifest (s : State) (p : Nat) (u : CkCure) (cut : CkCut) : State :=
  let c := s.ckpt p
  let old := if cut.base then [] else (c.newest.map CkManifest.entries).getD []
  let baseGen := if cut.base then u.gen else (c.newest.map CkManifest.baseGen).getD u.gen
  let slot := match c.newest with
    | some m => 1 - m.slot
    | none => 0
  let body := s.manifestBody p cut u.gen baseGen (old ++ u.entries)
  match s.manifestMac p body with
  | (s, none) => s.ckFail p 5
  | (s, some mac) =>
    let b := body ++ mac
    let u := { u with manifest := some ⟨slot, u.gen, baseGen, old ++ u.entries, mac⟩ }
    s.cureCmd p u (.write ((s.ckRegion p).1 + 2048 * slot) (padTo ((b.length + 4095) / 4096 * 4096) b) true)

/-- A Cure goes on with its next step, or pauses (R548, R553). -/
def State.cureStep (s : State) (p : Nat) : State :=
  let c := s.ckpt p
  match c.cure, c.cut with
  | some u, some cut =>
    if !s.cureRuns p then s.setPhase p 3
    else
      let s := s.setPhase p 2
      if u.cmd.isSome then s
      else
        match u.next with
        | .stale [] => s
        | .stale (x :: _) =>
          s.cureCmd p u (.read ((s.ckRegion p).1 + 4096 + 262160 * x) 262160)
        | .shard i => if 16384 * i < cut.grans.length then s.cureShard p u cut i else s.cureCmd p { u with next := .flush } .flush
        | .flush => s.cureCmd p u .flush
        | .manifest => s.cureManifest p u cut
        | .written => s
  | _, _ => s

/-- The extents free for a Cure, lowest first (R546). -/
def State.freeExtents (s : State) (p : Nat) : List Nat :=
  let used := match (s.ckpt p).newest with
    | some m => m.entries.map CkEntry.extent
    | none => []
  (List.range (((s.ckRegion p).2 - 4096) / 262160)).filter (fun e => !used.contains e)

/-- CURE_START (R546, R548): at the first mark after the Skim ends, or once what paused it is gone. -/
def State.cureStart (s : State) (p : Nat) : State :=
  let c := s.ckpt p
  match c.skimEnd, c.cut with
  | some due, some cut =>
    if s.orbitN < due || (s.ckPhase p != 1 && s.ckPhase p != 3) || c.cure.isSome then s
    else if !s.cureRuns p then s.setPhase p 3
    else
      let need := (cut.grans.length + 16383) / 16384
      let free := s.freeExtents p
      if free.length < need then s.ckFail p 3
      else
        let gen := s.ckGen p
        let s := s.setReg64 (Reg.CK_GEN_LO p) (Reg.CK_GEN_HI p) (gen + 1)
        let take := free.take need
        let stale := s.flag (Reg.CK_CFG p) Fld.CK_CFG_REMOTE && s.flag (Reg.CK_STATUS p) Fld.CK_STATUS_REMOTE_STALE
        let old := ((c.newest.map CkManifest.entries).getD []).map CkEntry.extent
        let next : CureStep := if stale && !old.isEmpty then .stale old else .shard 0
        let s := s.setCure p ⟨gen, take, [], next, none, none, true, false⟩
        (s.setFld (Reg.CK_PROGRESS p) Fld.CK_PROGRESS_GRANULES 0).cureStep p
  | _, _ => s

/-- A cartridge command of a Cure completed. -/
def State.cureCompletion (s : State) (p : Nat) (op : CartOp) (r : CartResult) : State :=
  let c := s.ckpt p
  match c.cure with
  | none => s
  | some u =>
    let u := { u with cmd := none }
    match r with
    | .fail => s.ckFail p 6
    | .ok d =>
      match u.next, op with
      | .stale (x :: t), .read _ _ =>
        let s := s.ckRemote p 2 (extentOff x) d.length d
        (s.setCure p { u with next := if t.isEmpty then .shard 0 else .stale t }).cureStep p
      | .shard i, _ =>
        let n := match c.cut with
          | some cut => (shardGrans cut i).length
          | none => 0
        ((s.setCure p { u with next := .shard (i + 1) }).bumpBy (Reg.CK_PROGRESS p) Fld.CK_PROGRESS_GRANULES n).cureStep p
      | .flush, _ => (s.setCure p { u with next := .manifest }).cureStep p
      | .manifest, _ => s.setCure p { u with next := .written }
      | _, _ => s.setCure p u

/-- The end of a Cure (R548): HELD granules become CLEAN, DONE is set. -/
def State.cureEnd (s : State) (p : Nat) (u : CkCure) (m : CkManifest) : State :=
  let c := s.ckpt p
  let grans := (c.cut.map CkCut.grans).getD []
  let c := grans.foldl (fun c g => if c.state g = .held then c.mark g .clean else c) c
  let c := { c with
    cut := none, cure := none, skimEnd := none, other := c.newest, newest := some m
    macs := (m.slot, m.mac) :: c.macs.filter (fun e => e.1 != m.slot) }
  let x := s.sq 64 p
  let s := ((s.setCkpt p c).setSq 64 p { x with ents := [] }).setPhase p 0
  let s := (s.ckResult p 0).ckBase p false
  let s := s.setReg64 (Reg.CK_LAST_GEN_LO p) (Reg.CK_LAST_GEN_HI p) u.gen
  (s.setFld (Reg.CK_EVENT p) Fld.CK_EVENT_DONE 1).raiseEvent 5 p (le 1 0 ++ le 8 u.gen)

/-- A remote failure of a Cure (R549). -/
def State.cureRemoteFail (s : State) (p : Nat) (u : CkCure) : State :=
  ((s.setCure p { u with remoteOk := false }).setFld (Reg.CK_EVENT p) Fld.CK_EVENT_REMOTE_FAIL 1).setFld (Reg.CK_STATUS p)
    Fld.CK_STATUS_REMOTE_STALE 1

/-- CURE_DONE (R548, R549): the manifest is written; with a remote side, its shards have ended and its manifest has been
sent and has ended. -/
def State.cureDone (s : State) (p : Nat) : State :=
  let s := s.ckRemotePump p
  let c := s.ckpt p
  match c.cure with
  | none => s
  | some u =>
    if u.next ≠ .written then s
    else
      match u.manifest with
      | none => s
      | some m =>
        let ents := s.ckRemoteEnts p
        if !s.flag (Reg.CK_CFG p) Fld.CK_CFG_REMOTE || !u.remoteOk then s.cureEnd p u m
        else if ents.any (fun e => e.status.isSome) then
          let s := s.cureRemoteFail p u
          s.cureEnd p u m
        else if ents.any (fun e => !e.finished) then s
        else if u.remoteSent then (s.setFld (Reg.CK_STATUS p) Fld.CK_STATUS_REMOTE_STALE 0).cureEnd p u m
        else
          match c.cut with
          | none => s
          | some cut =>
            let b := s.manifestBody p cut m.gen m.baseGen m.entries ++ m.mac
            (s.setCure p { u with remoteSent := true }).ckRemote p 2 (slotOff m.slot) b.length b

/-! Restore (R550, R551). -/

/-- A restore refused. -/
def State.rstRefuse (s : State) (p result : Nat) : State := s.ckResult p result

/-- A restore set. -/
def State.setRst (s : State) (p : Nat) (r : CkRestore) : State := s.setCkpt p { s.ckpt p with restore := some r }

/-- A read of the region from the restore's source: bytes from a byte offset. -/
def State.rstRead (s : State) (p : Nat) (r : CkRestore) (off len : Nat) : State :=
  if r.remote then
    let x := s.sq 64 p
    ((s.setRst p { r with cmd := some 0 }).setSq 64 p { x with ents := [] }).ckRemote p 3 off len []
  else
    (s.setRst p { r with cmd := some (s.cartId p) }).cartAdd 4 p (.read ((s.ckRegion p).1 + off / 4096) (len / 4096)) (.restore p)

/-- A write of CK_RST_CTRL with GO (R550). -/
def State.rstStart (s : State) (p : Nat) (remote : Bool) : State :=
  if !s.isFrozen p then s.rstRefuse p 0x10
  else if s.ckPhase p != 0 then s.rstRefuse p 0x11
  else if (if remote then !s.ckConnOk p else s.cartState != 2) then s.rstRefuse p 0x13
  else
    let s := (s.setPhase p 4).setFld (Reg.CK_RST_STATUS p) Fld.CK_RST_STATUS_BUSY 1
    s.rstRead p ⟨remote, [], none, [], none, none⟩ (slotOff 0) (2048 * 4096)

/-- A restore goes on with the next shard of its manifest, or has its outcome. -/
def State.rstNext (s : State) (p : Nat) (r : CkRestore) : State :=
  match r.left with
  | [] => s.setRst p { r with result := some 0, cmd := none }
  | e :: _ => s.rstRead p r (extentOff e.extent) (65536 * (e.count + 1))

/-- Both slots read: the valid manifest with the higher generation is taken, or another once it has failed. -/
def State.rstChoose (s : State) (p : Nat) (r : CkRestore) (tried : Option Nat) : State :=
  let (s, a) := s.manifestOf p 0 (((r.raw.find? (fun e => e.1 == 0)).map Prod.snd).getD [])
  let (s, b) := s.manifestOf p 1 (((r.raw.find? (fun e => e.1 == 1)).map Prod.snd).getD [])
  let l := (a.toList ++ b.toList).filter (fun m => some m.slot != tried)
  let best := match l with
    | [x, y] => some (if x.gen < y.gen then y else x)
    | [x] => some x
    | _ => none
  match best with
  | none => s.setRst p { r with result := some 0x12, cmd := none }
  | some m => s.rstNext p { r with trying := some m, left := m.entries }

/-- The granules of a shard written to their places; the R94 code of a line that fails. -/
def State.rstPlace (s : State) (p : Nat) : List Nat → Nat → Bytes → State × Nat
  | [], _, _ => (s, 0)
  | g :: t, i, d =>
    let (s, st) := s.writeBytes (.part p) (65536 * g) (slice d (65536 * (i + 1)) 65536)
    if st.good then State.rstPlace s p t (i + 1) d else (s, 0x20 + st.code)

/-- The bytes of a shard: checked, decrypted and placed. A digest that fails turns to the other slot once; a third entry of
`raw` marks that it has. -/
def State.rstShard (s : State) (p : Nat) (r : CkRestore) (e : CkEntry) (ct : Bytes) : State :=
  let (s, dg) := s.shake p Client.ckpt ct 64
  if dg != fixLen 64 e.digest then
    if r.raw.any (fun x => x.1 == 2) then s.setRst p { r with result := some 0x12, cmd := none }
    else s.rstChoose p { r with raw := r.raw ++ [(2, [])] } (r.trying.map CkManifest.slot)
  else
    match s.xtsKey p 3 0 with
    | (s, .inl _) => s.setRst p { r with result := some 0x12, cmd := none }
    | (s, .inr key) =>
      let (s, d) := s.xts p Client.ckpt true key 4096 (e.gen * 2 ^ 64 + e.shard * 2 ^ 32) ct
      let gs := (List.range e.count).map (fun j => leAt d (4 * j) 4)
      match s.rstPlace p gs 0 d with
      | (s, 0) => s.rstNext p { r with left := r.left.tail }
      | (s, code) => s.setRst p { r with result := some code, cmd := none }

/-- What a read of a restore brought: a slot, or a shard. -/
def State.rstGot (s : State) (p : Nat) (d : Option Bytes) : State :=
  match (s.ckpt p).restore with
  | none => s
  | some r =>
    let r := { r with cmd := none }
    match r.trying with
    | none =>
      let k := r.raw.length
      let r := { r with raw := r.raw ++ [(k, d.getD [])] }
      if k = 0 then s.rstRead p r (slotOff 1) (2048 * 4096) else s.rstChoose p r none
    | some _ =>
      match r.left with
      | [] => s
      | e :: _ => s.rstShard p r e (d.getD [])

/-- The end of a restore (R551). -/
def State.rstEnd (s : State) (p : Nat) (r : CkRestore) (result : Nat) : State :=
  let c := { s.ckpt p with restore := none }
  let s := ((s.setCkpt p c).setPhase p 0).ckResult p result
  let s := s.setFld (Reg.CK_RST_STATUS p) Fld.CK_RST_STATUS_BUSY 0
  if result = 0 then
    let (lo, hi) := s.ckRange p
    let c := (List.range (hi - lo)).foldl (fun c i => c.mark (lo + i) .clean) (s.ckpt p)
    let gen := (r.trying.map CkManifest.gen).getD 0
    let s := ((s.setCkpt p { c with newest := r.trying }).ckDirty p 0).ckBase p false
    s.setReg64 (Reg.CK_LAST_GEN_LO p) (Reg.CK_LAST_GEN_HI p) gen
  else s

/-- RESTORE_END: a restore with its outcome ends; one that reads its remote window takes what has arrived. -/
def State.rstAdvance (s : State) (p : Nat) : State :=
  match (s.ckpt p).restore with
  | none => s
  | some r =>
    match r.result with
    | some n => s.rstEnd p r n
    | none =>
      if !r.remote then s
      else
        let s := s.ckRemotePump p
        match s.ckRemoteEnts p with
        | [e] =>
          if !e.finished then s
          else
            let s := s.rstGot p (if e.status.isSome then none else e.data)
            match (s.ckpt p).restore.bind CkRestore.result with
            | some n => s.rstEnd p (((s.ckpt p).restore).getD r) n
            | none => s
        | _ => s

/-! Mount, pauses, resets (R548, R553). -/

/-- Manifests of a partition weighed: the newest valid one and the other. -/
def CkSt.hold (c : CkSt) (slot : Nat) (m : Option CkManifest) : CkSt :=
  let l := (c.newest.toList ++ c.other.toList).filter (fun x => x.slot != slot)
  match m, l with
  | none, x :: _ => { c with newest := some x, other := none }
  | none, [] => { c with newest := none, other := none }
  | some m, x :: _ => if x.gen < m.gen then { c with newest := some m, other := some x } else { c with newest := some x, other := some m }
  | some m, [] => { c with newest := some m, other := none }

/-- A manifest slot read at a mount (R548, R553). -/
def State.ckMounted (s : State) (p slot : Nat) (d : Option Bytes) : State :=
  let b := d.getD []
  let gen := leAt b 8 8
  let s := if leAt b 0 4 == 0x434B4D46 && decide (s.ckGen p ≤ gen) then s.setReg64 (Reg.CK_GEN_LO p) (Reg.CK_GEN_HI p) (gen + 1) else s
  let (s, m) := s.manifestOf p slot b
  let known := ((s.ckpt p).macs.find? (fun e => e.1 == slot)).map Prod.snd
  let s := if s.ckPhase p == 3 && (s.ckpt p).cure.isSome && known != some (rawMac b) && (known.isSome || m.isSome) then
      (s.ckFail p 5).ckBase p true
    else s
  let c := s.ckpt p
  let s := s.setCkpt p { c.hold slot m with macs := (slot, rawMac b) :: c.macs.filter (fun e => e.1 != slot) }
  match (s.ckpt p).newest with
  | some m => s.setReg64 (Reg.CK_LAST_GEN_LO p) (Reg.CK_LAST_GEN_HI p) m.gen
  | none => s

/-- Every Cure goes on if it may, or pauses. -/
def State.ckAll (s : State) : State := (List.range 16).foldl (fun t p => t.cureStep p) s

/-- The cartridge is gone: commands of Cures and restores with it. -/
def State.ckCartGone (s : State) : State :=
  (List.range 16).foldl (fun t p =>
    let c := t.ckpt p
    let t := match c.cure with
      | some u => (t.setCure p { u with cmd := none }).cureStep p
      | none => t
    match c.restore with
    | some r => if r.remote then t else t.setRst p { r with result := some 0x13, cmd := none }
    | none => t) s

/-- An abort (R553). -/
def State.ckAbandon (s : State) (p result : Nat) : State :=
  let x := s.sq 64 p
  let ph := s.ckPhase p
  if ph == 1 || ph == 2 || ph == 3 then (s.setSq 64 p { x with ents := [] }).ckFail p result else s

/-- What an epoch advance of the owner does (R553): no manifest is valid under the new epoch. -/
def State.ckEpoch (s : State) (p : Nat) : State :=
  let s := (s.ckAbandon p 5).ckBase p true
  s.setCkpt p { s.ckpt p with newest := none, other := none }

/-- A partition reset: every granule DIRTY, nothing in progress. -/
def State.ckPartReset (s : State) (p : Nat) : State :=
  let c := s.ckpt p
  let s := s.cartKill (fun w => decide (w = .cure p) || decide (w = .restore p))
  (s.setCkpt p { ckDefault with macs := c.macs, newest := c.newest, other := c.other }).ckRecount p

/-- Entry into an Eclipse: a Skim is abandoned, a restore lost; a Cure is kept and resumes at the exit (R553). -/
def State.ckEclipse (s : State) : State :=
  (List.range 16).foldl (fun t p =>
    let t := if t.ckPhase p == 1 then t.ckFail p 5 else t
    let c := t.ckpt p
    let t := t.setCkpt p { c with
      restore := none, cure := c.cure.map (fun u => { u with cmd := none })
      trig := none }
    t.cartKill (fun w => decide (w = .cure p) || decide (w = .restore p))) s

/-! Register writes. -/

/-- A write of CK_CTRL (R536, R539, R553). -/
def State.ckCtrl (s : State) (src : Src) (p : Nat) (v : Word) : State :=
  let k := Reg.CK_CTRL p
  let old := s.reg k
  let s := (s.setReg k (v &&& 0x11)).journal src k old v false s.orbitN
  let s := if v.getLsbD 3 then s.ckBase p true else s
  let s := if v.getLsbD 2 then s.ckAbandon p 4 else s
  let s := if v.getLsbD 1 then s.ckTrigger p else s
  s.cureStep p

/-- A write of CK_RST_CTRL. -/
def State.ckRst (s : State) (_src : Src) (p : Nat) (v : Word) : State := if v.getLsbD 31 then s.rstStart p (v.getLsbD 0) else s

/-! The commands. -/

/-- CHECKPOINT_TIMER (R536). -/
def execCheckpointTimer (p : Fin 16) (s : State) : Host.Outcome State Fault Refusal :=
  s.answer (s.unitAct (fun s => s.ckTimer p))

/-- CK_NOW (R536). -/
def execCkNow (src : Src) (p : Fin 16) (v : Word) (s : State) : Host.Outcome State Fault Refusal :=
  s.answer (s.hostGate src (Reg.CK_CTRL p) v (fun s => if v.getLsbD 1 then s.ckCtrl src p v else s))

/-- CK_ABORT (R553). -/
def execCkAbort (src : Src) (p : Fin 16) (v : Word) (s : State) : Host.Outcome State Fault Refusal :=
  s.answer (s.hostGate src (Reg.CK_CTRL p) v (fun s => if v.getLsbD 2 then s.ckCtrl src p v else s))

/-- CK_FORCE_BASE (R539). -/
def execCkForceBase (src : Src) (p : Fin 16) (v : Word) (s : State) : Host.Outcome State Fault Refusal :=
  s.answer (s.hostGate src (Reg.CK_CTRL p) v (fun s => if v.getLsbD 3 then s.ckCtrl src p v else s))

/-- CUT (R539). -/
def execCut (p : Fin 16) (s : State) : Host.Outcome State Fault Refusal := s.answer (s.unitAct (fun s => s.ckCut p))

/-- SKIM_SLICE (R541). -/
def execSkimSlice (p : Fin 16) (s : State) : Host.Outcome State Fault Refusal :=
  s.answer (s.unitAct (fun s => s.skimSlice p))

/-- COW_FORCED_COPY (R542). -/
def execCowForcedCopy (p : Fin 16) (g : BitVec 25) (s : State) : Host.Outcome State Fault Refusal :=
  s.answer (s.unitAct (fun s => s.forcedCopy p g.toNat))

/-- GRANULE_COPY_COMPLETE (R541). -/
def execGranuleCopyComplete (p : Fin 16) (g : BitVec 25) (s : State) : Host.Outcome State Fault Refusal :=
  s.answer (s.unitAct (fun s => s.copyDone p g.toNat))

/-- CURE_START (R546). -/
def execCureStart (p : Fin 16) (s : State) : Host.Outcome State Fault Refusal :=
  s.answer (s.unitAct (fun s => s.cureStart p))

/-- CURE_DONE (R548). -/
def execCureDone (p : Fin 16) (s : State) : Host.Outcome State Fault Refusal :=
  s.answer (s.unitAct (fun s => s.cureDone p))

/-- RESTORE_CARTRIDGE (R551). -/
def execRestoreCartridge (src : Src) (p : Fin 16) (v : Word) (s : State) : Host.Outcome State Fault Refusal :=
  s.answer (s.hostGate src (Reg.CK_RST_CTRL p) v (fun s => if v.getLsbD 0 then s else s.ckRst src p v))

/-- RESTORE_REMOTE (R550). -/
def execRestoreRemote (src : Src) (p : Fin 16) (v : Word) (s : State) : Host.Outcome State Fault Refusal :=
  s.answer (s.hostGate src (Reg.CK_RST_CTRL p) v (fun s => if v.getLsbD 0 then s.ckRst src p v else s))

/-- RESTORE_END (R551). -/
def execRestoreEnd (p : Fin 16) (s : State) : Host.Outcome State Fault Refusal :=
  s.answer (s.unitAct (fun s => s.rstAdvance p))

/-! Cartridge completions (R527), for every requester. -/

/-- A failed write's retry: the same command goes out again. -/
def State.cartRetry (s : State) (c : CartCmd) : State :=
  ({ s with stg := { s.stg with cart := s.stg.cart.map (fun (x : CartCmd) => if x.id == c.id then { x with tries := x.tries + 1, issued := false } else x) } }).cartPump
    256

/-- A tenant command's cartridge part failed. -/
def State.cmdFail (s : State) (id st : Nat) : State :=
  match s.cmdFind id with
  | some c => s.setCmd { c with failed := some st }
  | none => s

/-- A block that the cartridge now holds leaves the lists of the commands that wait for it. -/
def State.blockDone (s : State) (b : Nat) : State :=
  { s with stg := { s.stg with cmds := s.stg.cmds.map (fun c => if c.op == 2 then c else { c with left := c.left.filter (· != b) }) } }

/-- What a completion does for its requester, after the command has left the queue. -/
def State.cartAct (s : State) (c : CartCmd) (r : CartResult) : State :=
  match c.who, r with
  | .cmdRead id b, .ok d =>
    match s.cmdFind id with
    | some x =>
      let d := match s.bufFind b with
        | some y => (List.range 8).foldl (fun e i => if y.mask.testBit i then overlay e (512 * i) (slice y.data (512 * i) 512) else e) (fixLen 4096 d)
        | none => fixLen 4096 d
      s.setCmd { x with left := x.left.filter (· != b), got := x.got ++ [(b, d)] }
    | none => s
  | .cmdRead id _, .fail => s.cmdFail id nvReadError
  | .cmdDealloc id, .ok _ =>
    match s.cmdFind id with
    | some x => s.setCmd { x with left := [] }
    | none => s
  | .cmdDealloc id, .fail => s.cmdFail id nvTransfer
  | .cmdFlush id, .ok _ =>
    match s.cmdFind id with
    | some x => s.cmdEnd x 0
    | none => s
  | .cmdFlush id, .fail => s.cmdFail id nvTransfer
  | .bufWrite b, .ok _ =>
    match s.bufFind b with
    | some x =>
      if x.again then (s.bufMap b (fun x => { x with busy := false, again := false })).bufIssue b c.cls
      else (s.bufMap b (fun x => { x with busy := false, dirty := false, fua := false })).blockDone b
    | none => s
  | .bufWrite b, .fail =>
    match s.bufFind b with
    | some x => s.nsFail x.ns
    | none => s
  | .bufFill b, .ok d =>
    let s := s.bufMap b (fun x => { x with
      busy := false, mask := 255
      data := (List.range 8).foldl (fun e i => if x.mask.testBit i then overlay e (512 * i) (slice x.data (512 * i) 512) else e)
        (fixLen 4096 d) })
    s.bufIssue b c.cls
  | .bufFill b, .fail =>
    match s.bufFind b with
    | some x => s.nsFail x.ns
    | none => s
  | .test p, .ok _ => s.testStep p 65
  | .test p, .fail =>
    match s.stg.tests.find? (fun e => e.1 == p), c.op with
    | some (_, t), .read b _ =>
      let n := ((t.left.head?).map Prod.fst).getD 0
      s.testEnd p t 7 (s.nsId n) (some ((b - s.nsBase n - 1) * (4096 / s.lbSize n)))
    | _, _ => s
  | .init, .ok d => s.mountRead (leAt d 0 8)
  | .init, .fail => s
  | .record, .ok d => s.recordRead d
  | .record, .fail => s
  | .header n, .ok d => s.nsChecked n (some d)
  | .header n, .fail => s.nsChecked n none
  | .manifest p k, .ok d => s.ckMounted p k (some d)
  | .manifest p k, .fail => s.ckMounted p k none
  | .fmtDealloc n, _ =>
    match s.nsHeader n with
    | (s, some m) => s.cartAdd 1 16 (.write (s.nsBase n) (padTo 4096 m) true) (.fmtHeader n)
    | (s, none) => s
  | .fmtHeader n, .ok _ =>
    let s := { s with stg := { s.stg with listed := s.stg.listed.filter (· != n), lost := s.stg.lost.filter (· != n) } }
    s.setNs n 1
  | .fmtHeader n, .fail => s.nsFail n
  | .ejFlush, _ => s.cartAdd 1 16 (.record true []) .ejClean
  | .ejClean, _ => s.cartAdd 1 16 .shutdown .ejShutdown
  | .ejShutdown, _ => (s.setCart 4).setLatch false
  | .cure p, r => s.cureCompletion p c.op r
  | .restore p, .ok d => s.rstGot p (some d)
  | .restore p, .fail => s.rstGot p none
  | .resync n b, .ok d => s.resyncGot n b d
  | .resync _ _, .fail => s
  | .plain, _ => s

/-- Whether a cartridge command writes. -/
def CartOp.writes : CartOp → Bool
  | .write _ _ _ => true
  | .record _ _ => true
  | _ => false

/-- CARTRIDGE_COMPLETION (R527). -/
def State.cartComplete (s : State) (id : Nat) (r : CartResult) : State :=
  match s.stg.cart.find? (fun c => c.id == id && c.issued) with
  | none => s
  | some c =>
    if c.op.writes && decide (r = .fail) && decide (c.tries < 2) then s.cartRetry c
    else
      let before := s.cartState
      let s := match r with
        | .ok d => s.recItem c.share 5 0 (le 8 id ++ le 1 0 ++ d)
        | .fail => s.recItem c.share 5 0 (le 8 id ++ le 1 1)
      let s := ((s.cartDrop id).cartAct c r).stgStep
      if before = 1 ∧ s.cartState = 2 then s.ckAll else s

/-- CARTRIDGE_COMPLETION (R527). -/
def execCartridgeCompletion (id : Nat) (r : CartResult) (s : State) : Host.Outcome State Fault Refusal :=
  s.answer (s.unitAct (fun s => s.cartComplete id r))

/-- EJECT_REQUEST (R528): the Cure in progress pauses. -/
def execEjectRequest (src : Option Src) (s : State) : Host.Outcome State Fault Refusal :=
  match src with
  | some src => s.answer (s.hostGate src Reg.STG_CTRL 1 (fun s => s.eject.ckAll))
  | none => s.answer s.eject.ckAll

/-- SURPRISE_REMOVAL (R530). -/
def execSurpriseRemoval (s : State) : Host.Outcome State Fault Refusal := s.answer s.surpriseRemoval.ckCartGone

end Sys2Proof.Machine
end

