-- ==== Sys2Proof/Machine/EngineCmds.lean ====
section
/-! DEFINITION. The commands of the matrix engines and their Trowels. -/

namespace Sys2Proof.Machine

/-- A writer puts a descriptor into an engine's queue (R140, R141). -/
def State.engEnqueue (s : State) (e : Nat) (w : EngWrite) : State :=
  match w with
  | .mgmt src v => s.hostGate src (Reg.ENG_CMD (e / 4) (e % 4) 15) v (fun s => s.engStaged e v)
  | .px x data =>
    let full := decide (data.length = 64)
    let (s, ok) := s.engWindow e data
    if full && !ok then s.bump (Reg.PX_CNT_CMDQ_FULL (e / 4) x) Fld.PX_CNT_CMDQ_FULL_COUNT else s
  | .dma data => (s.engWindow e data).1

/-- ENG_ENQUEUE (R140–R142). -/
def execEngEnqueue (e : Fin 64) (w : EngWrite) (s : State) : Host.Outcome State Fault Refusal :=
  s.answer (s.unitAct (fun s => s.engEnqueue e w))

/-- ENG_NOP (R147): the head starts if it is a NOP or has a reserved opcode, which its check rejects (R148). -/
def execEngNop (e : Fin 64) (s : State) : Host.Outcome State Fault Refusal :=
  s.answer (s.engStart e (fun op => op == 0 || decide (4 < op)))

/-- ENG_MMA (R147). -/
def execEngMma (e : Fin 64) (s : State) : Host.Outcome State Fault Refusal := s.answer (s.engStart e (· == 1))

/-- ENG_DRAIN (R147). -/
def execEngDrain (e : Fin 64) (s : State) : Host.Outcome State Fault Refusal := s.answer (s.engStart e (· == 2))

/-- ENG_CLEAR (R147). -/
def execEngClear (e : Fin 64) (s : State) : Host.Outcome State Fault Refusal := s.answer (s.engStart e (· == 3))

/-- ENG_SEED (R147, R191). -/
def execEngSeed (e : Fin 64) (s : State) : Host.Outcome State Fault Refusal := s.answer (s.engStart e (· == 4))

/-- ENG_COMMAND_COMPLETE (R162). -/
def execEngCommandComplete (e : Fin 64) (s : State) : Host.Outcome State Fault Refusal :=
  s.answer (s.unitAct (fun s => s.engComplete e))

/-- ENG_HEAD_COMPLETE_DEFERRED (R145). -/
def execEngHeadCompleteDeferred (e : Fin 64) (s : State) : Host.Outcome State Fault Refusal :=
  s.answer (s.unitAct (fun s => s.engDeferred e))

/-- ENG_FLUSH (R164). -/
def execEngFlush (w : ClWriter) (e : Fin 64) (s : State) : Host.Outcome State Fault Refusal :=
  s.answer (s.clGate w (Reg.ENG_CTRL (e / 4) (e % 4)) 1 (fun s => s.engFlush e))

/-- ENG_CPL_POP (R165). -/
def execEngCplPop (w : ClWriter) (e : Fin 64) (s : State) : Host.Outcome State Fault Refusal :=
  s.answer (s.clGate w (Reg.ENG_CTRL (e / 4) (e % 4)) 2 (fun s => s.engPop e))

/-- ENG_CC_WRITE (R144): `inc` says that a completion increment reaches the counter in the same cycle. -/
def execEngCcWrite (w : ClWriter) (e : Fin 64) (i : Fin 16) (v : Word) (inc : Bool) (s : State) :
    Host.Outcome State Fault Refusal :=
  s.answer (s.clGate w (Reg.ENG_CC (e / 4) (e % 4) i) v (fun s => s.setReg (Reg.ENG_CC (e / 4) (e % 4) i) (if inc then v + 1 else v)))

/-- TROWEL_FETCH_START (R153, R208). -/
def execTrowelFetchStart (e : Fin 64) (s : State) : Host.Outcome State Fault Refusal :=
  s.answer (s.unitAct (fun s => s.fetchStart e))

/-- TROWEL_LINE_RETURN (R209, R210). -/
def execTrowelLineReturn (e : Fin 64) (s : State) : Host.Outcome State Fault Refusal :=
  s.answer (s.unitAct (fun s => s.lineReturn e))

/-- TROWEL_BLOCK_DECODE (R211, R214). -/
def execTrowelBlockDecode (e : Fin 64) (s : State) : Host.Outcome State Fault Refusal :=
  s.answer (s.unitAct (fun s => s.blockDecode e))

/-- TRW_TABLE_COMMIT (R206): a write of TRW_TCTL. -/
def execTrwTableCommit (w : ClWriter) (c t : Fin 16) (v : Word) (s : State) : Host.Outcome State Fault Refusal :=
  s.answer (s.clGate w (Reg.TRW_TCTL c t) v (fun s => s.trwTctlWrite c t v))

end Sys2Proof.Machine
end

