-- ==== Sys2Proof/Machine/PxRun.lean ====
section
/-! DEFINITION. Waits, states and commands of the cores, program loads and doorbell words (R250, R251, R256–R266). -/

namespace Sys2Proof.Machine

/-! Waits (R250, R625). -/

/-- Whether a wait's condition holds, with the kind, target, value waited for and value seen of its record. -/
def State.waitCond (s : State) (x : Nat) : WaitCond → Bool × Nat × Nat × Nat × Nat
  | .counter e i v =>
    let seen := (s.reg (Reg.ENG_CC (pxc x) e i)).toNat
    (decide (0 ≤ sext 32 (seen + 2 ^ 32 - v)), 0, 4 * pxc x + e + 2 ^ 6 * i, v, seen)
  | .orbitSlot o t =>
    let n := s.obsOrbit (s.coreOwner x)
    (decide (o < n) || (decide (o = n) && decide (t ≤ s.tm.cycle / 256)), 1, 0, o % 2 ^ 32, n % 2 ^ 32)
  | .doorbell i =>
    let seen := (s.reg (Reg.PX_DBELL (pxc x) (pxi x) i)).toNat
    (seen != 0, 2, i, 0, seen)

/-- A stall of a core ends; a HALT that awaited it is carried out (R258). -/
def State.unstall (s : State) (x : Nat) : State :=
  let c := s.core x
  let s := s.setCore x { c with stall := .none }
  if c.halting then s.coreHalt x else s

/-- A wait ends (R250): its condition holds, or its limit has expired; a limit of 0 never expires. -/
def State.waitEnd (s : State) (x : Nat) (expired : Bool) : State :=
  let c := s.core x
  match c.stall with
  | .wait w pd limit =>
    let (holds, kind, target, value, seen) := s.waitCond x w
    if !s.coreRuns x || !(holds || (expired && limit != 0)) then s
    else
      let s := s.setCore x (c.put (.p pd) (if holds then 1 else 0))
      let s := if x < 32 then s.bumpBy (Reg.PX_CNT_WAIT (pxc x) (pxi x)) Fld.PX_CNT_WAIT_COUNT (s.now - c.since) else s
      (s.waitTrace (coreUnit x) (if holds then 0 else 1) kind target value seen c.since (s.coreOwner x)).unstall x
  | _ => s

/-- A wait discarded by a reset of its core (R625, outcome 2); its cycles, or those of another stall, are counted. -/
def State.waitDiscard (s : State) (x : Nat) : State :=
  let s := s.coreLive x
  let c := s.core x
  match c.stall with
  | .wait w _ _ =>
    let (_, kind, target, value, seen) := s.waitCond x w
    s.waitTrace (coreUnit x) 2 kind target value seen c.since (s.coreOwner x)
  | _ => s

/-! Commands (R256–R259). -/

/-- A fresh start (R257): registers zero, a15 at DS_HIGH, special and segment registers from the image, the entry bundle. -/
def State.freshStart (s : State) (x : Nat) : State :=
  let s := s.waitDiscard x
  let c := s.core x
  let st := s.pxState x
  let n := { coreDefault with
    img := c.img
    adv := c.adv
    posted := c.posted
    started := if st == 0 || st == 2 then s.now else c.started }
  let n := match c.img with
    | some i => { n with
        a := Tab.set (fun _ => 0) [] 15 i.dsHigh
        dsLow := i.dsLow
        dsHigh := i.dsHigh
        rsBase := i.rsBase
        rsLimit := i.rsLimit
        compat := i.compat
        seg := (List.range 16).foldl (fun t k => Tab.set (fun _ => (0 : DWord)) t k (i.segs.getD k 0)) []
        pc := i.entry }
    | none => n
  (s.setCore x n).setPxState x 3

/-- A core resumed from HALTED: a held wait goes on with its remaining limit (R257, R258). -/
def State.resume (s : State) (x : Nat) : State := (s.setCore x { s.core x with since := s.now }).setPxState x 3

/-- A command or write discarded (R248, R257, R259). -/
def State.pxReject (s : State) (x : Nat) : State := s.setFld (Reg.PX_EVENT (pxc x) (pxi x)) Fld.PX_EVENT_CMD_REJECTED 1

/-- HALT of a running core (R258): at the next bundle boundary; a stalled access completes first; a wait is held. -/
def State.haltCmd (s : State) (x : Nat) : State :=
  let c := s.core x
  match c.stall with
  | .none => s.coreHalt x
  | .wait w pd limit =>
    let left := if limit = 0 then 0 else max 1 (limit - (s.now - c.since))
    ((s.coreLive x).setCore x { c with stall := .wait w pd left }).coreHalt x
  | _ => s.setCore x { c with halting := true }

/-- The one command of a PX_CTRL write, if it is valid in the core's state (R257). -/
def State.pxCommand (s : State) (x cmd : Nat) : State :=
  let st := s.pxState x
  match cmd with
  | 0 => if st == 0 || st == 2 || st == 4 || st == 5 then s.setPxState x 1 else s.pxReject x
  | 1 => if st == 2 then s.freshStart x else if st == 4 then s.resume x else s.pxReject x
  | 2 => if st == 2 || st == 4 || st == 5 then s.freshStart x else s.pxReject x
  | _ => if st == 3 then s.haltCmd x else s.pxReject x

/-- Whether a writer is the core itself. -/
def ownWrite (w : ClWriter) (x : Nat) : Bool :=
  match w with
  | .px i => i.val == pxi x
  | .mgmt _ => false

/-- A write of PX_CTRL (R248, R257, R259). -/
def State.pxCtrl (s : State) (w : ClWriter) (x : Nat) (v : Word) : State :=
  if ownWrite w x then s.pxReject x
  else
    let s := s.setFld (Reg.PX_CTRL (pxc x) (pxi x)) Fld.PX_CTRL_AUTORESTART (if v.getLsbD 4 then 1 else 0)
    match (List.range 4).filter (fun i => v.getLsbD i) with
    | [] => s
    | [n] => s.pxCommand x n
    | _ => s.pxReject x

/-! Loading a program (R260, R261). -/

/-- A program read from memory, with the checks of R261 in order: the image, or the status of the first failure. -/
def State.loadImage (s : State) (o : Option Nat) (pra : Nat) : State × (PxImage ⊕ Nat) :=
  match o with
  | none => (s, .inr 4)
  | some p =>
    let size := s.spaceSize (.part p)
    if pra % 64 ≠ 0 ∨ size < pra + 64 then (s, .inr 4)
    else
      let (s, st, h) := s.readBytes (.part p) pra 64
      if !st.good then (s, .inr (0x10 + st.code))
      else
        let ver := leAt h 4 4
        let compat := ver.testBit 8
        let len := leAt h 8 4
        let entry := leAt h 0xC 4
        let rsb := leAt h 0x20 4
        let rsl := leAt h 0x24 4
        let hdr := if compat then 0xC0 else 0x40
        if leAt h 0 4 ≠ 0x4C585031 ∨ ver % 256 ≠ 1 ∨ ver / 512 ≠ 0 ∨ leAt h 0x28 24 ≠ 0 then (s, .inr 1)
        else if len % 4 ≠ 0 ∨ len < 4 ∨ 131072 < len ∨ entry % 4 ≠ 0 ∨ len ≤ entry then (s, .inr 2)
        else if rsb % 64 ≠ 0 ∨ rsl % 64 ≠ 0 ∨ rsl ≤ rsb ∨ 12582912 < rsl then (s, .inr 3)
        else if size < pra + hdr + len then (s, .inr 4)
        else
          let (s, st, d) := s.readBytes (.part p) (pra + 0x40) (hdr - 0x40 + len)
          if !st.good then (s, .inr (0x10 + st.code))
          else
            let code := d.drop (hdr - 0x40)
            (s, .inl ⟨compat, entry, BitVec.ofNat 64 (leAt h 0x10 8), BitVec.ofNat 64 (leAt h 0x18 8), rsb, rsl,
              if compat then (List.range 16).map (fun i => BitVec.ofNat 64 (leAt d (8 * i) 8)) else [], wordsOf code⟩)

/-- The address in PX_IMG_PRA. -/
def State.imgPra (s : State) (x : Nat) : Nat :=
  s.reg64 (Reg.PX_IMG_PRA_LO (pxc x) (pxi x)) (Reg.PX_IMG_PRA_HI (pxc x) (pxi x))

/-- A load ends: READY with the image, or EMPTY with no code (R256, R261). -/
def State.loadEnd (s : State) (x : Nat) : State :=
  let (s, r) := s.loadImage (s.coreOwner x) (s.imgPra x)
  let s := s.setFld (Reg.PX_EVENT (pxc x) (pxi x)) Fld.PX_EVENT_LOAD_DONE 1
  let ls := Reg.PX_LOAD_STATUS (pxc x) (pxi x)
  let cm := Reg.PX_STATE (pxc x) (pxi x)
  match r with
  | .inl i =>
    let s := (s.setFld ls Fld.PX_LOAD_STATUS_CODE 0).setFld cm Fld.PX_STATE_COMPAT (if i.compat then 1 else 0)
    (s.setCore x { s.core x with img := some i, compat := i.compat }).setPxState x 2
  | .inr code =>
    let s := (s.setFld ls Fld.PX_LOAD_STATUS_CODE code).setFld cm Fld.PX_STATE_COMPAT 0
    (s.setCore x { s.core x with img := none, compat := false }).setPxState x 0

/-- PX_LOAD_DONE of a core that loads (R261). -/
def State.loadDone (s : State) (x : Nat) : State := if s.pxState x == 1 then s.loadEnd x else s

/-! Doorbell words (R251). -/

/-- A doorbell word replaced. -/
def State.dbellSet (s : State) (x i : Nat) (v : Word) : State := s.setReg (Reg.PX_DBELL (pxc x) (pxi x) i) v

/-! Resets (R262–R265). -/

/-- A prep core cleared, its instruction memory with it (R262: P, H, K, a partition reset of its owner). -/
def State.coreClear (s : State) (x : Nat) : State :=
  let s := s.waitDiscard x
  { s with cores := Tab.erase s.cores x }

/-- A prep core at an Eclipse reset (R262): its image kept unless it was loading, everything else zero. -/
def State.coreEclipse (s : State) (x : Nat) : State :=
  let s := s.waitDiscard x
  let st := s.pxState x
  let keep := st != 1
  let img := (s.core x).img
  let s := s.setCore x { coreDefault with img := if keep then img else none }
  s.setPxState x (if st == 0 || st == 1 then 0 else 4)

/-- The end of an Eclipse reset for a core (R263). -/
def State.coreAutoStart (s : State) (x : Nat) : State :=
  if s.pxState x == 4 && s.flag (Reg.PX_CTRL (pxc x) (pxi x)) Fld.PX_CTRL_AUTORESTART then s.freshStart x else s

/-- A core of a substituted cluster (R265). -/
def State.coreReplaced (s : State) (x : Nat) : State :=
  let was := s.pxState x
  let s := s.coreClear x
  let s := if was == 0 then s.setCore x coreDefault else (s.setCore x coreDefault).loadEnd x
  let s := s.setFld (Reg.PX_EVENT (pxc x) (pxi x)) Fld.PX_EVENT_REPLACED 1
  if s.pxState x == 2 && s.flag (Reg.PX_CTRL (pxc x) (pxi x)) Fld.PX_CTRL_AUTORESTART then s.freshStart x else s

/-! The commands. -/

/-- WAIT_END (R250). -/
def execWaitEnd (core : Fin 40) (expired : Bool) (s : State) : Host.Outcome State Fault Refusal :=
  s.answer (s.unitAct (fun s => s.waitEnd core expired))

/-- PX_LOAD (R257): a write of PX_CTRL. -/
def execPxLoad (w : ClWriter) (x : Fin 32) (v : Word) (s : State) : Host.Outcome State Fault Refusal :=
  s.answer (s.clGate w (Reg.PX_CTRL (pxc x) (pxi x)) v (fun s => s.pxCtrl w x v))

/-- PX_START (R257): a write of PX_CTRL. -/
def execPxStart (w : ClWriter) (x : Fin 32) (v : Word) (s : State) : Host.Outcome State Fault Refusal :=
  s.answer (s.clGate w (Reg.PX_CTRL (pxc x) (pxi x)) v (fun s => s.pxCtrl w x v))

/-- PX_RESTART (R257): a write of PX_CTRL. -/
def execPxRestart (w : ClWriter) (x : Fin 32) (v : Word) (s : State) : Host.Outcome State Fault Refusal :=
  s.answer (s.clGate w (Reg.PX_CTRL (pxc x) (pxi x)) v (fun s => s.pxCtrl w x v))

/-- PX_HALT (R258): a write of PX_CTRL. -/
def execPxHalt (w : ClWriter) (x : Fin 32) (v : Word) (s : State) : Host.Outcome State Fault Refusal :=
  s.answer (s.clGate w (Reg.PX_CTRL (pxc x) (pxi x)) v (fun s => s.pxCtrl w x v))

/-- PX_LOAD_DONE (R261). -/
def execPxLoadDone (x : Fin 32) (s : State) : Host.Outcome State Fault Refusal :=
  s.answer (s.unitAct (fun s => s.loadDone x))

/-- PX_DBELL_WRITE (R251). -/
def execPxDbellWrite (w : ClWriter) (x : Fin 32) (i : Fin 8) (v : Word) (s : State) : Host.Outcome State Fault Refusal :=
  s.answer (s.clGate w (Reg.PX_DBELL (pxc x) (pxi x) i) v (fun s => s.dbellSet x i v))

end Sys2Proof.Machine
end

