-- ==== Sys2Proof/Machine/Dma.lean ====
section
/-! DEFINITION. The DMA engines: rings, service, descriptors, the Float funnel and completion (chapter DMA Engines). -/

namespace Sys2Proof.Machine

/-! State. -/

def dmaDefault : DmaSt := ⟨15, none, 0, none, []⟩
def dmaChDefault : DmaCh := ⟨0, 0, 0, true, none⟩

/-- A DMA engine. -/
def State.dmaEng (s : State) (e : Nat) : DmaSt := Tab.get (fun _ => dmaDefault) s.dma e

/-- A DMA engine set, with the registers that show it. -/
def State.setDma (s : State) (e : Nat) (d : DmaSt) : State :=
  let s := { s with dma := Tab.set (fun _ => dmaDefault) s.dma e d }
  let s := match d.batch with
    | some (k, _) => s.setFld (Reg.DMA_ENG_STATUS e) Fld.DMA_ENG_STATUS_CUR_CH k
    | none => s
  s.setFld (Reg.DMA_ENG_STATUS e) Fld.DMA_ENG_STATUS_ACTIVE (if d.run.isSome || d.batch.isSome then 1 else 0)

/-- A channel of an engine. -/
def State.dmaCh (s : State) (e k : Nat) : DmaCh := Tab.get (fun _ => dmaChDefault) (s.dmaEng e).ch k

/-- A channel set. -/
def State.setDmaCh (s : State) (e k : Nat) (c : DmaCh) : State :=
  let d := s.dmaEng e
  s.setDma e { d with ch := Tab.set (fun _ => dmaChDefault) d.ch k c }

/-- The memory that an engine's rings and its memory kind name: its owner's, or the service region for firmware. -/
def State.dmaSpace (s : State) (e : Nat) : Option Space :=
  match s.dmaOwner e with
  | some p => some (.part p)
  | none => if s.dmaFirmware e then some .svc else none

/-- The share of an engine's host traffic. -/
def State.dmaShare (s : State) (e : Nat) : Nat := (s.dmaOwner e).getD 16

/-- Ring base, ring size, record ring base and size of a channel (R471, R481). -/
def State.dmaRing (s : State) (e k : Nat) : Nat := s.reg64 (Reg.DMA_CH_RING_LO e k) (Reg.DMA_CH_RING_HI e k)
def State.dmaSize (s : State) (e k : Nat) : Nat := 2 ^ s.fld (Reg.DMA_CH_CFG e k) Fld.DMA_CH_CFG_LOG2
def State.dmaCq (s : State) (e k : Nat) : Nat := s.reg64 (Reg.DMA_CH_CQ_LO e k) (Reg.DMA_CH_CQ_HI e k)
def State.dmaCqSize (s : State) (e k : Nat) : Nat := 2 ^ s.fld (Reg.DMA_CH_CFG e k) Fld.DMA_CH_CFG_CQ_LOG2
def State.dmaCons (s : State) (e k : Nat) : Nat := s.fld (Reg.DMA_CH_STATUS e k) Fld.DMA_CH_STATUS_CONS
def State.dmaEn (s : State) (e k : Nat) : Bool := s.flag (Reg.DMA_CH_CFG e k) Fld.DMA_CH_CFG_EN
def State.dmaHalted (s : State) (e k : Nat) : Bool := s.fld (Reg.DMA_CH_STATUS e k) Fld.DMA_CH_STATUS_STATE == 2
def State.dmaEvents (s : State) (e k : Nat) : Bool := s.flag (Reg.DMA_CH_CFG e k) Fld.DMA_CH_CFG_CPL_MODE

/-- CONS and STATE written to the ring header and shown in DMA_CH_STATUS. -/
def State.dmaHeader (s : State) (e k cons st status detail : Nat) : State :=
  let s := (s.setFld (Reg.DMA_CH_STATUS e k) Fld.DMA_CH_STATUS_CONS cons).setFld (Reg.DMA_CH_STATUS e k) Fld.DMA_CH_STATUS_STATE st
  match s.dmaSpace e with
  | some sp => (s.writeBytes sp (s.dmaRing e k + 8) (le 4 cons ++ le 4 (st + status * 2 ^ 8 + detail * 2 ^ 16))).1
  | none => s

/-- STATE alone, in the ring header and in DMA_CH_STATUS: a channel's batch begins or ends. -/
def State.dmaState (s : State) (e k st : Nat) : State :=
  let s := s.setFld (Reg.DMA_CH_STATUS e k) Fld.DMA_CH_STATUS_STATE st
  match s.dmaSpace e with
  | some sp => (s.writeBytes sp (s.dmaRing e k + 12) (le 1 st)).1
  | none => s

/-! Reports (R481, R482). -/

/-- An event sent to a channel's notify target, where it belongs to the engine's owner. -/
def State.dmaEvent (s : State) (e k value : Nat) : State :=
  let n := s.reg (Reg.DMA_CH_NOTIFY e k)
  let t := bitsOf n.toNat 1 6
  let i := bitsOf n.toNat 7 6
  let own (o : Option Nat) : Bool := s.dmaFirmware e || (o.isSome && o == s.dmaOwner e)
  if n.getLsbD 0 then
    if t < 32 ∧ i < 8 ∧ own (s.clOwner (t / 2)) then s.dbellSet t i (BitVec.ofNat 32 (value + k * 2 ^ 8 + e * 2 ^ 16)) else s
  else if i ≠ 0 ∧ own (s.vfPart t) then s.msix (t + 1) i else s

/-- A record written to a channel's record ring, or held while it would fill the ring. -/
def State.dmaPutRecord (s : State) (e k : Nat) (r : Bytes) : State :=
  match s.dmaSpace e with
  | none => s
  | some sp =>
    let (s, _, h) := s.readBytes sp (s.dmaCq e k) 4
    let c := s.dmaCh e k
    let size := s.dmaCqSize e k
    if (c.tail + 1) % size = leAt h 0 4 % size then
      (s.setDmaCh e k { c with held := some r }).setFld (Reg.DMA_CH_STATUS e k) Fld.DMA_CH_STATUS_CQ_HELD 1
    else
      let r := r.take 14 ++ le 1 (if c.phase then 1 else 0) ++ r.drop 15
      let (s, _) := s.writeBytes sp (s.dmaCq e k + 64 + 32 * c.tail) r
      let t := (c.tail + 1) % size
      (s.setDmaCh e k { c with tail := t, phase := if t = 0 then !c.phase else c.phase, held := none }).setFld
        (Reg.DMA_CH_STATUS e k) Fld.DMA_CH_STATUS_CQ_HELD 0

/-- The record of a completion. -/
def State.dmaRecord (s : State) (e k wrid bytes status detail : Nat) : Bytes :=
  le 8 wrid ++ le 4 bytes ++ le 1 status ++ le 1 detail ++ le 1 0 ++ le 1 (k + 16 * e) ++ le 6 (s.obsOrbit (s.dmaOwner e)) ++ zeros 10

/-- A completion reported: record or event, counters, and a halt unless it is OK (R474, R481). -/
def State.dmaReport (s : State) (e k wrid bytes status detail cons : Nat) (signal more : Bool) : State :=
  let s := s.dmaHeader e k cons (if status ≠ 0 then 2 else if more then 1 else 0) status detail
  let s := if status = 0 then s else s.tailEvent (Unit.dma e) 1 status detail
  if s.dmaEvents e k then s.dmaEvent e k (if status = 0 then 2 else 3)
  else if signal || status ≠ 0 then s.dmaPutRecord e k (s.dmaRecord e k wrid bytes status detail)
  else s

/-- A channel halted without a descriptor (R472, R483). -/
def State.dmaHalt (s : State) (e k status detail : Nat) : State :=
  let s := s.bump (Reg.DMA_CNT_ERR e) Fld.DMA_CNT_ERR_COUNT
  let s := s.dmaReport e k 0 0 status detail (s.dmaCons e k) false false
  let d := s.dmaEng e
  if d.batch.any (fun b => b.1 == k) then s.setDma e { d with batch := none, last := k } else s

/-! Polling and selection (R472–R474). -/

/-- PROD and RESUME of a channel read. -/
def State.dmaPollCh (s : State) (e k : Nat) : State :=
  if !s.dmaEn e k then s
  else
    match s.dmaSpace e with
    | none => s
    | some sp =>
      let held := (s.dmaCh e k).held
      let s := match held with
        | some r => s.dmaPutRecord e k r
        | none => s
      let (s, st, h) := s.readBytes sp (s.dmaRing e k) 8
      let halted := s.dmaHalted e k
      if !st.good then if halted then s else s.dmaHalt e k 8 st.code
      else
        let c := s.dmaCh e k
        let prod := leAt h 0 4
        let res := leAt h 4 4
        let released := halted && res != c.resume
        let s := s.setDmaCh e k { c with resume := res }
        if halted && !released then s
        else
          let s := if released then s.dmaHeader e k (s.dmaCons e k) 0 0 0 else s
          if s.dmaSize e k ≤ prod then s.dmaHalt e k 2 0xFF
          else s.setDmaCh e k { s.dmaCh e k with prod := prod }

/-- DMA_RESUME (R474): a halted channel released by PF0, or by a change of RESUME in its header. -/
def State.dmaResume (s : State) (src : Option Src) (e k : Nat) : State :=
  match src with
  | none => s.dmaPollCh e k
  | some _ => if s.dmaHalted e k && s.dmaEn e k then (s.dmaHeader e k (s.dmaCons e k) 0 0 0).dmaPollCh e k else s

/-- Descriptors of a channel from CONS up to PROD. -/
def State.dmaWork (s : State) (e k : Nat) : Nat :=
  if s.dmaEn e k && !s.dmaHalted e k && (s.dmaCh e k).held.isNone then
    ((s.dmaCh e k).prod + s.dmaSize e k - s.dmaCons e k) % s.dmaSize e k
  else 0

/-- The next channel with a batch selected (R473). -/
def State.dmaSelect (s : State) (e : Nat) : State :=
  let d := s.dmaEng e
  match d.batch with
  | some _ => s
  | none =>
    match ((List.range 16).map (fun i => (d.last + 1 + i) % 16)).find? (fun k => 0 < s.dmaWork e k) with
    | some k => (s.setDma e { d with batch := some (k, s.dmaWork e k), since := s.now }).dmaState e k 1
    | none => s

/-! Descriptors (R475–R477). -/

def dSrcKind (d : List Word) : Nat := dwb d 0 8 4
def dDstKind (d : List Word) : Nat := dwb d 0 12 4
def dSrcUnit (d : List Word) : Nat := dwb d 1 0 7
def dDstUnit (d : List Word) : Nat := dwb d 1 8 7
def dSrc (d : List Word) : Nat := dw d 2 + 2 ^ 32 * dw d 3
def dDst (d : List Word) : Nat := dw d 4 + 2 ^ 32 * dw d 5
def dLen (d : List Word) : Nat := dwb d 6 0 20
def dWrId (d : List Word) : Nat := dw d 8 + 2 ^ 32 * dw d 9

/-- Lines that a region spans. -/
def span (a n : Nat) : Nat := if n = 0 then 0 else (a + n - 1) / 64 - a / 64 + 1

/-- Whether a unit that a kind names belongs to the engine's owner (R477). -/
def State.dmaUnitOk (s : State) (e kind u : Nat) : Bool :=
  let own (o : Option Nat) : Bool := s.dmaFirmware e || (o.isSome && o == s.dmaOwner e)
  match kind with
  | 1 => decide (u < 16) && own (s.clOwner u)
  | 2 => decide (u < 64) && own (s.vfPart u)
  | 3 => decide (u < 8) && own (s.portServes u)
  | 4 => decide (u < 64) && own (s.clOwner (u / 4))
  | _ => true

/-- Whether a region lies where its kind allows (R477). -/
def State.dmaRegionOk (s : State) (e kind a n : Nat) : Bool :=
  match kind with
  | 0 => match s.dmaSpace e with
    | some sp => decide (a + n ≤ s.spaceSize sp)
    | none => false
  | 1 => decide (a + n ≤ 12582912)
  | 5 => (List.range (span a n)).all (fun i => (s.dpaStatus (a / 64 * 64 + 64 * i)).isNone)
  | _ => decide (a + n ≤ 2 ^ 64)

/-- The word index of the first field that makes a descriptor bad (R477). -/
def State.dmaBad (s : State) (e : Nat) (d : List Word) : Option Nat :=
  let op := dOp d
  let nop := op == 0
  let kindOk (k : Nat) : Bool := decide (k < 4) || (k == 5 && s.dmaFirmware e)
  let own (o : Option Nat) : Bool := s.dmaFirmware e || (o.isSome && o == s.dmaOwner e)
  if 2 < op || dwb d 0 19 13 ≠ 0 then some 0
  else if !nop && (!kindOk (dSrcKind d) || !(kindOk (dDstKind d) || dDstKind d == 4)) then some 0
  else if !nop && (dDstKind d == 4) != (op == 2) then some 0
  else if dwb d 1 7 1 ≠ 0 || dwb d 1 15 17 ≠ 0 then some 1
  else if !nop && !(s.dmaUnitOk e (dSrcKind d) (dSrcUnit d) && s.dmaUnitOk e (dDstKind d) (dDstUnit d)) then some 1
  else if !nop && !s.dmaRegionOk e (dSrcKind d) (dSrc d) (dLen d) then some 2
  else if !nop && op == 1 && !s.dmaRegionOk e (dDstKind d) (dDst d) (dLen d) then some 4
  else if dwb d 6 20 12 ≠ 0 || (!nop && 524288 < dLen d) || (op == 2 && dLen d ≠ 64) then some 6
  else if dw d 7 ≠ 0 then some 7
  else if dwb d 10 10 22 ≠ 0 || (dwb d 0 18 1 == 1 && !own (s.clOwner (dwb d 10 0 6 / 4))) then some 10
  else ([12, 13, 14, 15] : List Nat).find? (fun i => dw d i ≠ 0)

/-- Whether a descriptor's wait is met (R476). -/
def State.dmaWaitMet (s : State) (d : List Word) : Bool :=
  let en := dwb d 10 0 6
  dwb d 0 18 1 == 0
    || decide (0 ≤ sext 32 ((s.reg (Reg.ENG_CC (en / 4) (en % 4) (dwb d 10 6 4))).toNat + 2 ^ 32 - dw d 11))

/-! Moving bytes (R478). -/

/-- The owner symbol and epoch under which kind 5 accesses a line (R88, R475). -/
def State.dmaSym (s : State) (u : Nat) : Byte × Byte := (byte u, if u < 16 then s.spaceEpoch (.part u) else 0)

/-- Bytes of one line of a local source. -/
def State.dmaReadLine (s : State) (e kind u a n : Nat) : State × Nat × Bytes :=
  match kind with
  | 1 =>
    match s.scrRequest ⟨u, .fill, a, .read n⟩ with
    | (s, .done st d) => (s, if st.good then 0 else st.code, d)
    | (s, .waits) => (s, MemStatus.notOwner.code, [])
  | 5 =>
    let (o, ep) := s.dmaSym u
    let (s, st, d) := s.readPlace (placeOf a) o ep
    (s, if st.good then 0 else st.code, slice d (a % 64) n)
  | _ =>
    match s.dmaSpace e with
    | some sp =>
      let (s, st, d) := s.readLine sp a
      (s, if st.good then 0 else st.code, slice d (a % 64) n)
    | none => (s, MemStatus.outOfRange.code, [])

/-- A local source read line by line: the bytes before the first failure, and its code. -/
def State.dmaReadSrc (s : State) (e kind u : Nat) : Nat → Nat → Nat → Bytes → State × Bytes × Option Nat
  | 0, _, _, acc => (s, acc, none)
  | fuel + 1, a, n, acc =>
    if n = 0 then (s, acc, none)
    else
      let m := min n (64 - a % 64)
      let (s, code, d) := s.dmaReadLine e kind u a m
      if code ≠ 0 then (s, acc, some code) else State.dmaReadSrc s e kind u fuel (a + m) (n - m) (acc ++ d)

/-- Bytes within one line of a local destination written. -/
def State.dmaWriteLine (s : State) (e kind u a : Nat) (d : Bytes) : State × Nat :=
  match kind with
  | 1 =>
    match s.scrRequest ⟨u, .fill, a, if d.length = 64 then .full d else .part d⟩ with
    | (s, .done st _) => (s, if st.good then 0 else st.code)
    | (s, .waits) => (s, 0)
  | 5 =>
    let (o, ep) := s.dmaSym u
    let (s, st) := if d.length = 64 then s.writePlace (placeOf a) o ep d else s.mergePlace (placeOf a) o ep (a % 64) d
    (s, if st.good then 0 else st.code)
  | _ =>
    match s.dmaSpace e with
    | some sp =>
      let (s, st) := match sp with
        | .part p => s.partWrite p a d
        | .svc => s.writeLine .svc a d
      (s, if st.good then 0 else st.code)
    | none => (s, MemStatus.outOfRange.code)

/-- A local destination written line by line: bytes written, and the first failing code. -/
def State.dmaWriteDst (s : State) (e kind u : Nat) : Nat → Nat → Bytes → Nat → State × Nat × Option Nat
  | 0, _, _, n => (s, n, none)
  | fuel + 1, a, d, n =>
    if d.isEmpty then (s, n, none)
    else
      let m := min d.length (64 - a % 64)
      let (s, code) := s.dmaWriteLine e kind u a (d.take m)
      if code ≠ 0 then (s, n, some code) else State.dmaWriteDst s e kind u fuel (a + m) (d.drop m) (n + m)

/-- Who an engine's channel is to the endpoint and the ports. -/
def dmaWho (e k : Nat) : HWho := .dma e k

/-- Accelerator reads that cover a region, at most 64 lines each (R329). -/
def State.dmaTlReads (s : State) (n : Nat) (who : HWho) : Nat → Nat → Nat → State
  | 0, _, _ => s
  | fuel + 1, a, lines =>
    if lines = 0 then s
    else
      let m := min lines 64
      State.dmaTlReads (s.tlRead n who a m) n who fuel (a + 64 * m) (lines - m)

/-- Accelerator writes of a run of bytes: whole lines by WRITE, a line covered in part by WRITE_MASKED (R478). -/
def State.dmaTlWrites (s : State) (n : Nat) (who : HWho) : Nat → Nat → Bytes → State
  | 0, _, _ => s
  | fuel + 1, a, d =>
    if d.isEmpty then s
    else if a % 64 = 0 ∧ 64 ≤ d.length then
      let m := min (d.length / 64) 64
      State.dmaTlWrites (s.tlWrite n who a (d.take (64 * m))) n who fuel (a + 64 * m) (d.drop (64 * m))
    else
      let m := min d.length (64 - a % 64)
      let mask : BitVec 64 := BitVec.ofNat 64 (lineMask (a % 64) m)
      State.dmaTlWrites (s.tlMasked n who (a / 64 * 64) mask (overlay (zeros 64) (a % 64) (d.take m))) n who fuel (a + m)
        (d.drop m)

/-- The source of a descriptor in progress once all of it is there: its bytes, or those before a failure with the
failure's DETAIL. -/
def State.dmaSource (s : State) (e : Nat) (r : DmaRun) : Option (State × Bytes × Option Nat) :=
  match r.data with
  | some d => some (s, d, r.fail.map Prod.snd)
  | none =>
    match dSrcKind r.desc with
    | 2 =>
      match s.hostTake (dmaWho e r.ch) with
      | none => none
      | some (s, .inl d) => some (s, d, none)
      | some (s, .inr timeout) => some (s, [], some (if timeout then 0x20 else 0x21))
    | 3 =>
      match s.tlTake (dSrcUnit r.desc) (dmaWho e r.ch) with
      | none => none
      | some (s, st, parts) =>
        if st ≠ 0 then some (s, [], some (if st = 0x100 then 0x30 else 0x40 + st))
        else
          let whole := (parts.map (fun l => l.foldl (fun b x => overlay b x.1 x.2)
            (zeros ((l.map (fun x => x.1 + x.2.length)).foldl max 0)))).flatten
          some (s, slice whole (dSrc r.desc % 64) (dLen r.desc), none)
    | _ => some (s, [], none)

/-- A descriptor in progress kept. -/
def State.setRun (s : State) (e : Nat) (r : DmaRun) : State := s.setDma e { s.dmaEng e with run := some r }

/-- Bytes of a descriptor in progress written up to a place: none while its source or its acknowledgements are
outstanding; otherwise the run and the status with DETAIL of a failure. -/
def State.dmaMove (s : State) (e : Nat) (r : DmaRun) (upto : Nat) : State × DmaRun × Bool × Option (Nat × Nat) :=
  match s.dmaSource e r with
  | none => (s, r, false, none)
  | some (s, d, bad) =>
    let r := { r with data := some d, fail := bad.map (fun x => (4, x)) }
    let want := (d.take upto).drop r.moved
    let du := dDstUnit r.desc
    let a := dDst r.desc + r.moved
    match dDstKind r.desc with
    | 2 => (s.hostWrite (s.dmaShare e) a want, { r with moved := r.moved + want.length }, true, none)
    | 3 =>
      let s := s.dmaTlWrites du (.dmaProd e r.ch) (want.length / 64 + 3) a want
      let r := { r with moved := r.moved + want.length }
      match s.tlTake du (.dmaProd e r.ch) with
      | none => (s, r, false, none)
      | some (s, st, _) =>
        (s, r, true, if st = 0 then none else some (5, if st = 0x100 then 0x30 else 0x40 + st))
    | 4 =>
      if d.length < 64 then (s, r, true, none)
      else
        let (s, ok) := s.engWindow du (d.take 64)
        (s, { r with moved := if ok then 64 else 0 }, true, if ok then none else some (6, 0))
    | k =>
      let (s, n, code) := s.dmaWriteDst e k du (want.length / 64 + 3) a want 0
      (s, { r with moved := r.moved + n }, true, code.map (fun c => (5, c)))

/-- The end of a descriptor: counters, its report, CONS advanced, the batch continued or ended (R473, R474). -/
def State.dmaEnd (s : State) (e : Nat) (k : Nat) (d : List Word) (bytes status detail : Nat) : State :=
  let s := s.bump (Reg.DMA_CNT_DESC e) Fld.DMA_CNT_DESC_COUNT
  let s := s.bumpBy (Reg.DMA_CNT_BYTES e) Fld.DMA_CNT_BYTES_COUNT ((bytes + 63) / 64)
  let s := if status = 0 then s
    else if status = 1 then s.bump (Reg.DMA_CNT_OVERRUN e) Fld.DMA_CNT_OVERRUN_COUNT
    else s.bump (Reg.DMA_CNT_ERR e) Fld.DMA_CNT_ERR_COUNT
  let cons := (s.dmaCons e k + 1) % s.dmaSize e k
  let left := match (s.dmaEng e).batch with
    | some (_, n) => n - 1
    | none => 0
  let s := s.dmaReport e k (dWrId d) bytes status detail cons (dwb d 0 16 1 == 1) (left != 0)
  let g := s.dmaEng e
  let held := (s.dmaCh e k).held.isSome
  let s := s.setDma e { g with
    run := none, since := s.now
    batch := if left = 0 || status ≠ 0 || held then none else some (k, left)
    last := if left = 0 || status ≠ 0 || held then k else g.last }
  if left = 0 then s.dmaPollCh e k else s

/-- Whether an engine may start a descriptor (R402, R484). -/
def State.dmaRuns (s : State) (e : Nat) : Bool :=
  (s.dmaSpace e).isSome && !s.computeHeld && s.ownerRuns (s.dmaOwner e)

/-- The link that a descriptor needs and that is not up (R667): the status of the side that names it. -/
def State.dmaLink (s : State) (d : List Word) : Option Nat :=
  if dSrcKind d == 3 && !s.portUp (dSrcUnit d) then some 4
  else if dDstKind d == 3 && !s.portUp (dDstUnit d) then some 5
  else none

/-- The source of a descriptor that starts: local bytes read, or far reads sent. -/
def State.dmaFetch (s : State) (e k : Nat) (d : List Word) : State × Option (Bytes × Option Nat) :=
  match dSrcKind d with
  | 2 => (s.hostRead (dmaWho e k) (s.dmaShare e) (dSrc d) (dLen d), none)
  | 3 =>
    let n := span (dSrc d) (dLen d)
    (s.dmaTlReads (dSrcUnit d) (dmaWho e k) (n / 64 + 2) (dSrc d / 64 * 64) n, none)
  | kind =>
    let (s, b, code) := s.dmaReadSrc e kind (dSrcUnit d) (dLen d / 64 + 3) (dSrc d) (dLen d) []
    (s, some (b, code))

/-- A checked descriptor starts (R480, R667, R478): or waits for the next orbit, or ends at once. -/
def State.dmaBegin (s : State) (e k : Nat) (d : List Word) : State :=
  let misaligned := dSrc d % 64 ≠ 0 || dDst d % 64 ≠ 0 || dLen d % 64 ≠ 0
  let lines := max (span (dSrc d) (dLen d)) (span (dDst d) (dLen d))
  if s.flag Reg.DMA_MODE Fld.DMA_MODE_STRICT && misaligned then
    (s.setFld Reg.DMA_MODE Fld.DMA_MODE_MISALIGN_SEEN 1).dmaEnd e k d 0 3 0
  else
    match s.dmaLink d with
    | some st => s.dmaEnd e k d 0 st 0x30
    | none =>
      if 15360 < s.tm.cycle + 16 + lines then s
      else
        let s := if misaligned then s.bump (Reg.DMA_CNT_FLOAT e) Fld.DMA_CNT_FLOAT_COUNT else s
        let (s, src) := s.dmaFetch e k d
        s.setRun e ⟨k, d, s.now, src.map Prod.fst, (src.bind Prod.snd).map (fun c => (4, c)), 0, false⟩

/-- The next descriptor of an engine starts, if its operation is one of those asked for (R473–R477). -/
def State.dmaStart (s : State) (e : Nat) (sel : Nat → Bool) : State :=
  if !s.dmaRuns e || (s.dmaEng e).run.isSome then s
  else
    let s := s.dmaSelect e
    match (s.dmaEng e).batch, s.dmaSpace e with
    | some (k, _), some sp =>
      if !s.dmaEn e k || s.dmaHalted e k then
        let s := s.setDma e { s.dmaEng e with batch := none, last := k }
        if s.dmaHalted e k then s else s.dmaState e k 0
      else
        let (s, st, b) := s.readBytes sp (s.dmaRing e k + 64 + 64 * s.dmaCons e k) 64
        if !st.good then s.dmaHalt e k 8 st.code
        else
          let d := wordsOf b
          if !sel (dOp d) then s
          else
            match s.dmaBad e d with
            | some i => s.dmaEnd e k d 0 2 i
            | none =>
              if !s.dmaWaitMet d then s
              else
                let en := dwb d 10 0 6
                let s := if dwb d 0 18 1 == 1 then
                    s.waitTrace (Unit.dma e) 0 0 (en + 2 ^ 6 * dwb d 10 6 4) (dw d 11)
                      (s.reg (Reg.ENG_CC (en / 4) (en % 4) (dwb d 10 6 4))).toNat (s.dmaEng e).since (s.dmaOwner e)
                  else s
                if dOp d = 0 then s.dmaEnd e k d 0 0 0 else s.dmaBegin e k d
    | _, _ => s

/-- DMA_HALF_EVENT (R481): the first half written, its event sent. -/
def State.dmaHalf (s : State) (e : Nat) : State :=
  match (s.dmaEng e).run with
  | none => s
  | some r =>
    if r.half || dOp r.desc ≠ 1 || dwb r.desc 0 17 1 ≠ 1 || !s.dmaEvents e r.ch then s
    else
      let n := (dLen r.desc + 1) / 2
      let (s, r, done, bad) := s.dmaMove e r n
      let r := if bad.isSome then { r with fail := bad } else r
      if done && bad.isNone && decide (n ≤ r.moved) then (s.setRun e { r with half := true }).dmaEvent e r.ch 1
      else s.setRun e r

/-- DMA_DESCRIPTOR_COMPLETE (R474): the rest is written and the descriptor completes. -/
def State.dmaComplete (s : State) (e : Nat) : State :=
  match (s.dmaEng e).run with
  | none => s
  | some r =>
    let early := r.fail.filter (fun f => f.1 == 5)
    let (s, r, done, bad) := if early.isSome then (s, r, true, early) else s.dmaMove e r (dLen r.desc)
    if !done then s.setRun e r
    else
      match bad, r.fail with
      | some (st, dt), _ => s.dmaEnd e r.ch r.desc r.moved st dt
      | none, some (st, dt) => s.dmaEnd e r.ch r.desc r.moved st dt
      | none, none => s.dmaEnd e r.ch r.desc r.moved 0 0

/-- Requests of an engine's channel that are given up. -/
def State.dmaSquash (s : State) (e k : Nat) : State :=
  let mine (w : HWho) : Bool := decide (w = .dma e k) || decide (w = .dmaProd e k)
  let s := s.hostSquash mine
  (List.range 8).foldl (fun t n =>
    let p := t.port n
    if p.req.any (fun r => mine r.who) then t.setPort n { p with req := p.req.filter (fun r => !mine r.who) } else t) s

/-- An engine at an orbit mark (R472, R480): a descriptor in progress ends ORBIT_OVERRUN, PROD is read. -/
def State.dmaMark (s : State) (e : Nat) : State :=
  let s := match (s.dmaEng e).run with
    | some r => (s.dmaSquash e r.ch).dmaEnd e r.ch r.desc r.moved 1 0
    | none => s
  if (s.dmaSpace e).isNone then s
  else (List.range 16).foldl (fun t k => t.dmaPollCh e k) s

/-! Configuration and resets (R471, R484). -/

/-- A write of DMA_CH_CFG: discarded whole when it enables a size outside 4–12. -/
def State.dmaCfg (s : State) (e k : Nat) (v : Word) : State :=
  let l := bitsOf v.toNat 4 4
  let c := bitsOf v.toNat 8 4
  let bad (x : Nat) : Bool := decide (x < 4) || decide (12 < x)
  if v.getLsbD 0 && (bad l || (!v.getLsbD 1 && bad c)) then s
  else
    let was := s.dmaEn e k
    let s := s.setReg (Reg.DMA_CH_CFG e k) (v &&& 0xFF3)
    if v.getLsbD 0 && !was then s.setDmaCh e k { s.dmaCh e k with tail := 0, phase := true, held := none } else s

/-- An engine's fetched and running descriptors discarded without record (R484). -/
def State.dmaDiscard (s : State) (e : Nat) : State :=
  let s := match (s.dmaEng e).run with
    | some r => s.dmaSquash e r.ch
    | none => s
  let d := s.dmaEng e
  s.setDma e { d with run := none, batch := none, ch := d.ch.map (fun c => (c.1, { c.2 with held := none })) }

/-- An engine that changes owner: its descriptors discarded, its channels disabled. -/
def State.dmaOwnerChange (s : State) (e : Nat) : State :=
  let s := s.dmaDiscard e
  let s := { s with dma := Tab.erase s.dma e }
  (List.range 16).foldl (fun t k => t.setFld (Reg.DMA_CH_CFG e k) Fld.DMA_CH_CFG_EN 0) s

/-! The commands. -/

/-- DMA_CH_CFG_WRITE (R471). -/
def execDmaChCfgWrite (src : Src) (e : Fin 16) (k : Fin 16) (v : Word) (s : State) : Host.Outcome State Fault Refusal :=
  s.answer (s.hostGate src (Reg.DMA_CH_CFG e k) v (fun s => s.dmaCfg e k v))

/-- DMA_POLL (R472). -/
def execDmaPoll (src : Src) (e : Fin 16) (k : Fin 16) (s : State) : Host.Outcome State Fault Refusal :=
  s.answer (s.hostGate src (Reg.DMA_CH_DB e k) 1 (fun s => s.dmaPollCh e k))

/-- DMA_RESUME (R474). -/
def execDmaResume (src : Option Src) (e : Fin 16) (k : Fin 16) (s : State) : Host.Outcome State Fault Refusal :=
  match src with
  | some w => s.answer (s.hostGate w (Reg.DMA_CH_DB e k) 2 (fun s => s.dmaResume (some w) e k))
  | none => s.answer (s.dmaResume none e k)

/-- DMA_NOP (R475). -/
def execDmaNop (e : Fin 16) (s : State) : Host.Outcome State Fault Refusal := s.answer (s.dmaStart e (· == 0))

/-- COPY (R478); it also takes a descriptor of a reserved operation, which its check rejects (R477). -/
def execCopy (e : Fin 16) (s : State) : Host.Outcome State Fault Refusal :=
  s.answer (s.dmaStart e (fun op => op == 1 || decide (2 < op)))

/-- ENQ_CMD (R475). -/
def execEnqCmd (e : Fin 16) (s : State) : Host.Outcome State Fault Refusal := s.answer (s.dmaStart e (· == 2))

/-- DMA_HALF_EVENT (R481). -/
def execDmaHalfEvent (e : Fin 16) (s : State) : Host.Outcome State Fault Refusal :=
  s.answer (s.unitAct (fun s => s.dmaHalf e))

/-- DMA_DESCRIPTOR_COMPLETE (R474). -/
def execDmaDescriptorComplete (e : Fin 16) (s : State) : Host.Outcome State Fault Refusal :=
  s.answer (s.unitAct (fun s => s.dmaComplete e))

end Sys2Proof.Machine
end

