-- ==== Sys2Proof/Machine/Reset.lean ====
section
/-! DEFINITION. The reset classes over the register file (R20, R21): which registers a class restores, and for a partition
or a function, which of them are its own. -/

namespace Sys2Proof.Machine

/-- Whose a register is. -/
inductive Scope where
  | part (p : Nat)
  | cluster (c : Nat)
  | port (n : Nat)
  | vf (v : Nat)
  | dma (e : Nat)
  | rule (r : Nat)
  | shq (q : Nat)
  | ns (n : Nat)
  | sv (i : Nat)
  | device
  deriving DecidableEq, Repr

/-- The scope of the register at a key, from its table and its first index. -/
def scopeOf (k : Nat) : Scope :=
  match regAt k with
  | none => .device
  | some (r, ix) =>
    let i := ix.headD 0
    let b := r.base
    if 0x04000000 ≤ b then .vf i
    else if b = 0x00100200 then .part i
    else if b = 0x00200440 then .part i
    else if 0x00400100 ≤ b ∧ b < 0x00400200 then .part i
    else if 0x00800000 ≤ b ∧ b < 0x02000000 then .cluster i
    else if 0x02002000 ≤ b ∧ b < 0x02003000 then .part i
    else if 0x02100000 ≤ b ∧ b < 0x02200000 then .rule i
    else if 0x02200000 ≤ b ∧ b < 0x02800000 then .shq i
    else if 0x02801000 ≤ b ∧ b < 0x02802000 then .part i
    else if 0x03000000 ≤ b ∧ b < 0x03008000 then .port i
    else if 0x03009100 ≤ b ∧ b < 0x0300A000 then .part i
    else if 0x03400000 ≤ b ∧ b < 0x03800000 then .dma i
    else if 0x03801000 ≤ b ∧ b < 0x03802000 then .part i
    else if 0x03A01000 ≤ b ∧ b < 0x03A02000 then .ns i
    else if 0x03A02000 ≤ b ∧ b < 0x03A03000 then .part i
    else if 0x03C00000 ≤ b ∧ b < 0x03D00000 then .part i
    else if 0x03D00200 ≤ b ∧ b < 0x03D00400 then .cluster (i / 4)
    else if 0x03D01000 ≤ b ∧ b < 0x03E00000 then .part i
    else if 0x03E00000 ≤ b ∧ b < 0x03F00000 then .sv i
    else .device

/-- A register's word with the fields that a class restores at their reset values (R19, R20). -/
def restoreWord (fs : List Fld) (c : Cls) (w : Word) : Word :=
  fs.foldl (fun x f => if f.restoredBy c then f.put x f.rst else x) w

/-- The registers of a scope that a class restores; an image field goes to 0 and is loaded at the next image read. -/
def State.restore (s : State) (c : Cls) (sel : Scope → Bool) : State :=
  { s with rf := s.rf.filterMap (fun e =>
    if sel (scopeOf e.1) then
      let w := restoreWord (fldsAt e.1) c e.2
      if w = regDefault e.1 then none else some (e.1, w)
    else some e) }

/-- Whether a register belongs to a partition through the map, a table range or a binding. -/
def State.scopeOwned (s : State) (p : Nat) : Scope → Bool
  | .part q => q == p
  | .cluster x => s.clOwner x == some p
  | .port n => decide (n < 8) && s.portOwner n == some p
  | .vf v => s.vfPart v == some p
  | .dma e => s.dmaOwner e == some p
  | .rule r =>
    let first := s.fld (Reg.ETH_RULE_SHARE p) Fld.ETH_RULE_SHARE_FIRST
    decide (first ≤ r) && decide (r < first + s.fld (Reg.ETH_RULE_SHARE p) Fld.ETH_RULE_SHARE_COUNT)
  | .shq q => s.shpOwner q == some p
  | .ns n => s.fld (Reg.STG_NS_CFG n) Fld.STG_NS_CFG_OWNER == p
  | .sv _ => false
  | .device => false

/-- Class T for a partition: its registers, and its bit of the registers that hold one bit per partition (R409). -/
def State.restoreT (s : State) (p : Nat) : State :=
  let s := s.restore .t (s.scopeOwned p)
  (s.setBit Reg.PT_FROZEN Fld.PT_FROZEN_PARTS p false).setBit Reg.PAIR_SYNCED Fld.PAIR_SYNCED_PARTS p false

end Sys2Proof.Machine
end

