-- ==== Sys2Proof/Machine/Parts.lean ====
section
/-! DEFINITION. Partitions: the map and its commits, key epochs, function-level and partition resets, freeze and thaw
(chapter Partitions and Isolation). -/

namespace Sys2Proof.Machine

/-! The map (R379–R383). -/

/-- Entry `i` of the shadow map. -/
def State.shadowEntry (s : State) (i : Nat) : Nat := bitsOf (s.reg (Reg.PT_MAP (i / 4))).toNat (8 * (i % 4)) 8

/-- Entries of the map. -/
def mapSize : Nat := 136

/-- Whether a code is valid for an entry (R379). -/
def mapCodeOk (i e : Nat) : Bool := decide (e < 16) || e == 0x1F || (e == 0x10 && decide (56 ≤ i) && decide (i < 72))

/-- The check of the shadow map for REJECT_CODE 1 and 2. -/
def State.mapFault (s : State) : Option Nat :=
  let l := (List.range mapSize).map s.shadowEntry
  if l.zipIdx.any (fun e => !mapCodeOk e.2 e.1) then some 1
  else if (l.drop 32).any (fun e => decide (e < 16) && !(l.take 32).contains e) then some 2
  else none

/-- Whether a partition reset, a freeze, a save or a restore is in progress (REJECT_CODE 3). -/
def State.partBusy (s : State) : Bool :=
  s.fld Reg.PT_RESET_BUSY Fld.PT_RESET_BUSY_PARTS != 0 || !s.pt.resetDue.isEmpty || !s.pt.freezeDue.isEmpty
    || !s.pt.freezing.isEmpty || s.flag Reg.PT_SR_STATUS Fld.PT_SR_STATUS_BUSY

/-- A commit rejected. -/
def State.mapReject (s : State) (code : Nat) : State :=
  (s.setFld Reg.PT_STATUS Fld.PT_STATUS_MAP_REJECTED 1).setFld Reg.PT_STATUS Fld.PT_STATUS_REJECT_CODE code

/-- A write of PT_CTRL (R380). -/
def State.mapCommit (s : State) (src : Src) (v : Word) : State :=
  if !v.getLsbD 0 || s.pt.commitDue.isSome then s.journal src Reg.PT_CTRL 0 v true s.orbitN
  else
    match s.mapFault, s.partBusy with
    | some c, _ => (s.mapReject c).journal src Reg.PT_CTRL 0 v true s.orbitN
    | none, true => (s.mapReject 3).journal src Reg.PT_CTRL 0 v true s.orbitN
    | none, false =>
      let due := s.markDue
      (({ s with pt := { s.pt with commitDue := some due } }).setFld Reg.PT_STATUS Fld.PT_STATUS_COMMIT_PENDING 1).journal
        src Reg.PT_CTRL 0 v false due

/-- A write of a shadow map register. -/
def State.mapWrite (s : State) (src : Src) (n : Nat) (v : Word) : State :=
  let k := Reg.PT_MAP n
  if s.pt.commitDue.isSome then
    (s.setFld Reg.PT_STATUS Fld.PT_STATUS_WRITE_DROPPED 1).journal src k (s.reg k) v true s.orbitN
  else (s.setReg k v).journal src k (s.reg k) v false s.orbitN

/-! Function-level reset (R398, R399). -/

/-- Requesters that work for a virtual function. -/
def HWho.ofVf (v : Nat) : HWho → Bool
  | .srmtSqe w _ => w == v
  | .srmtRqe w _ => w == v
  | .srmtData w _ _ => w == v
  | .stgData q _ => q / 32 == v
  | _ => false

/-- Descriptors that a function's queues hold and have not started. -/
def State.vfDescs (s : State) (v : Nat) : Nat :=
  ((List.range 64).map (fun q => if s.sqMade v q then ((s.sq v q).tail + 2 ^ (s.sq v q).log2 - s.sqHead v q) % 2 ^ (s.sq v q).log2 else 0)).sum
    + ((List.range 17).map (fun y =>
        let x := s.nvSq v y
        if x.made then (x.tail + x.size - x.head) % x.size else 0)).sum

/-- FLR_INITIATE: requests that wait are squashed, host reads given up; what has begun is done in this model, so that the
reset may complete at the next mark. -/
def State.flrStart (s : State) (v : Nat) : State :=
  if s.host.flr.any (fun e => e.1 == v) then s
  else
    let n := (Tab.get (fun _ => []) s.host.rxq (v + 1)).length + s.vfDescs v
    let gone := (s.host.tags.filter (fun t => t.who.ofVf v)).map (fun t => (t.tag, v))
    let s := s.hostSquash (HWho.ofVf v)
    let s := { s with host := { s.host with
      flr := s.host.flr ++ [(v, s.orbitN + 1)]
      stale := s.host.stale ++ gone
      rxq := Tab.erase s.host.rxq (v + 1) } }
    (s.bumpBy (Reg.PT_FLR_STAT v) Fld.PT_FLR_STAT_SQUASHED n).cfgOr (v + 1) 30 0x200000

/-- VF_STATUS takes a function's entry of the active map. -/
def State.vfBind (s : State) (v : Nat) : State :=
  match asPart (s.mapEntry (72 + v)) with
  | some p => (s.setFld (Reg.VF_STATUS v) Fld.VF_STATUS_BOUND 1).setFld (Reg.VF_STATUS v) Fld.VF_STATUS_PARTITION p
  | none => (s.setFld (Reg.VF_STATUS v) Fld.VF_STATUS_BOUND 0).setFld (Reg.VF_STATUS v) Fld.VF_STATUS_PARTITION 0

/-- A function's registers, configuration space, queues and Hawk areas reset. -/
def State.flrClear (s : State) (v : Nat) : State :=
  let s := (s.srmtFuncReset v).stgFuncReset v
  let s := s.restore .f (fun x => decide (x = .vf v))
  let s := { s with
    host := { s.host with cfg := Tab.drop (fun k => k / 1024 == v + 1) s.host.cfg }
    fw := { s.fw with
      req := s.fw.req.filter (fun r => r.fn != v + 1)
      rsp := s.fw.rsp.filter (fun r => r.1 != v + 1) } }
  s.vfBind v

/-- FLR_COMPLETE: at a mark after the draining, the function is reset and takes the binding of the active map. -/
def State.flrDone (s : State) (v : Nat) : State :=
  match s.host.flr.find? (fun e => e.1 == v) with
  | some (_, due) =>
    if due ≤ s.orbitN then ({ s with host := { s.host with flr := s.host.flr.filter (fun e => e.1 != v) } }).flrClear v else s
  | none => s

/-! Save and restore ended (R406, R408). -/

/-- A save or restore ends with a result. -/
def State.srEnd (s : State) (result : Nat) : State :=
  (({ s with pt := { s.pt with sr := none } }).setFld Reg.PT_SR_STATUS Fld.PT_SR_STATUS_BUSY 0).setFld
    Reg.PT_SR_STATUS Fld.PT_SR_STATUS_RESULT result

/-- A save or restore of partitions that satisfy a test is interrupted. -/
def State.srInterrupt (s : State) (sel : Nat → Bool) : State :=
  match s.pt.sr with
  | some r => if sel r.part then s.srEnd 8 else s
  | none => s

/-! Partition reset (R382, R400). -/

/-- The work of a cluster discarded: engines, Trowels, table sets, cores. -/
def State.clDiscard (s : State) (c : Nat) : State :=
  let s := [0, 1, 2, 3].foldl (fun t i => t.engDiscard (4 * c + i)) s
  let s := [0, 1].foldl (fun t i => t.coreClear (2 * c + i)) s
  { s with
    trw := Tab.drop (fun k => k / 16 == c) s.trw
    scr := { s.scr with
      handover := Tab.drop (fun k => k / 24 == c) s.scr.handover
      waiting := Tab.drop (fun k => k / 24 == c) s.scr.waiting
      corrected := s.scr.corrected.filter (fun k => k / 2 ^ 18 != c) }
    pt := { s.pt with eclHalted := s.pt.eclHalted.filter (fun x => x / 2 != c) } }

/-- A cluster after its work is discarded: its registers of class T, its scratch under initialisation. -/
def State.clReset (s : State) (c : Nat) : State := (s.restore .t (fun x => decide (x = .cluster c))).scrInitStart c

/-- The frozen state of a partition ends. -/
def State.unfreeze (s : State) (p : Nat) : State :=
  ({ s with pt := { s.pt with freezing := s.pt.freezing.filter (· != p) } }).setBit Reg.PT_FROZEN Fld.PT_FROZEN_PARTS p false

/-- The entries that the image's sections give a register, in the order applied: the last one stands, 0 without any
(R581). -/
def State.imageWord (s : State) (k : Nat) : Word :=
  let body (t : Nat) : Bytes := ((s.boot.secs.find? (fun e => e.1 == t)).map Prod.snd).getD []
  ([4, 2, 3].map body).foldl (fun (w : Word) b =>
    (List.range (b.length / 8)).foldl (fun (w : Word) i =>
      if leAt b (8 * i) 4 = k then BitVec.ofNat 32 (leAt b (8 * i + 4) 4) else w) w) 0

/-- The image fields that class T restores, at their image values (R19, R20): CK_CTRL.EN and the step target. -/
def State.imageT (s : State) (p : Nat) : State :=
  [Reg.CK_CTRL p, Reg.CK_STEP_TARGET_LO p, Reg.CK_STEP_TARGET_HI p].foldl (fun (t : State) k =>
    let w := s.imageWord k
    t.setReg k ((fldsAt k).foldl (fun x f => if f.src = .image && f.restoredBy .t then f.put x (f.get w) else x) (t.reg k))) s

/-- A partition reset begins (R400): what the partition runs is lost, its registers of class T restored, its packages and
scratch initialised. -/
def State.partReset (s : State) (p : Nat) : State :=
  let cls := s.clustersOf p
  let s := (s.vfsOf p).foldl State.flrStart s
  let s := cls.foldl State.clDiscard s
  let s := (s.dmasOf p).foldl (fun t e => { t.dmaDiscard e with dma := Tab.erase (t.dmaDiscard e).dma e }) s
  let s := ((((s.srmtPartReset p).stgPartReset p).ckPartReset p).cphPartReset p).ethPartReset p
  let s := (s.srInterrupt (· == p)).recEnd p 1
  let s := { s with dbg := { s.dbg with
    stage := Tab.drop (fun k => k / 4 == p) s.dbg.stage
    replay := s.dbg.replay.filter (fun e => e.1 != p) } }
  let s := (((s.restoreT p).imageT p).ckRecount p).unfreeze p
  let s := s.setRemap p []
  let s := (s.physOf p).foldl (fun t ch => t.setChan ch { t.chan ch with scrubPos := 0, frames := [], hotRun := 0 }) s
  let s := (s.initPkgs p (s.pkgsOf p))
  let s := cls.foldl State.scrInitStart s
  let s := if s.isMirrored p then (s.mirFall p).resyncStart p else s
  s.setBit Reg.PT_RESET_BUSY Fld.PT_RESET_BUSY_PARTS p true

/-- The changes of a map that takes effect (R382): what changed entries ran is discarded under the old map, which the new
one then replaces. -/
def State.mapApply (s : State) : State :=
  let old := (List.range mapSize).map s.mapEntry
  let new := (List.range mapSize).map s.shadowEntry
  let diff (i : Nat) : Bool := old.getD i 0x1F != new.getD i 0x1F
  let pkgDiff := (List.range 32).filter diff
  let parts := (List.range 16).filter (fun p => pkgDiff.any (fun k => old.getD k 0x1F == p || new.getD k 0x1F == p))
  let cls := (List.range 16).filter (fun c => diff (32 + c))
  let dmas := (List.range 16).filter (fun e => diff (56 + e))
  let vfs := (List.range 64).filter (fun v => diff (72 + v))
  let s := cls.foldl State.clDiscard s
  let s := dmas.foldl State.dmaOwnerChange s
  let s := vfs.foldl State.flrStart s
  let s := (List.range 34).foldl (fun t n => t.setReg (Reg.PT_MAP_ACT n) (t.reg (Reg.PT_MAP n))) s
  let s := s.lockMap
  let s := parts.foldl State.partReset s
  cls.foldl State.clReset s

/-- PT_MAP_COMMIT_EFFECT (R382, R665). -/
def State.mapEffect (s : State) : State :=
  match s.pt.commitDue with
  | some due =>
    if s.markReached due then
      ((({ s with pt := { s.pt with commitDue := none } }).setFld Reg.PT_STATUS Fld.PT_STATUS_COMMIT_PENDING 0).mapApply).evalBadCode.recomputeC0
    else s
  | none => s

/-- The map of a start (R383): checked, applied once, every owned package and cluster initialised; a map that fails leaves
nothing owned. -/
def State.mapStart (s : State) : State :=
  match s.mapFault with
  | some c =>
    let s := (List.range 34).foldl (fun t n => t.setReg (Reg.PT_MAP_ACT n) 0x1F1F1F1F) (s.mapReject c)
    (List.range 8).foldl (fun t n => t.setFld (Reg.TL_STATUS n) Fld.TL_STATUS_OWNER 0x1F) s
  | none =>
    let s := (List.range 34).foldl (fun t n => t.setReg (Reg.PT_MAP_ACT n) (t.reg (Reg.PT_MAP n))) s
    let s := s.lockMap
    let s := (List.range 8).foldl (fun t n => t.setFld (Reg.TL_STATUS n) Fld.TL_STATUS_OWNER (t.mapEntry (48 + n))) s
    let s := (List.range 64).foldl State.vfBind s
    let s := (List.range 16).foldl (fun t p => t.initPkgs p (t.pkgsOf p)) s
    (List.range 16).foldl (fun t c => if (t.clOwner c).isSome then t.scrInitStart c else t) s

/-- A write of PT_RESET (R400). -/
def State.ptResetWrite (s : State) (src : Src) (v : Word) : State :=
  let asked := (List.range 16).filter (fun p => v.getLsbD p)
  let take := asked.filter (fun p => !s.bit Reg.PT_RESET_BUSY Fld.PT_RESET_BUSY_PARTS p && !s.pt.resetDue.any (fun e => e.1 == p))
  let due := s.markDue
  ({ s with pt := { s.pt with resetDue := s.pt.resetDue ++ take.map (fun p => (p, due)) } }).journal
    src Reg.PT_RESET 0 v take.isEmpty (if take.isEmpty then s.orbitN else due)

/-- Whether a list of pending effects holds one of a partition whose mark has come. -/
def State.partDue (s : State) (l : List (Nat × Nat)) (p : Nat) : Bool := l.any (fun e => e.1 == p && s.markReached e.2)

/-- The list without a partition's effects whose marks have come. -/
def State.partTaken (s : State) (l : List (Nat × Nat)) (p : Nat) : List (Nat × Nat) :=
  l.filter (fun e => !(e.1 == p && s.markReached e.2))

/-- PARTITION_RESET (R400). -/
def State.resetEffect (s : State) (p : Nat) : State :=
  if s.partDue s.pt.resetDue p then
    ({ s with pt := { s.pt with resetDue := s.partTaken s.pt.resetDue p } }).partReset p
  else s

/-- PARTITION_RESET_DONE: PT_RESET_BUSY clears once no package and no cluster of the partition is under initialisation. -/
def State.resetDone (s : State) (p : Nat) : State :=
  if s.fab.initBusy.any (fun e => e.2 == p) || (s.clustersOf p).any s.scr.initBusy.contains then s
  else s.setBit Reg.PT_RESET_BUSY Fld.PT_RESET_BUSY_PARTS p false

/-! Key epochs (R384–R386, R495). -/

/-- A write of PT_EPOCH (R384). -/
def State.epochWrite (s : State) (src : Src) (p : Nat) (v : Word) : State :=
  let k := Reg.PT_EPOCH p
  if !v.getLsbD 8 || s.flag k Fld.PT_EPOCH_ADVANCE_PENDING then s.journal src k (s.reg k) v true s.orbitN
  else
    let due := s.markDue
    (({ s with pt := { s.pt with epochDue := s.pt.epochDue ++ [(p, due)] } }).setFld k Fld.PT_EPOCH_ADVANCE_PENDING 1).journal
      src k (s.reg k) v false due

/-- EPOCH_ADVANCE_EFFECT (R384, R385, R408, R495, R517). -/
def State.epochEffect (s : State) (p : Nat) : State :=
  if !s.partDue s.pt.epochDue p then s
  else
    let k := Reg.PT_EPOCH p
    let e := s.epoch p
    let s := { s with pt := { s.pt with epochDue := s.partTaken s.pt.epochDue p } }
    let s := (s.setFld k Fld.PT_EPOCH_ADVANCE_PENDING 0).setFld k Fld.PT_EPOCH_EPOCH (e + 1)
    let s := if e = 255 then s.bump (Reg.PT_EPOCH_ERA p) Fld.PT_EPOCH_ERA_ERA else s
    let s := ((s.cphEpoch p).ckEpoch p).srInterrupt (· == p)
    let s := (List.range 64).foldl (fun t n => if t.nsOwner n == p && t.nsState n == 1 then t.setNs n 2 else t) s
    if e = 255 then s.partReset p else s

/-! Freeze and thaw (R402, R403). -/

/-- A write of PT_FREEZE. -/
def State.freezeWrite (s : State) (src : Src) (v : Word) : State :=
  let due := s.markDue
  let l := ((List.range 16).filter (fun p => v.getLsbD p)).map (fun p => (p, due))
  ({ s with pt := { s.pt with freezeDue := s.pt.freezeDue ++ l } }).journal src Reg.PT_FREEZE 0 v l.isEmpty
    (if l.isEmpty then s.orbitN else due)

/-- A write of PT_THAW. -/
def State.thawWrite (s : State) (src : Src) (v : Word) : State :=
  let due := s.markDue
  let l := ((List.range 16).filter (fun p => v.getLsbD p)).map (fun p => (p, due))
  ({ s with pt := { s.pt with thawDue := s.pt.thawDue ++ l } }).journal src Reg.PT_THAW 0 v l.isEmpty
    (if l.isEmpty then s.orbitN else due)

/-- The prep cores of a partition. -/
def State.coresOf (s : State) (p : Nat) : List Nat := ((s.clustersOf p).map (fun c => [2 * c, 2 * c + 1])).flatten

/-- The engines of a partition. -/
def State.enginesOf (s : State) (p : Nat) : List Nat :=
  ((s.clustersOf p).map (fun c => [4 * c, 4 * c + 1, 4 * c + 2, 4 * c + 3])).flatten

/-- Whether a core is at a bundle boundary with no access outstanding. -/
def CoreSt.atRest (c : CoreSt) : Bool :=
  c.posted.isEmpty && match c.stall with
    | .access _ _ => false
    | _ => true

/-- Whether a partition is at rest (R402). -/
def State.atRest (s : State) (p : Nat) : Bool :=
  (s.enginesOf p).all (fun e => (s.engine e).run.isNone && (s.engine e).drain.isNone && (s.engine e).fetch.isNone)
    && (s.dmasOf p).all (fun e => (s.dmaEng e).run.isNone) && (s.coresOf p).all (fun x => (s.core x).atRest)

/-- PT_FROZEN of a freezing partition that is at rest. -/
def State.freezeRest (s : State) (p : Nat) : State :=
  if s.pt.freezing.contains p && s.atRest p then
    ({ s with pt := { s.pt with freezing := s.pt.freezing.filter (· != p) } }).setBit Reg.PT_FROZEN Fld.PT_FROZEN_PARTS p true
  else s

/-- A core stopped as for HALT, its state kept: writes in flight are made, a wait keeps what is left of its limit. -/
def State.coreFreeze (s : State) (x : Nat) : State :=
  if s.pxState x != 3 then s
  else
    let s := s.coreDrain x
    let c := s.core x
    match c.stall with
    | .wait w pd limit => s.setCore x { c with stall := .wait w pd (if limit = 0 then 0 else max 1 (limit - (s.now - c.since))) }
    | _ => s

/-- A partition's agents stop (R402). -/
def State.freezeNow (s : State) (p : Nat) : State :=
  if s.isFrozen p || s.pt.freezing.contains p then s
  else
    let s := { s with pt := { s.pt with freezing := s.pt.freezing ++ [p] } }
    let s := (s.enginesOf p).foldl (fun t e => t.setEngine e { t.engine e with fetch := none }) s
    ((s.coresOf p).foldl State.coreFreeze s).freezeRest p

/-- FREEZE_EFFECT (R402). -/
def State.freezeEffect (s : State) (p : Nat) : State :=
  if !s.partDue s.pt.freezeDue p then s
  else
    ({ s with pt := { s.pt with freezeDue := s.partTaken s.pt.freezeDue p } }).freezeNow p

/-- A frozen or freezing partition resumes (R403). -/
def State.thawNow (s : State) (p : Nat) : State :=
  if !s.isFrozen p && !s.pt.freezing.contains p then s
  else
    let s := s.unfreeze p
    let cs := s.coresOf p
    let s := cs.foldl (fun t x => if t.pxState x == 3 then t.setCore x { t.core x with since := t.now } else t) s
    let held := s.pt.eclHalted.filter cs.contains
    held.foldl State.coreAutoStart { s with pt := { s.pt with eclHalted := s.pt.eclHalted.filter (fun x => !cs.contains x) } }

/-- THAW_EFFECT (R403). -/
def State.thawEffect (s : State) (p : Nat) : State :=
  if !s.partDue s.pt.thawDue p then s
  else
    ({ s with pt := { s.pt with thawDue := s.partTaken s.pt.thawDue p } }).thawNow p

/-! The commands. -/

/-- FLR_INITIATE (R398). -/
def execFlrInitiate (v : Fin 64) (s : State) : Host.Outcome State Fault Refusal := s.answer (s.flrStart v)

/-- FLR_COMPLETE (R398). -/
def execFlrComplete (v : Fin 64) (s : State) : Host.Outcome State Fault Refusal :=
  s.answer (s.unitAct (fun s => s.flrDone v))

/-- PT_MAP_COMMIT (R380). -/
def execPtMapCommit (src : Src) (v : Word) (s : State) : Host.Outcome State Fault Refusal :=
  s.answer (s.hostGate src Reg.PT_CTRL v (fun s => s.mapCommit src v))

/-- PT_MAP_COMMIT_EFFECT (R382). -/
def execPtMapCommitEffect (s : State) : Host.Outcome State Fault Refusal := s.answer s.mapEffect

/-- EPOCH_ADVANCE (R384). -/
def execEpochAdvance (src : Src) (p : Fin 16) (v : Word) (s : State) : Host.Outcome State Fault Refusal :=
  s.answer (s.hostGate src (Reg.PT_EPOCH p) v (fun s => s.epochWrite src p v))

/-- EPOCH_ADVANCE_EFFECT (R385). -/
def execEpochAdvanceEffect (p : Fin 16) (s : State) : Host.Outcome State Fault Refusal := s.answer (s.epochEffect p)

/-- PT_RESET (R400). -/
def execPtReset (src : Src) (v : Word) (s : State) : Host.Outcome State Fault Refusal :=
  s.answer (s.hostGate src Reg.PT_RESET v (fun s => s.ptResetWrite src v))

/-- PARTITION_RESET (R400). -/
def execPartitionReset (p : Fin 16) (s : State) : Host.Outcome State Fault Refusal := s.answer (s.resetEffect p)

/-- PARTITION_RESET_DONE (R400). -/
def execPartitionResetDone (p : Fin 16) (s : State) : Host.Outcome State Fault Refusal :=
  s.answer (s.unitAct (fun s => s.resetDone p))

/-- PT_FREEZE (R402). -/
def execPtFreeze (src : Src) (v : Word) (s : State) : Host.Outcome State Fault Refusal :=
  s.answer (s.hostGate src Reg.PT_FREEZE v (fun s => s.freezeWrite src v))

/-- FREEZE_EFFECT (R402). -/
def execFreezeEffect (p : Fin 16) (s : State) : Host.Outcome State Fault Refusal := s.answer (s.freezeEffect p)

/-- PARTITION_AT_REST (R402). -/
def execPartitionAtRest (p : Fin 16) (s : State) : Host.Outcome State Fault Refusal :=
  s.answer (s.unitAct (fun s => s.freezeRest p))

/-- PT_THAW (R403). -/
def execPtThaw (src : Src) (v : Word) (s : State) : Host.Outcome State Fault Refusal :=
  s.answer (s.hostGate src Reg.PT_THAW v (fun s => s.thawWrite src v))

/-- THAW_EFFECT (R403). -/
def execThawEffect (p : Fin 16) (s : State) : Host.Outcome State Fault Refusal := s.answer (s.thawEffect p)

end Sys2Proof.Machine
end

