-- ==== Sys2Proof/Machine/StgCmd.lean ====
section
/-! DEFINITION. The storage service as its driver sees it: doorbells, the admin command set and the I/O command set
(R510–R514, R523, R526). -/

namespace Sys2Proof.Machine

/-! Fetching (R513). -/

/-- Whether a partition's queues start commands. -/
def State.stgRuns (s : State) (p : Nat) : Bool := !s.computeHeld && s.ownerThawed (some p)

/-- What a fetch of bytes comes to: they have not arrived, they cannot be read, or the bytes. -/
inductive Got where
  | wait
  | bad
  | ok (d : Bytes)
  deriving DecidableEq, Repr

/-- Bytes for the next command of a queue, from partition memory or from the host, where they are asked for once and
kept until the command is admitted. -/
def State.stgGet (s : State) (p v y k : Nat) (host : Bool) (a n : Nat) : State × Got :=
  if !host then
    match s.partRead p a n with
    | (s, .inl d) => (s, .ok d)
    | (s, .inr _) => (s, .bad)
  else
    let x := s.nvSq v y
    match x.pre.find? (fun e => e.1 == k) with
    | some (_, .inl d) => (s, .ok d)
    | some (_, .inr _) => (s, .bad)
    | none =>
      match s.hostTake (.stgData (32 * v + y) k) with
      | some (s, .inl d) => (s.setNvSq v y { x with pre := x.pre ++ [(k, .inl d)] }, .ok d)
      | some (s, .inr b) => (s.setNvSq v y { x with pre := x.pre ++ [(k, .inr b)] }, .bad)
      | none =>
        if s.host.reads.any (fun r => decide (r.who = .stgData (32 * v + y) k)) then (s, .wait)
        else (s.hostRead (.stgData (32 * v + y) k) p a n, .wait)

/-- Pages named by entries of a list, for the bytes left. -/
def listPages : List Nat → Nat → List (Nat × Nat)
  | [], _ => []
  | a :: t, n => if n = 0 then [] else (a, min n 4096) :: listPages t (n - 4096)

/-- The 64-bit numbers in a run of bytes. -/
def words64 (d : Bytes) : List Nat := (List.range (d.length / 8)).map (fun i => leAt d (8 * i) 8)

/-- What the data pointer of an entry comes to. -/
inductive Pages where
  | wait
  | bad
  | ok (l : List (Nat × Nat))
  deriving DecidableEq, Repr

/-- The data pages of an entry: PRP1, then PRP2 as a page or as a list, whose last entry chains to another list when the
list's page has no room for all. -/
def State.stgPages (s : State) (p v y : Nat) (host : Bool) (e : Bytes) (len : Nat) : State × Pages :=
  let prp1 := leAt e 24 8
  let prp2 := leAt e 32 8
  let first := min len (4096 - prp1 % 4096)
  let rest := len - first
  if rest = 0 then (s, .ok [(prp1, first)])
  else if rest ≤ 4096 then (s, .ok [(prp1, first), (prp2, rest)])
  else
    let n := (rest + 4095) / 4096
    let room := (4096 - prp2 % 4096) / 8
    match s.stgGet p v y 1 host prp2 (8 * min n room) with
    | (s, .wait) => (s, .wait)
    | (s, .bad) => (s, .bad)
    | (s, .ok d) =>
      let l := words64 d
      if n ≤ room then (s, .ok ((prp1, first) :: listPages l rest))
      else
        match s.stgGet p v y 2 host (l.getLast?.getD 0) (8 * (n - (room - 1))) with
        | (s, .wait) => (s, .wait)
        | (s, .bad) => (s, .bad)
        | (s, .ok d) => (s, .ok ((prp1, first) :: listPages (l.dropLast ++ words64 d) rest))

/-- The bytes of all data pages. -/
def State.stgData (s : State) (p v y : Nat) (host : Bool) : Nat → List (Nat × Nat) → State × Got
  | _, [] => (s, .ok [])
  | k, (a, n) :: t =>
    let (s, g) := s.stgGet p v y k host a n
    let (s, r) := State.stgData s p v y host (k + 1) t
    match g, r with
    | .bad, _ => (s, .bad)
    | _, .bad => (s, .bad)
    | .ok d, .ok r => (s, .ok (d ++ r))
    | _, _ => (s, .wait)

/-- The entry at the head of a queue taken. -/
def State.nvTake (s : State) (v y : Nat) : State :=
  let x := s.nvSq v y
  s.setNvSq v y { x with head := (x.head + 1) % x.size, pre := [] }

/-- Whether a queue may fetch its next entry (R513, R514, R523). -/
def State.nvOpen (s : State) (p v y : Nat) : Bool :=
  let x := s.nvSq v y
  x.made && !s.bit (Reg.STG_QERR v) Fld.STG_QERR_STOPPED y && x.head != x.tail && (s.nvCq v x.cq).held.isEmpty && s.stgRuns p
    && (y == 0 || decide ((s.stg.cmds.filter (fun c => c.part == p && c.op != 0)).length < s.fld (Reg.STG_RL_SHARE p) Fld.STG_RL_SHARE_COUNT))

/-- The entry at the head of a queue, given to `f` if its opcode is the row's. One that cannot be read stops the queue;
an opcode outside the set is refused under the row of the set's opcode 0 (R511–R513). -/
def State.nvRun (s : State) (row v y : Nat) (known : List Nat) (f : State → Nat → Bytes → State) : State :=
  match s.vfPart v with
  | none => s
  | some p =>
    if !s.nvOpen p v y then s
    else
      let x := s.nvSq v y
      match s.stgGet p v y 0 x.loc (x.base + 64 * x.head) 64 with
      | (t, .wait) => t
      | (t, .bad) => (t.setBit (Reg.STG_QERR v) Fld.STG_QERR_STOPPED y true).setNvSq v y { t.nvSq v y with pre := [] }
      | (t, .ok e) =>
        let op := byteAt e 0
        if !known.contains op && row == 0 then (t.nvTake v y).nvComplete p v y (leAt e 2 2) nvOpcode 0
        else if op != row then s
        else f t p e

/-! The I/O command set (R512). -/

/-- The namespace of an entry if a command may use it, or the status that refuses it (R515, R517, R527, R528, R606). -/
def State.nsUse (s : State) (p : Nat) (e : Bytes) : Nat ⊕ Nat :=
  match s.nsFind p (leAt e 4 4) with
  | none => .inr nvNamespace
  | some n =>
    if s.cartState != 2 || s.nsStandby n then .inr nvNotReady
    else if s.nsState n == 1 then .inl n
    else if s.nsState n == 0 then .inr nvNamespace
    else .inr nvNotReady

/-- The status that the fields of an I/O entry call for, if any: fused and SGL use, Write's other fields, the largest
transfer, the namespace's size. -/
def State.ioFields (s : State) (n : Nat) (e : Bytes) : Option Nat :=
  let op := byteAt e 0
  let lba := leAt e 40 8
  let nlb := leAt e 48 2 + 1
  let cdw12 := leAt e 48 4
  if byteAt e 1 != 0 then some nvField
  else if op = 0 then none
  else if op = 9 then
    if leAt e 40 4 % 256 != 0 || leAt e 44 4 != 4 then some nvField else none
  else if op = 1 && (bitsOf cdw12 16 14 != 0 || cdw12.testBit 31 || leAt e 52 12 != 0) then some nvField
  else if op != 8 && decide (2 ^ 20 < nlb * s.lbSize n) then some nvField
  else if s.nsSize n < lba + nlb then some nvRange
  else none

/-- A command admitted: its range lock taken, or waited for (R523). -/
def State.nvAdmit (s : State) (c : StgCmd) : State :=
  let c := { c with id := s.stg.nextId }
  let s := { s with stg := { s.stg with nextId := s.stg.nextId + 1, cmds := s.stg.cmds ++ [c] } }
  if s.cmdHeld c then s.bump (Reg.STG_CNT_RLSTALL c.part) Fld.STG_CNT_RLSTALL_COUNT
  else (s.cmdStart c).stgStep

/-- A command of an entry, before its data. -/
def State.newCmd (s : State) (p v y n : Nat) (e : Bytes) : StgCmd :=
  let op := byteAt e 0
  ⟨0, p, v, y, leAt e 2 2, op, n, if op = 0 then 0 else leAt e 40 8, if op = 0 then 0 else leAt e 48 2 + 1,
   (op != 2 && (leAt e 48 4).testBit 30) || (op != 2 && s.flag Reg.STG_STATUS Fld.STG_STATUS_WRITE_THROUGH), .lock, [], false,
   [], [], [], [], [], none⟩

/-- An I/O entry: checked, its data gathered, admitted. -/
def State.nvIo (s : State) (v y p : Nat) (e : Bytes) : State :=
  let cid := leAt e 2 2
  let fail (t : State) (st : Nat) : State := (t.nvTake v y).nvComplete p v y cid st 0
  match s.nsUse p e with
  | .inr st => fail s st
  | .inl n =>
    match s.ioFields n e with
    | some st => fail s st
    | none =>
      let host := (s.nvSq v y).dataLoc
      let c := { s.newCmd p v y n e with dataLoc := host }
      let len := c.nlb * s.lbSize n
      match c.op with
      | 0 => (s.nvTake v y).nvAdmit c
      | 8 => (s.nvTake v y).nvAdmit { c with data := zeros len }
      | 9 =>
        match s.stgGet p v y 1 host (leAt e 24 8) 16 with
        | (t, .wait) => t
        | (t, .bad) => fail t nvTransfer
        | (t, .ok d) =>
          let c := { c with lba := leAt d 8 8, nlb := leAt d 4 4, fua := false }
          if t.nsSize n < c.lba + c.nlb then fail t nvRange else (t.nvTake v y).nvAdmit c
      | _ =>
        match s.stgPages p v y host e len with
        | (t, .wait) => t
        | (t, .bad) => fail t nvTransfer
        | (t, .ok l) =>
          if c.op = 2 then (t.nvTake v y).nvAdmit { c with pages := l }
          else
            match t.stgData p v y host 16 l with
            | (t, .wait) => t
            | (t, .bad) => fail t nvTransfer
            | (t, .ok d) => (t.nvTake v y).nvAdmit { c with data := d }

/-- The opcodes of R512. -/
def ioOps : List Nat := [0, 1, 2, 8, 9]

/-- An I/O row on a queue pair 1–16. -/
def State.nvIoRow (s : State) (row : Nat) (q : NvmeQ) : State :=
  if q.y.val = 0 then s else s.nvRun row q.vf q.y ioOps (fun t p e => t.nvIo q.vf q.y p e)

/-! The admin command set (R511). -/

/-- The opcodes of R511. -/
def adminOps : List Nat := [0, 1, 2, 4, 5, 6, 0x14]

/-- Bytes that an admin command transfers. -/
def adminLen (e : Bytes) : Nat :=
  match byteAt e 0 with
  | 2 => 4 * (leAt e 42 2 + 1)
  | 6 => 4096
  | _ => 0

/-- An admin row, once its data pages are known: what `f` answers is the command's status. -/
def State.nvAdmin (s : State) (row v : Nat) (f : State → Nat → Bytes → State × Nat) : State :=
  s.nvRun row v 0 adminOps (fun t p e =>
    match t.stgPages p v 0 (t.nvSq v 0).loc e (adminLen e) with
    | (t, .wait) => t
    | (t, _) =>
      let (t, st) := f t p e
      (t.nvTake v 0).nvComplete p v 0 (leAt e 2 2) st 0)

/-- DELETE_IO_SQ: commands not yet completed are aborted. -/
def State.nvDeleteSq (s : State) (v : Nat) (e : Bytes) : State × Nat :=
  let q := leAt e 40 2
  if q = 0 || 16 < q || !(s.nvSq v q).made then (s, nvQueueId)
  else
    let mine := s.stg.cmds.filter (fun c => c.v == v && c.y == q)
    let s := mine.foldl (fun t c => t.cmdEnd c nvSqDeleted) s
    ((s.setNvSq v q nvSqDefault).setBit (Reg.STG_QERR v) Fld.STG_QERR_STOPPED q false, 0)

/-- CREATE_IO_SQ. -/
def State.nvCreateSq (s : State) (v : Nat) (e : Bytes) : State × Nat :=
  let q := leAt e 40 2
  let size := leAt e 42 2 + 1
  let cq := leAt e 46 2
  let flags := leAt e 48 4
  if q = 0 || 16 < q || (s.nvSq v q).made then (s, nvQueueId)
  else if size < 2 ∨ 4096 < size then (s, nvQueueSize)
  else if (leAt e 44 2).testBit 0 = false then (s, nvField)
  else if cq = 0 || 16 < cq || !(s.nvCq v cq).made then (s, nvCqInvalid)
  else
    let s := s.setBit (Reg.STG_QERR v) Fld.STG_QERR_STOPPED q false
    (s.setNvSq v q ⟨true, leAt e 24 8, size, flags.testBit 0, flags.testBit 1, cq, 0, 0, []⟩, 0)

/-- DELETE_IO_CQ. -/
def State.nvDeleteCq (s : State) (v : Nat) (e : Bytes) : State × Nat :=
  let q := leAt e 40 2
  if q = 0 || 16 < q || !(s.nvCq v q).made then (s, nvQueueId)
  else if (List.range 17).any (fun y => (s.nvSq v y).made && (s.nvSq v y).cq == q) then (s, nvQueueDeletion)
  else (s.setNvCq v q nvCqDefault, 0)

/-- CREATE_IO_CQ. -/
def State.nvCreateCq (s : State) (v : Nat) (e : Bytes) : State × Nat :=
  let q := leAt e 40 2
  let size := leAt e 42 2 + 1
  let flags := leAt e 44 2
  let iv := leAt e 46 2
  if q = 0 || 16 < q || (s.nvCq v q).made then (s, nvQueueId)
  else if size < 2 ∨ 4096 < size then (s, nvQueueSize)
  else if flags.testBit 0 = false then (s, nvField)
  else if flags.testBit 1 && (iv = 0 || 63 < iv) then (s, nvVector)
  else
    (s.setNvCq v q ⟨true, leAt e 24 8, size, (leAt e 48 4).testBit 0, if flags.testBit 1 then some iv else none, 0, 0, true, []⟩, 0)

/-- An Identify structure: the bytes that the spec states, over bytes that it does not. -/
def identBytes (kind : Nat) (stated : List (Nat × Bytes)) : Bytes :=
  stated.foldl (fun b e => overlay b e.1 e.2) ((List.range 4096).map (Config.identify kind))

/-- The namespace structure: size and capacity, one format without metadata, DLFEAT 0. -/
def State.identNs (s : State) (n : Nat) : Bytes :=
  identBytes 1 [(0, le 8 (s.nsSize n)), (8, le 8 (s.nsSize n)), (25, le 1 0), (26, le 1 0), (27, le 1 0), (33, le 1 0),
    (128, le 2 0 ++ le 1 (if s.lbSize n == 4096 then 12 else 9))]

/-- The controller structure: largest transfer 1 MiB, entry sizes, namespaces, VWC 0. -/
def identCtl : Bytes := identBytes 0 [(77, le 1 8), (512, le 1 0x66 ++ le 1 0x44), (516, le 4 16), (525, le 1 0)]

/-- The active namespace list of a partition above an NSID. -/
def State.identList (s : State) (p above : Nat) : Bytes :=
  padTo 4096 (((List.range 17).filter (fun i => decide (above < i) && (match s.nsFind p i with
    | some n => s.nsState n != 0
    | none => false))).map (le 4)).flatten

/-- IDENTIFY. -/
def State.nvIdentify (s : State) (v p : Nat) (e : Bytes) : State × Nat :=
  let host := (s.nvSq v 0).loc
  let give (d : Bytes) : State × Nat :=
    match s.stgPages p v 0 host e 4096 with
    | (t, .ok l) =>
      let (t, ok) := t.pagesWrite p host l d
      (t, if ok then 0 else nvTransfer)
    | (t, _) => (t, nvTransfer)
  match byteAt e 40 with
  | 0 =>
    match s.nsFind p (leAt e 4 4) with
    | some n => give (if s.nsState n = 0 then zeros 4096 else s.identNs n)
    | none => (s, nvNamespace)
  | 1 => give identCtl
  | 2 => give (s.identList p (leAt e 4 4))
  | _ => (s, nvField)

/-- Log 0x06: the test in progress and the results. -/
def State.testLog (s : State) (p : Nat) : Bytes :=
  let cur := (s.stg.tests.find? (fun t => t.1 == p)).map (fun t => t.2.code)
  padTo 564 (le 1 (cur.getD 0) ++ zeros 3 ++ (Tab.get (fun _ => []) s.stg.results p).flatten)

/-- GET_LOG_PAGE. -/
def State.nvLog (s : State) (v p : Nat) (e : Bytes) : State × Nat :=
  let host := (s.nvSq v 0).loc
  let len := 4 * (leAt e 42 2 + 1)
  if byteAt e 40 != 6 then (s, nvLogPage)
  else
    match s.stgPages p v 0 host e len with
    | (t, .ok l) =>
      let (t, ok) := t.pagesWrite p host l (slice (t.testLog p) 0 len)
      (t, if ok then 0 else nvTransfer)
    | (t, _) => (t, nvTransfer)

/-- DEVICE_SELF_TEST (R526). -/
def State.nvTest (s : State) (p : Nat) (e : Bytes) : State × Nat :=
  let stc := byteAt e 40 % 16
  let nsid := leAt e 4 4
  let all := (List.range 64).filter (fun n => s.nsOwner n == p && s.nsState n == 1)
  let running := s.stg.tests.find? (fun t => t.1 == p)
  if stc = 0xF then
    match running with
    | some (_, t) => (s.testEnd p t 1 t.nsid none, 0)
    | none => (s, 0)
  else if stc != 1 && stc != 2 then (s, nvField)
  else if running.isSome then (s, nvTestRunning)
  else
    let start (l : List Nat) : State × Nat :=
      let s := l.foldl (fun t n => t.setTest n stc) s
      ({ s with stg := { s.stg with tests := Tab.ins s.stg.tests p ⟨stc, nsid, l.map (fun n => (n, 0))⟩ } }, 0)
    if nsid = 0xFFFFFFFF then (if s.cartState == 2 then start all else (s, nvNotReady))
    else
      match s.nsUse p e with
      | .inl n => start [n]
      | .inr st => (s, st)

/-! Doorbells and the admin queue pair (R533). -/

/-- STG_SQ_DB. -/
def State.nvSqDb (s : State) (v y n : Nat) : State :=
  let x := s.nvSq v y
  if x.made && decide (n < x.size) then s.setNvSq v y { x with tail := n } else s

/-- STG_CQ_DB (R514). -/
def State.nvCqDb (s : State) (v y n : Nat) : State :=
  let x := s.nvCq v y
  if x.made && decide (n < x.size) then
    let s := s.setNvCq v y { x with head := n }
    match s.vfPart v with
    | some p => s.nvRelease p v y (x.held.length + 1)
    | none => s
  else s

/-- A write of STG_ACTRL: the admin queue pair runs, and is ready, while EN is 1. -/
def State.nvActrl (s : State) (v : Nat) (w : Word) : State :=
  let k := Reg.STG_ACTRL v
  let was := (s.reg k).getLsbD 0
  let s := s.setReg k (w &&& 3)
  let aqa := s.reg (Reg.STG_AQA v)
  let loc := w.getLsbD 1
  if w.getLsbD 0 && !was then
    let s := s.setNvSq v 0 ⟨true, s.reg64 (Reg.STG_ASQ_LO v) (Reg.STG_ASQ_HI v), bitsOf aqa.toNat 0 8 + 1, loc, loc, 0, 0, 0, []⟩
    let s := s.setNvCq v 0
      ⟨true, s.reg64 (Reg.STG_ACQ_LO v) (Reg.STG_ACQ_HI v), bitsOf aqa.toNat 16 8 + 1, loc, none, 0, 0, true, []⟩
    s.setFld (Reg.STG_ASTATUS v) Fld.STG_ASTATUS_RDY 1
  else if !w.getLsbD 0 && was then
    ((s.setNvSq v 0 nvSqDefault).setNvCq v 0 nvCqDefault).setFld (Reg.STG_ASTATUS v) Fld.STG_ASTATUS_RDY 0
  else s

/-! The commands. -/

/-- STG_SQ_DB (R513). -/
def execStgSqDb (q : NvmeQ) (v : Word) (s : State) : Host.Outcome State Fault Refusal :=
  s.answer (s.vfGate (fun s => s.nvSqDb q.vf q.y (v.toNat % 65536)))

/-- STG_CQ_DB (R514). -/
def execStgCqDb (q : NvmeQ) (v : Word) (s : State) : Host.Outcome State Fault Refusal :=
  s.answer (s.vfGate (fun s => s.nvCqDb q.vf q.y (v.toNat % 65536)))

/-- DELETE_IO_SQ (R511). -/
def execDeleteIoSq (v : Fin 64) (s : State) : Host.Outcome State Fault Refusal :=
  s.answer (s.nvAdmin 0 v (fun t _ e => t.nvDeleteSq v e)).stgStep

/-- CREATE_IO_SQ (R511). -/
def execCreateIoSq (v : Fin 64) (s : State) : Host.Outcome State Fault Refusal :=
  s.answer (s.nvAdmin 1 v (fun t _ e => t.nvCreateSq v e))

/-- DELETE_IO_CQ (R511). -/
def execDeleteIoCq (v : Fin 64) (s : State) : Host.Outcome State Fault Refusal :=
  s.answer (s.nvAdmin 4 v (fun t _ e => t.nvDeleteCq v e))

/-- CREATE_IO_CQ (R511). -/
def execCreateIoCq (v : Fin 64) (s : State) : Host.Outcome State Fault Refusal :=
  s.answer (s.nvAdmin 5 v (fun t _ e => t.nvCreateCq v e))

/-- IDENTIFY (R511). -/
def execIdentify (v : Fin 64) (s : State) : Host.Outcome State Fault Refusal :=
  s.answer (s.nvAdmin 6 v (fun t p e => t.nvIdentify v p e))

/-- GET_LOG_PAGE (R511). -/
def execGetLogPage (v : Fin 64) (s : State) : Host.Outcome State Fault Refusal :=
  s.answer (s.nvAdmin 2 v (fun t p e => t.nvLog v p e))

/-- DEVICE_SELF_TEST (R526). -/
def execDeviceSelfTest (v : Fin 64) (s : State) : Host.Outcome State Fault Refusal :=
  s.answer (s.nvAdmin 0x14 v (fun t p e => t.nvTest p e)).stgStep

/-- FLUSH (R520). -/
def execFlush (q : NvmeQ) (s : State) : Host.Outcome State Fault Refusal := s.answer (s.nvIoRow 0 q)

/-- NVME_WRITE (R518). -/
def execNvmeWrite (q : NvmeQ) (s : State) : Host.Outcome State Fault Refusal := s.answer (s.nvIoRow 1 q)

/-- NVME_READ (R519). -/
def execNvmeRead (q : NvmeQ) (s : State) : Host.Outcome State Fault Refusal := s.answer (s.nvIoRow 2 q)

/-- WRITE_ZEROES (R512). -/
def execWriteZeroes (q : NvmeQ) (s : State) : Host.Outcome State Fault Refusal := s.answer (s.nvIoRow 8 q)

/-- DATASET_MANAGEMENT (R512). -/
def execDatasetManagement (q : NvmeQ) (s : State) : Host.Outcome State Fault Refusal := s.answer (s.nvIoRow 9 q)

/-- RANGE_LOCK_RELEASE (R523). -/
def execRangeLockRelease (p : Fin 16) (s : State) : Host.Outcome State Fault Refusal :=
  s.answer (s.unitAct (fun s => s.lockRelease p))

/-- BUFFER_FLUSH_WRITE (R525). -/
def execBufferFlushWrite (s : State) : Host.Outcome State Fault Refusal := s.answer (s.unitAct (fun s => s.bufFlush))

/-- STG_NS_FORMAT (R517). -/
def execStgNsFormat (src : Src) (n : Fin 64) (v : Word) (s : State) : Host.Outcome State Fault Refusal := s.answer (s.hostGate src (Reg.STG_NS_CTRL n) v (fun s => s.nsFormat n v))

/-- CARTRIDGE_INSERT (R529). -/
def execCartridgeInsert (ok : Bool) (s : State) : Host.Outcome State Fault Refusal := s.answer (s.cartInsert ok)

/-- MOUNT_TIMEOUT (R529). -/
def execMountTimeout (s : State) : Host.Outcome State Fault Refusal := s.answer (s.unitAct (fun s => s.mountTimeout))

/-- SHUTDOWN_TIMEOUT (R528). -/
def execShutdownTimeout (s : State) : Host.Outcome State Fault Refusal :=
  s.answer (s.unitAct (fun s => s.shutdownTimeout))

/-- HOLDUP_LOW (R521). -/
def execHoldupLow (joules : BitVec 10) (s : State) : Host.Outcome State Fault Refusal := s.answer (s.holdupLow joules.toNat)

/-- HOLDUP_RECOVER (R521). -/
def execHoldupRecover (joules : BitVec 10) (s : State) : Host.Outcome State Fault Refusal := s.answer (s.holdupRecover joules.toNat)

end Sys2Proof.Machine
end

