-- ==== Sys2Proof/Machine/TetherCmd.lean ====
section
/-! DEFINITION. What the messages that arrive on a Tether port do in the sled, and the commands of the links (R327–R344,
R382). -/

namespace Sys2Proof.Machine

/-- The status that refuses a message to an owner's memory, if any (R330, R606, R646). -/
def State.tlRefuse (s : State) (p lines : Nat) (m : MsgHdr) (inject : Bool) : Option Nat :=
  let a := m.arg.toNat
  if (s.isStandby p || s.replaying p) && !inject then some 0x12
  else if a % 64 != 0 || decide (2 ^ 48 ≤ a) then some 0x11
  else if s.spaceSize (.part p) < a + 64 * lines then some MemStatus.outOfRange.code
  else none

/-- A message refused with status MALFORMED, or discarded for it, counted. -/
def State.tlMalformed (s : State) (n st : Nat) : State :=
  if st = 0x11 then s.bump (Reg.TL_CNT_MALFORMED n) Fld.TL_CNT_MALFORMED_COUNT else s

/-- A chunk of an answer to a READ. -/
def readChunk (m : MsgHdr) (status off len : Nat) (last : Bool) (d : Bytes) : TlTx :=
  ⟨{ blankHdr mData with
      tag := m.tag, len := BitVec.ofNat 7 len, last := last, status := BitVec.ofNat 8 status, offset := BitVec.ofNat 6 off },
   0, d, m.cls == 0#2⟩

/-- The answer that ends a READ with a status and no data. -/
def endChunk (m : MsgHdr) (status off : Nat) : TlTx := readChunk m status off 1 true []

/-- Up to sixteen lines of a READ: how many were read, whether one was corrected, their bytes, the status that failed. -/
def State.readLines (s : State) (p a : Nat) : Nat → State × Nat × Bool × Bytes × Option Nat
  | 0 => (s, 0, false, [], none)
  | n + 1 =>
    let (s, st, d) := s.readLine (.part p) a
    if !st.good then (s, 0, false, [], some st.code)
    else
      let (s, k, c, r, e) := State.readLines s p (a + 64) n
      (s, k + 1, c || st.code == 1, d ++ r, e)

/-- The chunks of a READ (R329, R330). -/
def State.readChunks (s : State) (p : Nat) (m : MsgHdr) : Nat → Nat → State × List TlTx
  | 0, _ => (s, [])
  | fuel + 1, off =>
    let left := m.len.toNat - off
    let n := min 16 left
    let (s, k, c, d, e) := s.readLines p (m.arg.toNat + 64 * off) n
    let st : Nat := if c then 1 else 0
    match e with
    | some code => (s, (if k = 0 then [] else [readChunk m st off k false d]) ++ [endChunk m code (off + k)])
    | none =>
      if left ≤ 16 then (s, [readChunk m st off k true d])
      else
        let (s, r) := State.readChunks s p m fuel (off + 16)
        (s, readChunk m st off k false d :: r)

/-- A message to a port that nobody owns (R336). -/
def State.tlUnowned (s : State) (n : Nat) : State := s.bump (Reg.TL_CNT_UNOWNED n) Fld.TL_CNT_UNOWNED_COUNT

/-- Completions sent, unless the message was injected by a replay. -/
def State.tlAnswer (s : State) (n : Nat) (inject : Bool) (l : List TlTx) : State :=
  if inject then s else l.foldl (fun t x => t.tlSend n x) s

/-- A READ acts (R329, R330, R336). -/
def State.actRead (s : State) (n : Nat) (m : MsgHdr) (inject : Bool) : State :=
  match s.portServes n with
  | none => (s.tlUnowned n).tlAnswer n inject [endChunk m 0x10 0]
  | some p =>
    match s.tlRefuse p m.len.toNat m inject with
    | some st => (s.tlMalformed n st).tlAnswer n inject [endChunk m st 0]
    | none =>
      let (s, l) := s.readChunks p m 5 0
      s.tlAnswer n inject l

/-- A write's end: units freed, WRITE_ACK sent where asked for, or its failed lines counted (R330, R333, R334). -/
def State.writeEnd (s : State) (n : Nat) (m : MsgHdr) (units status bad : Nat) (inject : Bool) : State :=
  let s := if inject then s else s.freeUnits n m units
  if m.ackReq then s.tlAnswer n inject [⟨{ blankHdr mAck with tag := m.tag, status := BitVec.ofNat 8 status }, 0, [], false⟩]
  else if bad = 0 then s else s.bumpBy (Reg.TL_CNT_WRITE_ERR n) Fld.TL_CNT_WRITE_ERR_COUNT bad

/-- Lines written one after another; a line that fails stays unchanged. The first failing status and how many failed. -/
def State.writeLines (s : State) (p a : Nat) (d : Bytes) : Nat → State × Nat × Nat
  | 0 => (s, 0, 0)
  | n + 1 =>
    let (s, st) := s.partWrite p a (slice d 0 64)
    let (s, f, k) := State.writeLines s p (a + 64) (d.drop 64) n
    if st.good then (s, f, k) else (s, st.code, k + 1)

/-- A WRITE acts. -/
def State.actWrite (s : State) (n : Nat) (m : MsgHdr) (d : Bytes) (inject : Bool) : State :=
  let units := 1 + 4 * m.len.toNat
  match s.portServes n with
  | none => (s.tlUnowned n).writeEnd n m units 0x10 0 inject
  | some p =>
    match s.tlRefuse p m.len.toNat m inject with
    | some st => (s.tlMalformed n st).writeEnd n m units st (if st = 0x11 ∨ st = 0x12 then 0 else 1) inject
    | none =>
      let (s, f, k) := s.writeLines p m.arg.toNat d m.len.toNat
      s.writeEnd n m units f k inject

/-- The bytes of a line under a mask, taken from new data. -/
def maskLine (mask : BitVec 64) (old new : Bytes) : Bytes :=
  (List.range 64).map (fun i => if mask.getLsbD i then new.getD i 0 else old.getD i 0)

/-- A WRITE_MASKED acts: a read-modify-write of one line (R92). -/
def State.actMasked (s : State) (n : Nat) (m : MsgHdr) (mask : BitVec 64) (d : Bytes) (inject : Bool) : State :=
  match s.portServes n with
  | none => (s.tlUnowned n).writeEnd n m 6 0x10 0 inject
  | some p =>
    match s.tlRefuse p 1 m inject with
    | some st => (s.tlMalformed n st).writeEnd n m 6 st (if st = 0x11 ∨ st = 0x12 then 0 else 1) inject
    | none =>
      let a := m.arg.toNat
      let (s, st) :=
        if mask = BitVec.allOnes 64 then s.partWrite p a (slice d 0 64)
        else
          let (s, st, old) := s.readLine (.part p) a
          if st.good then s.partWrite p a (maskLine mask old d) else (s, st)
      s.writeEnd n m 6 (if st.good then 0 else st.code) (if st.good then 0 else 1) inject

/-- A DOORBELL acts: a prep core of the owner's clusters gets its word (R335). -/
def State.actDoorbell (s : State) (n : Nat) (m : MsgHdr) (inject : Bool) : State :=
  let a := m.arg.toNat
  let x := bitsOf a 8 5
  let s := if inject then s else s.freeUnits n m 1
  match s.portServes n with
  | none => s.tlUnowned n
  | some p =>
    if (s.isStandby p || s.replaying p) && !inject then s
    else if s.clOwner (x / 2) = some p then s.dbellSet x (a % 8) (BitVec.ofNat 32 (a / 2 ^ 32))
    else s.tlMalformed n 0x11

/-- A STEP_MARK acts (R335, R537). -/
def State.actStep (s : State) (n : Nat) (m : MsgHdr) (inject : Bool) : State :=
  let s := if inject then s else s.freeUnits n m 1
  match s.portServes n with
  | none => s.tlUnowned n
  | some p => if (s.isStandby p || s.replaying p) && !inject then s else s.ckStep p n m.arg.toNat

/-- Whether a message of a port's queue may act now (R334, R343, R382): the port neither holds nor switches, and no earlier
request waits, but that a class-0 READ may pass other READs. -/
def State.tlMayAct (s : State) (n i : Nat) (m : MsgHdr) : Bool :=
  let ahead := ((s.port n).rxq.take i).map Prod.fst
  if channelOf m = 2 then true
  else
    !s.portHeld n && !s.portSwitching n
      && ahead.all (fun e => channelOf e == 2 || (channelOf m == 1 && m.cls == 0#2 && channelOf e == 1 && e.cls != 0#2))

/-- A message of a row taken: one that waits in the port's queue, or one that arrives now and finds nothing to hold it. -/
def State.tlRow (s : State) (n : Nat) (types : List Nat) (m : MsgHdr) (mask : BitVec 64) (d : Bytes) (act : State → State) : State :=
  if !types.contains m.mtype.toNat || (unitsOf (n == 8) m).isNone || !s.portUp n then s
  else
    let e := (m, mask, d)
    let s := if (s.port n).rxq.contains e then s else s.msgArrive n ((unitsOf (n == 8) m).getD 0) m mask d
    let q := (s.port n).rxq
    match q.findIdx? (fun x => x = e) with
    | some i =>
      if s.tlMayAct n i m then act (s.setPort n { s.port n with rxq := q.eraseIdx i }) else s
    | none => s

/-- TETHER_OWNER_SWITCH (R382): the port serves the owner that the active map names. -/
def State.ownerSwitch (s : State) (n : Nat) : State :=
  if s.portSwitching n then s.setFld (Reg.TL_STATUS n) Fld.TL_STATUS_OWNER (s.mapEntry (48 + n)) else s

/-! The commands. -/

/-- NAK_RECEIVE (R325). -/
def execNakReceive (n : Fin 9) (ack : BitVec 12) (s : State) : Host.Outcome State Fault Refusal := s.answer (s.nakReceive n ack.toNat)

/-- RETRY_TIMEOUT (R325). -/
def execRetryTimeout (n : Fin 9) (s : State) : Host.Outcome State Fault Refusal :=
  s.answer (s.unitAct (fun s => s.resend n))

/-- TETHER_READ (R329). -/
def execTetherRead (n : Fin 8) (m : MsgHdr) (s : State) : Host.Outcome State Fault Refusal :=
  s.answer (s.tlRow n [mRead] m 0 [] (fun t => t.actRead n m false))

/-- TETHER_WRITE (R330). -/
def execTetherWrite (n : Fin 8) (m : MsgHdr) (data : Bytes) (s : State) : Host.Outcome State Fault Refusal :=
  s.answer (s.tlRow n [mWrite] m 0 data (fun t => t.actWrite n m data false))

/-- WRITE_MASKED (R327). -/
def execWriteMasked (n : Fin 8) (m : MsgHdr) (mask : BitVec 64) (data : Bytes) (s : State) : Host.Outcome State Fault Refusal :=
  s.answer (s.tlRow n [mMasked] m mask data (fun t => t.actMasked n m mask data false))

/-- DOORBELL (R335). -/
def execDoorbell (n : Fin 8) (m : MsgHdr) (s : State) : Host.Outcome State Fault Refusal :=
  s.answer (s.tlRow n [mDoorbell] m 0 [] (fun t => t.actDoorbell n m false))

/-- STEP_MARK (R537). -/
def execStepMark (n : Fin 8) (m : MsgHdr) (s : State) : Host.Outcome State Fault Refusal :=
  s.answer (s.tlRow n [mStep] m 0 [] (fun t => t.actStep n m false))

/-- READ_DATA (R329). -/
def execReadData (n : Fin 8) (m : MsgHdr) (data : Bytes) (s : State) : Host.Outcome State Fault Refusal :=
  s.answer (s.tlRow n [mData] m 0 data (fun t => t.readData n m data))

/-- PARAM (R340). -/
def execParam (n : Fin 9) (u : Bytes) (s : State) : Host.Outcome State Fault Refusal := s.answer (s.param n u)

/-- TIME_REQ (R340). -/
def execTimeReq (n : Fin 9) (s : State) : Host.Outcome State Fault Refusal := s.answer (s.timeReq n)

/-- TIME_RSP (R341). -/
def execTimeRsp (n : Fin 9) (u : Bytes) (s : State) : Host.Outcome State Fault Refusal := s.answer (s.pairAfter (s.timeRsp n u))

/-- PARAM_SEND_TIMER (R340). -/
def execParamSendTimer (n : Fin 9) (s : State) : Host.Outcome State Fault Refusal :=
  s.answer (s.unitAct (fun s => s.paramSend n))

/-- SIGNAL_DETECT (R339). -/
def execSignalDetect (n : Fin 9) (s : State) : Host.Outcome State Fault Refusal := s.answer (s.signalDetect n)

/-- PHY_TRAIN_DONE (R339). -/
def execPhyTrainDone (n : Fin 9) (s : State) : Host.Outcome State Fault Refusal := s.answer (s.trainDone n)

/-- TRAIN_TIMEOUT (R339). -/
def execTrainTimeout (n : Fin 9) (s : State) : Host.Outcome State Fault Refusal := s.answer (s.trainTimeout n)

/-- LOSS_OF_LOCK (R342). -/
def execLossOfLock (n : Fin 9) (s : State) : Host.Outcome State Fault Refusal := s.answer (s.portLoss n)

/-- NO_GOOD_FLIT_TIMEOUT (R342). -/
def execNoGoodFlitTimeout (n : Fin 9) (s : State) : Host.Outcome State Fault Refusal := s.answer (s.portLoss n)

/-- TL_RETRAIN (R342). -/
def execTlRetrain (src : Src) (n : Fin 9) (s : State) : Host.Outcome State Fault Refusal :=
  s.answer (s.hostGate src (Reg.TL_CTRL n) 2 (fun s => s.portLoss n))

/-- ECLIPSE_LONG_TIMEOUT (R344). -/
def execEclipseLongTimeout (n : Fin 9) (s : State) : Host.Outcome State Fault Refusal := s.answer (s.eclipseLong n)

/-- TETHER_OWNER_SWITCH (R382). -/
def execTetherOwnerSwitch (n : Fin 8) (s : State) : Host.Outcome State Fault Refusal := s.answer (s.ownerSwitch n)

end Sys2Proof.Machine
end

