-- ==== Sys2Proof/Machine/Pair.lean ====
section
/-! DEFINITION. The redundant pair: heartbeats, roles, what a standby receives, loss of the partner, handover and return
(chapter Redundant Pair and Loss Behaviour). -/

namespace Sys2Proof

/-- DIE_ID of the partner (R612): it is no state of this sled. -/
opaque Config.partnerDieId : Bytes

namespace Machine

/-- A bit map over the partitions that satisfy a test. -/
def partBits (f : Nat → Bool) : Nat := ((List.range 16).map (fun p => if f p then 2 ^ p else 0)).sum

/-- PAIR_ALIVE_IN. -/
def State.pairAlive (s : State) : Bool := s.flag Reg.PAIR_STATUS Fld.PAIR_STATUS_PAIR_ALIVE_IN

/-- PAIR_PRIMARY of a partition set. -/
def State.setPrimary (s : State) (p : Nat) (b : Bool) : State := s.setBit Reg.PAIR_PRIMARY Fld.PAIR_PRIMARY_PARTS p b

/-! Roles (R606, R609). -/

/-- The sum of an ICMPv6 message under its pseudo-header, complemented. -/
def icmpSum (src dst m : Bytes) : Nat := 65535 - fold16 (sum16 (src ++ dst ++ be 4 m.length ++ be 4 58 ++ m))

/-- An unsolicited Neighbor Advertisement with the Override flag for an address, from a port. -/
def State.naFrame (s : State) (n : Nat) (ip : Bytes) : Bytes :=
  let mac := s.ethMac n
  let all := be 2 0xFF02 ++ zeros 13 ++ le 1 1
  let body (sum : Nat) : Bytes := be 1 136 ++ be 1 0 ++ be 2 sum ++ be 4 0x20000000 ++ ip ++ be 1 2 ++ be 1 1 ++ mac
  be 6 0x333300000001 ++ mac ++ be 2 0x86DD ++ be 4 0x60000000 ++ be 2 (body 0).length ++ be 1 58 ++ be 1 255 ++ ip ++ all
    ++ body (icmpSum ip all (body 0))

/-- The advertisements of a partition that became primary, on every port that is up. -/
def State.pairAdvertise (s : State) (p : Nat) : State :=
  let pfx := be 4 (s.reg (Reg.ETH_PFX_HI p)).toNat ++ be 4 (s.reg (Reg.ETH_PFX_LO p)).toNat
  let ips := ((List.range 4).map (fun k => s.reg64 (Reg.PAIR_ADDR_IID_LO p k) (Reg.PAIR_ADDR_IID_HI p k))).filter (· != 0)
  let l := ((List.range 8).filter s.ethUp).flatMap (fun n => ips.map (fun i => Out.frame n (s.naFrame n (pfx ++ be 8 i))))
  { s with out := s.out ++ l }

/-- A partition becomes primary here: thawed, served, its AUTORESTART cores started afresh. -/
def State.becomePrimary (s : State) (p : Nat) (synced : Bool) : State :=
  let s := ((s.setPrimary p true).setSynced p synced).thawNow p
  ((s.coresOf p).foldl State.coreAutoStart s).pairAdvertise p

/-- A partition becomes standby here. -/
def State.becomeStandby (s : State) (p : Nat) (synced : Bool) : State := ((s.mirFall p).setPrimary p false).setSynced p synced

/-! Heartbeats (R601, R607, R610, R612). -/

/-- The bytes of the sled's heartbeat. -/
def State.beatUnit (s : State) : Bytes :=
  let st : Nat :=
    if s.pair.leaving then 3
    else if s.flag Reg.ECL_STATUS Fld.ECL_STATUS_ACTIVE || s.fld Reg.EP_STATUS Fld.EP_STATUS_DSTATE == 3 then 2
    else if s.ready then 1 else 0
  le 1 4 ++ le 6 s.orbitN ++ le 1 st ++ le 2 (partBits s.isPrimary) ++ le 2 (partBits (fun p => s.isStandby p && s.isSynced p))
    ++ le 2 (partBits s.pair.offered.contains) ++ zeros 2

/-- HEARTBEAT_SEND (R601): from LINKS onward, once the link carries flits. -/
def State.heartbeatSend (s : State) : State := if s.pairMode && s.portUp 8 then s.sendCtl 8 s.beatUnit else s

/-- The heartbeat that a control unit spells. -/
def beatOf (u : Bytes) : Beat :=
  let u := fixLen 16 u
  { orbit := BitVec.ofNat 48 (leAt u 1 6), state := BitVec.ofNat 8 (byteAt u 7), primary := BitVec.ofNat 16 (leAt u 8 2)
    synced := BitVec.ofNat 16 (leAt u 10 2), handover := BitVec.ofNat 16 (leAt u 12 2) }

/-- The roles of one mirrored partition after a heartbeat: an offer is taken up at the next mark, a partner that is primary
during the hold of a return is noted, and two primaries by their images are resolved by DIE_ID. -/
def State.beatRole (s : State) (b : Beat) (p : Nat) : State :=
  if !s.isMirrored p then s
  else if s.isPrimary p then
    if b.primary.getLsbD p && !s.pair.offered.contains p && !b.handover.getLsbD p then
      let s := s.setFld Reg.PAIR_EVENT Fld.PAIR_EVENT_ROLE_CONFLICT 1
      if leVal Config.partnerDieId < leVal dieId then s.becomeStandby p false else s
    else s
  else
    let s := if s.pair.holdFrom.isSome && b.primary.getLsbD p then
        { s with pair := { s.pair with seenPrim := s.pair.seenPrim.filter (· != p) ++ [p] } }
      else s
    if b.handover.getLsbD p && !s.pair.takeDue.any (fun e => e.1 == p) then
      { s with pair := { s.pair with takeDue := s.pair.takeDue ++ [(p, s.orbitN + 1)] } }
    else s

/-- The partner is there: PARTNER_UP, and resyncs of what the sled mirrors as primary. -/
def State.partnerUp (s : State) : State :=
  let s := { s with pair := { s.pair with lost := false } }
  (s.setFld Reg.PAIR_STATUS Fld.PAIR_STATUS_PARTNER_UP 1).setFld Reg.PAIR_STATUS Fld.PAIR_STATUS_PAIR_ALIVE_IN 1

/-- HEARTBEAT. -/
def State.heartbeat (s : State) (b : Beat) : State :=
  if !s.pairMode then s
  else
    let s := { s with pair := { s.pair with beat := some b, heard := true } }
    let s := match b.state.toNat with
      | 1 => (List.range 16).foldl State.resyncStart s.partnerUp
      | 2 => (List.range 16).foldl (fun t p =>
          if t.isMirrored p && t.isPrimary p && (t.isSynced p || t.pair.resync.any (fun e => e.1 == p)) then t.mirFall p else t) s.partnerUp
      | 3 => if s.pair.lost then s else { s with pair := { s.pair with lossDue := true } }
      | _ => s
    (List.range 16).foldl (fun t p => t.beatRole b p) s

/-- What the pair does at an orbit mark: MISS, handovers that begin, takeovers, and what was handed over. -/
def State.pairMark (s : State) : State :=
  if !s.pairMode then s
  else
    let miss := if s.pair.heard then 0 else min 4 (s.fld Reg.PAIR_STATUS Fld.PAIR_STATUS_MISS + 1)
    let s := s.setFld Reg.PAIR_STATUS Fld.PAIR_STATUS_MISS miss
    let s := { s with pair := { s.pair with heard := false, lossDue := s.pair.lossDue || (miss == 4 && !s.pair.lost) } }
    let go := s.pair.handDue.filter (fun e => s.markReached e.2)
    let s := { s with pair := { s.pair with
      handDue := s.pair.handDue.filter (fun e => !s.markReached e.2), draining := s.pair.draining ++ go.map Prod.fst } }
    let s := go.foldl (fun t e => t.freezeNow e.1) s
    let take := s.pair.takeDue.filter (fun e => s.markReached e.2)
    let s := { s with pair := { s.pair with takeDue := s.pair.takeDue.filter (fun e => !s.markReached e.2) } }
    let s := take.foldl (fun t e => if t.isStandby e.1 then t.becomePrimary e.1 (!t.pair.lost && t.isSynced e.1) else t) s
    let done := s.pair.offered.filter (fun p => (s.pair.beat.map (fun b => b.primary.getLsbD p)).getD false)
    let s := { s with pair := { s.pair with offered := s.pair.offered.filter (fun p => !done.contains p) } }
    done.foldl (fun t p => t.becomeStandby p true) s

/-! What a standby receives (R602, R605). -/

/-- A message of the pair that writes the memory of a standby partition: lines outside its mirror range, and lines of a
partition that is no standby here, are not written. -/
def State.mirLines (s : State) (p : Nat) (mask : BitVec 64) (masked : Bool) (a : Nat) (d : Bytes) : Nat → State
  | 0 => s
  | k + 1 =>
    let s :=
      if s.isStandby p && a % 64 == 0 && s.mirRange p (a / 65536) then
        let (s, st) :=
          if masked then
            let (s, st, old) := s.readLine (.part p) a
            if st.good then s.partWrite p a (maskLine mask old d) else (s, st)
          else s.partWrite p a (slice d 0 64)
        if st.good then s else s.bump (Reg.TL_CNT_WRITE_ERR 8) Fld.TL_CNT_WRITE_ERR_COUNT
      else s.bump (Reg.TL_CNT_WRITE_ERR 8) Fld.TL_CNT_WRITE_ERR_COUNT
    State.mirLines s p mask masked (a + 64) (d.drop 64) k

/-- A KIND 0 or KIND 2 message acts; a resync's makes the copy one that is not current. -/
def State.mirAct (s : State) (m : MsgHdr) (mask : BitVec 64) (d : Bytes) : State :=
  let masked := m.mtype.toNat == mMasked
  let lines := if masked then 1 else m.len.toNat
  let p := m.part.toNat
  let s := s.freeUnits 8 m ((unitsOf true m).getD 0)
  let s := if m.kind == 2#2 && s.isStandby p then s.setSynced p false else s
  s.mirLines p mask masked m.arg.toNat d lines

/-- A WRITE_ACK of a storage mirror write. -/
def State.mirAck (s : State) (m : MsgHdr) (status : Nat) : State :=
  let s := (s.tlMalformed 8 status).freeUnits 8 m ((unitsOf true m).getD 0)
  s.tlSend 8 ⟨{ blankHdr mAck with tag := m.tag, part := m.part, status := BitVec.ofNat 8 status }, 0, [], false⟩

/-- Pieces put into the write buffer, all or none. -/
def State.bufPieces (s : State) (p n : Nat) : List (Nat × Nat × Bytes) → Option State
  | [] => some s
  | (b, sector, d) :: t =>
    match s.bufPut p n b sector d false with
    | some s => State.bufPieces s p n t
    | none => none

/-- A KIND 1 message acts: it is malformed, it waits for room in the write buffer (none), or it is written under the
sled's own key and acknowledged. -/
def State.stgMirAct (s : State) (m : MsgHdr) (d : Bytes) : Option State :=
  let a := m.arg.toNat
  let n := a / 2 ^ 58
  let off := a % 2 ^ 58
  let z := s.lbSize n
  let p := s.nsOwner n
  let fits := s.nsNamed n && s.nsStandby n && s.nsState n == 1 && off % z == 0 && d.length % z == 0
    && decide (off + d.length ≤ (s.nsLen n - 1) * 4096)
  if !fits then
    some (s.mirAck m 0x11)
  else
    match s.xtsKey p 1 n with
    | (s, .inl _) => some (s.mirAck m 0x11)
    | (s, .inr key) =>
      let (s, ct) := s.xts p Client.storage false key z (off / z) d
      (s.bufPieces p n (blockPieces (s.nsBase n) off (ct.length / 512 + 2) ct)).map (fun t => t.mirAck m 0)

/-- A pair message of one KIND received. -/
def State.pairRow (s : State) (kind : Nat) (m : MsgHdr) (data : Bytes) (act : State → BitVec 64 → Bytes → State) : State :=
  if m.kind.toNat ≠ kind ∨ !s.pairMode then s
  else
    let masked := m.mtype.toNat == mMasked
    let mask : BitVec 64 := if masked then BitVec.ofNat 64 (leAt data 0 8) else 0
    let d := if masked then slice data 16 64 else data
    s.tlRow 8 [mWrite, mMasked] m mask d (fun t => act t mask d)

/-- STORAGE_MIRROR_WRITE: a message without room stays first in the port's queue. -/
def State.stgMirrorRow (s : State) (m : MsgHdr) (data : Bytes) : State :=
  s.pairRow 1 m data (fun t mask d =>
    match t.stgMirAct m d with
    | some t => t.stgStep
    | none => t.setPort 8 { t.port 8 with rxq := (m, mask, d) :: (t.port 8).rxq })

/-- WRITE_ACK on the pair link: the write waits for it no longer; a failing status makes its namespace unmirrored. -/
def State.pairAck (s : State) (m : MsgHdr) : State :=
  let s := s.freeUnits 8 m 1
  match s.pair.acks.find? (fun a => a.1 == m.tag.toNat) with
  | none => s.bump (Reg.TL_CNT_STALE_CPL 8) Fld.TL_CNT_STALE_CPL_COUNT
  | some (t, _, n) =>
    let s := { s with
      pair := { s.pair with acks := s.pair.acks.filter (fun a => a.1 != t) }
      stg := { s.stg with cmds := s.stg.cmds.map (fun (c : StgCmd) => { c with tags := c.tags.filter (· != t) }) } }
    (if m.status = 0 then s else s.nsUnmirror n).stgStep

/-! Resync and queue (R604, R605). -/

/-- Whether nothing of a partition's mirror traffic is left in the sled. -/
def State.mirEmpty (s : State) (p : Nat) : Bool :=
  (Tab.get (fun _ => []) s.pair.mq p).isEmpty && (Tab.get (fun _ => []) s.pair.waiting p).isEmpty
    && !(s.port 8).txq.any (fun m => m.h.part.toNat == p)

/-- RESYNC_COMPLETE: at the primary once everything is sent; at the standby, which its sender tells, at once. -/
def State.resyncComplete (s : State) (p : Nat) : State :=
  if !s.isMirrored p then s
  else if s.isPrimary p then
    if s.resyncEnded p && s.mirEmpty p then
      ({ s with pair := { s.pair with resync := Tab.erase s.pair.resync p } }).setSynced p true
    else s
  else if s.pair.lost then s
  else s.setSynced p true

/-- MIRROR_QUEUE_TIMEOUT (R604). -/
def State.mirTimeout (s : State) (p : Nat) : State :=
  if (Tab.get (fun _ => []) s.pair.waiting p).isEmpty then s else (s.mirFall p).resyncStart p

/-! Loss (R607, R609). -/

/-- PAIR_ALIVE low for 1 µs. -/
def State.aliveLow (s : State) : State :=
  if !s.pairMode then s
  else
    let s := s.setFld Reg.PAIR_STATUS Fld.PAIR_STATUS_PAIR_ALIVE_IN 0
    if s.ready && !s.pair.lost then { s with pair := { s.pair with lossDue := true } } else s

/-- What a mirrored partition does at a loss. -/
def State.lossPart (s : State) (p : Nat) : State :=
  if !s.isMirrored p then s
  else if s.isPrimary p then
    if s.pairAlive then (s.becomeStandby p false).setFld Reg.PAIR_EVENT Fld.PAIR_EVENT_FENCED 1 else s.mirFall p
  else if s.isSynced p then s.becomePrimary p false
  else (s.setFld Reg.PAIR_EVENT Fld.PAIR_EVENT_TAKEOVER_REFUSED 1).pairAlarm 1

/-- PAIR_LOSS (R609). -/
def State.pairLoss (s : State) : State :=
  if !s.pairMode || !s.pair.lossDue then s
  else
    let was := s
    let s := { s with pair := { s.pair with lossDue := false, lost := true, takeDue := [], handDue := [], draining := [], offered := [] } }
    let s := s.setFld Reg.PAIR_STATUS Fld.PAIR_STATUS_PARTNER_UP 0
    let s := (List.range 16).foldl State.lossPart s
    let fenced := partBits (fun p => was.isMirrored p && was.isPrimary p && !s.isPrimary p)
    ((s.setFld Reg.PAIR_EVENT Fld.PAIR_EVENT_LOSS 1).pairAlarm 2).raiseEvent 7 0 (le 2 (partBits s.isPrimary) ++ le 2 fenced)

/-! Handover and return (R610–R612). -/

/-- Whether a handover of a partition by its primary is possible. -/
def State.mayHand (s : State) (p : Nat) : Bool :=
  s.isMirrored p && s.isPrimary p && !s.pair.lost && s.isSynced p && !s.pair.handDue.any (fun e => e.1 == p)
    && !s.pair.draining.contains p && !s.pair.offered.contains p

/-- A write of PAIR_HANDOVER (R610). -/
def State.handover (s : State) (src : Src) (v : Word) : State :=
  let due := s.markDue
  let asked := (List.range 16).filter (fun p => v.getLsbD p)
  let give := asked.filter s.mayHand
  let take := asked.filter (fun p => s.isMirrored p && !s.isPrimary p && s.pair.lost && !s.pair.takeDue.any (fun e => e.1 == p))
  let s := { s with pair := { s.pair with
    handDue := s.pair.handDue ++ give.map (fun p => (p, due))
    takeDue := s.pair.takeDue ++ take.map (fun p => (p, due)) } }
  let s := if asked.all (fun p => give.contains p || take.contains p) then s
    else s.setFld Reg.PAIR_EVENT Fld.PAIR_EVENT_HANDOVER_DROPPED 1
  let none_ := give.isEmpty && take.isEmpty
  s.journal src Reg.PAIR_HANDOVER 0 v none_ (if none_ then s.orbitN else due)

/-- HANDOVER_QUEUE_DRAINED. -/
def State.handDrained (s : State) (p : Nat) : State :=
  if s.pair.draining.contains p && s.mirEmpty p then
    { s with pair := { s.pair with draining := s.pair.draining.filter (· != p), offered := s.pair.offered ++ [p] } }
  else s

/-- RETURN_HOLD_EXPIRY (R612): the roles of a sled that has returned. -/
def State.holdEnd (s : State) : State :=
  match s.pair.holdFrom with
  | none => s
  | some o =>
    if s.orbitN < o + 64 then s
    else
      let s := (List.range 16).foldl (fun t p =>
        if !t.bit Reg.PAIR_MIRRORED Fld.PAIR_MIRRORED_PARTS p then t
        else if t.pair.seenPrim.contains p then t.setSynced p false
        else if !t.pairAlive || t.pair.imgPrim.testBit p then t.becomePrimary p false
        else t) s
      { s with pair := { s.pair with holdFrom := none, seenPrim := [] } }

/-! The commands. -/

/-- FLIT_RECEIVE (R324); on the pair link also heartbeats and descriptors. -/
def execFlitReceive (n : Fin 9) (f : Flit) (s : State) : Host.Outcome State Fault Refusal :=
  let t := s.flitReceive n f
  let u := fixLen 16 (f.units.headD [])
  let t :=
    if n.val == 8 && f.crcOk && f.ftype == 3#4 && decide (3 ≤ s.portState 8) then
      if byteAt u 0 = 4 then t.heartbeat (beatOf u) else if byteAt u 0 = 5 then t.mirrorDesc u else t
    else t
  s.answer (s.pairAfter t)

/-- WRITE_ACK (R330, R602). -/
def execWriteAck (n : Fin 9) (m : MsgHdr) (s : State) : Host.Outcome State Fault Refusal :=
  s.answer (s.tlRow n [mAck] m 0 [] (fun t => if n.val = 8 then t.pairAck m else t.writeAck n m))

/-- HEARTBEAT (R601, R607). -/
def execHeartbeat (b : Beat) (s : State) : Host.Outcome State Fault Refusal := s.answer (s.heartbeat b)

/-- HEARTBEAT_SEND (R601). -/
def execHeartbeatSend (s : State) : Host.Outcome State Fault Refusal := s.answer (s.unitAct (fun s => s.heartbeatSend))

/-- MIRROR_WRITE (R602). -/
def execMirrorWrite (m : MsgHdr) (data : Bytes) (s : State) : Host.Outcome State Fault Refusal :=
  s.answer (s.pairRow 0 m data (fun t mask d => t.mirAct m mask d))

/-- STORAGE_MIRROR_WRITE (R602). -/
def execStorageMirrorWrite (m : MsgHdr) (data : Bytes) (s : State) : Host.Outcome State Fault Refusal := s.answer (s.stgMirrorRow m data)

/-- RESYNC_WRITE (R605). -/
def execResyncWrite (m : MsgHdr) (data : Bytes) (s : State) : Host.Outcome State Fault Refusal :=
  s.answer (s.pairRow 2 m data (fun t mask d => t.mirAct m mask d))

/-- MIRROR_DESC (R603). -/
def execMirrorDesc (u : Bytes) (s : State) : Host.Outcome State Fault Refusal := s.answer (s.mirrorDesc u)

/-- MIRROR_DESC_TIMEOUT (R603). -/
def execMirrorDescTimeout (s : State) : Host.Outcome State Fault Refusal := s.answer (s.unitAct (fun s => s.descTimeout))

/-- MIRROR_QUEUE_TIMEOUT (R604). -/
def execMirrorQueueTimeout (p : Fin 16) (s : State) : Host.Outcome State Fault Refusal :=
  s.answer (s.unitAct (fun s => s.mirTimeout p))

/-- RESYNC_COMPLETE (R605). -/
def execResyncComplete (p : Fin 16) (s : State) : Host.Outcome State Fault Refusal :=
  s.answer (s.unitAct (fun s => s.resyncComplete p))

/-- PAIR_ALIVE_LOW (R607). -/
def execPairAliveLow (s : State) : Host.Outcome State Fault Refusal := s.answer s.aliveLow

/-- PAIR_LOSS (R609). -/
def execPairLoss (s : State) : Host.Outcome State Fault Refusal := s.answer (s.unitAct (fun s => s.pairLoss))

/-- PAIR_HANDOVER (R610). -/
def execPairHandover (src : Src) (v : Word) (s : State) : Host.Outcome State Fault Refusal :=
  s.answer (s.hostGate src Reg.PAIR_HANDOVER v (fun s => s.handover src v))

/-- HANDOVER_QUEUE_DRAINED (R610). -/
def execHandoverQueueDrained (p : Fin 16) (s : State) : Host.Outcome State Fault Refusal :=
  s.answer (s.unitAct (fun s => s.handDrained p))

/-- RETURN_HOLD_EXPIRY (R612). -/
def execReturnHoldExpiry (s : State) : Host.Outcome State Fault Refusal := s.answer (s.unitAct (fun s => s.holdEnd))

end Machine

end Sys2Proof
end

