-- ==== Sys2Proof/Machine/Boot.lean ====
section
/-! DEFINITION. Bring-up: the reset classes P, H and K, the configuration flash and the image it holds, the work of the
boot stages, fuse programming (chapter Bring-up, Resets and Power States). -/

namespace Sys2Proof

/-- The fused digest of the vendor key (R502). -/
opaque Config.vendorDigest : Bytes

/-- Whether a channel trains: by draw number and channel (R585). -/
opaque Config.trains : Nat → Nat → Bool

/-- The code of a service core's role in the firmware section (R563): Fersa's own format (R582). -/
opaque Config.roleCode : Nat → Bytes → Bytes

/-- Where a role starts and where its stacks lie, in the firmware section's own format: entry, DS_LOW, DS_HIGH, RS_BASE,
RS_LIMIT by number. -/
opaque Config.roleEntry : Nat → Bytes → Nat → Nat

namespace Machine

/-! Classes P, H and K (R584, R597). -/

/-- SLED_ALIVE. -/
def State.sledAlive (s : State) (b : Bool) : State := { s with out := s.out ++ [.pin 1 b] }

/-- MODE at the start of a boot: the strap is sampled (R587). -/
def State.strapMode (s : State) : State := if s.boot.strap then s.setFld Reg.BOOT_STATUS Fld.BOOT_STATUS_MODE 1 else s

/-- Class P, H or K: every register restored, what the die runs lost; a boot begins, at FUSES, or at IMAGE for H. -/
def State.classReset (s : State) (cl : Cls) : State :=
  let hot := decide (cl = .h)
  let s := if hot then s.stgClear else s
  let s := s.restore cl (fun _ => true)
  let s := { s with
    latch := State.reset.latch
    tm := if hot then { State.reset.tm with orbit := s.tm.orbit, cycle := s.tm.cycle, dev := s.tm.dev } else State.reset.tm
    log := { State.reset.log with
      seq := s.reg64 Reg.LOG_WR_SEQ_LO Reg.LOG_WR_SEQ_HI
      jseq := s.reg64 Reg.PT_JRNL_SEQ_LO Reg.PT_JRNL_SEQ_HI }
    dbg := State.reset.dbg
    fab := if hot then { State.reset.fab with spareReq := s.fab.spareReq, spareCopy := s.fab.spareCopy } else State.reset.fab
    scr := State.reset.scr
    eng := []
    cores := []
    pt := State.reset.pt
    fw := State.reset.fw
    ecl := State.reset.ecl
    panel := State.reset.panel
    i3c := { s.i3c with answer := none }
    cph := State.reset.cph
    ck := []
    pair := State.reset.pair
    host := { State.reset.host with perst := s.host.perst, wake := s.host.wake }
    dma := []
    eth := State.reset.eth
    srmt := State.reset.srmt
    stg := { State.reset.stg with bay := s.stg.bay, nextId := s.stg.nextId }
    ports := []
    trw := [] }
  let s := { s with boot := { s.boot with
    secs := [], ownerBad := false, script := none, delay := none, held := none, began := s.now, hot := hot } }
  let s := (s.setFld Reg.PWR_STATUS Fld.PWR_STATUS_P48V_OK 1).strapMode.sledAlive false
  if hot then (s.setFld Reg.BOOT_STAGE Fld.BOOT_STAGE_STAGE 2).drawNonce else s

/-- Class H, unless the die is off or losing power (R584, R595). -/
def State.classH (s : State) : State := if s.pwr.on && !s.pwr.seq then s.classReset .h else s

/-! The flash and the image (R577–R581). -/

/-- `n` bytes of the flash. -/
def State.flashBytes (s : State) (a n : Nat) : Bytes := (List.range n).map (fun i => Tab.get (fun _ => (0xFF : Byte)) s.boot.flash (a + i))

/-- The first byte of an image slot: A (false) or B. -/
def slotBase (b : Bool) : Nat := if b then 0x02000000 else 0x00100000

/-- Bytes of a slot. -/
def slotSize : Nat := 0x01F00000

/-- An entry of a header: its type, offset and length. -/
structure ImgEntry where
  typ : Nat
  off : Nat
  len : Nat
  deriving DecidableEq, Repr

/-- The entries of a header. -/
def imgEntries (h : Bytes) : List ImgEntry :=
  (List.range 6).map (fun j => ⟨leAt h (0x10 + 16 * j) 4, leAt h (0x14 + 16 * j) 4, leAt h (0x18 + 16 * j) 4⟩)

/-- Whether two sections overlap. -/
def ImgEntry.overlaps (a b : ImgEntry) : Bool := decide (a.off < b.off + b.len) && decide (b.off < a.off + a.len)

/-- Whether a header is valid (R579). -/
def headerValid (h : Bytes) : Bool :=
  let l := imgEntries h
  leAt h 0 4 == 0x4C494D47 && leAt h 4 4 == 1 && leAt h 0xC 4 == 6 && leAt h 0x70 4 == (crc32c (h.take 0x70)).toNat
    && [1, 2, 3, 4, 5, 6].all (fun t => l.any (fun e => e.typ == t))
    && l.all (fun e => decide (e.off + e.len ≤ slotSize))
    && l.all (fun a => l.all (fun b => a.typ == b.typ || !a.overlaps b))

/-- The slot that the sled uses (R579): the valid one with the higher IMAGE_SEQ, A where both are equal. -/
def State.imageSlot (s : State) : Option Bool :=
  let a := s.flashBytes (slotBase false) 128
  let b := s.flashBytes (slotBase true) 128
  match headerValid a, headerValid b with
  | true, true => some (decide (leAt a 8 4 < leAt b 8 4))
  | true, false => some false
  | false, true => some true
  | false, false => none

/-- The body of a section. -/
def secBody (raw : Bytes) : Bytes := (raw.drop 0x50).take (leAt raw 8 4)

/-- Whether a section is laid out as R580 says. -/
def secFormed (typ : Nat) (raw : Bytes) : Bool :=
  let n := leAt raw 8 4
  leAt raw 0 4 == typ && leAt raw 6 2 == 0 && leAt raw 0xC 4 == 0 && decide (n ≤ if typ = 5 then 2 ^ 22 else 2 ^ 18)
    && raw.length == 0x50 + n + 29792

/-- Whether the fuses accept a section's key (R502). -/
def State.keyAccepted (s : State) (typ : Nat) (key : Bytes) : Bool :=
  let d := fixLen 32 (Config.shake key 32)
  if typ == 1 || typ == 5 then d == fixLen 32 Config.vendorDigest
  else s.boot.loaded.owner.any (fun e => !s.boot.loaded.revoked.contains e.1 && e.2 == d)

/-- Whether a section verifies but for its security version (R502, R580, R582). -/
def State.secGood (s : State) (typ : Nat) (raw : Bytes) : Bool :=
  let n := leAt raw 8 4
  let key := slice raw 0x10 64
  let b := secBody raw
  secFormed typ raw && s.keyAccepted typ key && Config.slhVerify key (raw.take (0x50 + n)) (raw.drop (0x50 + n))
    && (typ != 1 || (n == 36 && b.take 32 == dieId && leAt b 32 4 / 4 == 0))

/-- Whether a section's security version is below the fused one. -/
def State.svnLow (s : State) (typ : Nat) (raw : Bytes) : Bool :=
  let v := leAt raw 4 2
  if typ == 1 then false else if typ == 5 then decide (v < s.boot.loaded.fwSvn) else decide (v < s.boot.loaded.imgSvn)

/-- The fields of a register that the image sets; the licence, its consequences and what is derived from the sections at
MAP_APPLY are not set by entries. -/
def imageFields (k : Nat) : List Fld :=
  if k < 0x04000000 then (fldsAt k).filter (fun f => decide (f.src = .image)) else []

/-- Registers whose image fields the sled derives. -/
def imageDerived (k : Nat) : Bool :=
  k == Reg.LIC_STATUS || k == Reg.LIC_ENGINE_LO || k == Reg.LIC_ENGINE_HI || k == Reg.CPH_VERIFY || k == Reg.EPH_MODE_ACT
    || k == Reg.MF_STATUS || (match regAt k with
      | some (r, _) => r.base == Reg.PT_MAP_ACT 0 || r.base == Reg.EPH_ACTIVE 0 || r.base == Reg.ENG_STATUS 0 0
          || r.base == Reg.TL_STATUS 0
      | none => false)

/-- The image fields of a register set from a word; those that H keeps are left in a boot that H began. -/
def State.imageSet (s : State) (k : Nat) (v : Word) : State :=
  if imageDerived k then s
  else s.setReg k ((imageFields k).foldl (fun w f => if s.boot.hot && !f.restoredBy .h then w else f.put w (f.get v)) (s.reg k))

/-- One entry of a section (R581). -/
def State.imageEntry (s : State) (e : Bytes) : State :=
  let k := leAt e 0 4
  if (imageFields k).isEmpty then s.bump Reg.BOOT_IMG_SKIP Fld.BOOT_IMG_SKIP_COUNT
  else s.imageSet k (BitVec.ofNat 32 (leAt e 4 4))

/-- The entries of a body applied in order. -/
def State.imageEntries (s : State) : Nat → Bytes → State
  | 0, _ => s
  | n + 1, b => if b.length < 8 then s else State.imageEntries (s.imageEntry (b.take 8)) n (b.drop 8)

/-- The body of a verified section; nothing where an owner section failed. -/
def State.section (s : State) (typ : Nat) : Bytes :=
  if s.boot.ownerBad then [] else ((s.boot.secs.find? (fun e => e.1 == typ)).map Prod.snd).getD []

/-- A verified section's entries applied. -/
def State.applySection (s : State) (typ : Nat) : State :=
  let b := s.section typ
  s.imageEntries (b.length / 8) b

/-- Every image field at 0, before the first entry. -/
def State.imageZero (s : State) : State :=
  let ks := s.rf.map Prod.fst ++ (List.range 256).map Reg.EPH_SLOT ++ (List.range 34).map Reg.PT_MAP
  ks.foldl (fun t k => if (imageFields k).isEmpty then t else t.imageSet k 0) s

/-! The work of the stages (R583). -/

/-- FUSES: the fuse values loaded, a boot nonce drawn. -/
def State.fusesEnd (s : State) : State :=
  let f := s.boot.fuse
  let s := { s with boot := { s.boot with loaded := f } }
  let s := s.setFld Reg.PWR_STATUS Fld.PWR_STATUS_P48V_OK 1
  let s := s.setFld Reg.HDR_DIE_STEP Fld.HDR_DIE_STEP_STEP f.step
  let s := s.setFld Reg.CPH_STATUS Fld.CPH_STATUS_ROOT_BAD (if f.rootOk then 0 else 1)
  let s := (s.setFld Reg.CPH_FUSE_SVN Fld.CPH_FUSE_SVN_FW_SVN f.fwSvn).setFld Reg.CPH_FUSE_SVN Fld.CPH_FUSE_SVN_IMG_SVN f.imgSvn
  let s := s.setFld Reg.CPH_OWNER_KEYS Fld.CPH_OWNER_KEYS_PROGRAMMED ((f.owner.map (fun e => 2 ^ e.1)).sum)
  let s := s.setFld Reg.CPH_OWNER_KEYS Fld.CPH_OWNER_KEYS_REVOKED ((f.revoked.map (2 ^ ·)).sum)
  let s := f.cols.foldl (fun t e =>
    let k := Reg.SCR_COLS (e.1 / 24) (e.1 % 24)
    (t.setFld k Fld.SCR_COLS_FUSED e.2).setFld k Fld.SCR_COLS_IN_USE e.2) s
  s.drawNonce

/-- The licence in force (R36, R37, R40): Base and what is granted. -/
def State.licence (s : State) (compute pair : Bool) : State :=
  let s := (s.setFld Reg.LIC_STATUS Fld.LIC_STATUS_COMPUTE (if compute then 1 else 0)).setFld
    Reg.LIC_STATUS Fld.LIC_STATUS_PAIR (if pair then 1 else 0)
  let en : Word := if compute then 0xFFFFFFFF else 0x11111111
  let s := (s.setReg Reg.LIC_ENGINE_LO en).setReg Reg.LIC_ENGINE_HI en
  (List.range 64).foldl (fun t e =>
    t.setFld (Reg.ENG_STATUS (e / 4) (e % 4)) Fld.ENG_STATUS_ENABLED (if compute || e % 4 == 0 then 1 else 0)) s

/-- The sections of a slot's image, in the order of its header, with their types. -/
def State.rawSections (s : State) (b : Bool) : List (Nat × Bytes) :=
  (imgEntries (s.flashBytes (slotBase b) 128)).map (fun e => (e.typ, s.flashBytes (slotBase b + e.off) e.len))

/-- The read of an image (R502, R503, R505): measured, verified, its licence applied; the error of the stage, if any. -/
def State.imageRead (s : State) (b : Bool) : State × Option Nat :=
  let raw := s.rawSections b
  let good := raw.filter (fun e => s.secGood e.1 e.2)
  let low := good.filter (fun e => s.svnLow e.1 e.2)
  let ok := good.filter (fun e => !s.svnLow e.1 e.2)
  let bits (l : List (Nat × Bytes)) : Nat := (l.map (fun e => 2 ^ (e.1 - 1))).sum
  let has (t : Nat) : Bool := ok.any (fun e => e.1 == t)
  let body (t : Nat) : Bytes := ((ok.find? (fun e => e.1 == t)).map (fun e => secBody e.2)).getD []
  let ownerOk := has 2 && has 3 && has 4 && has 6
  let fw := ((ok.find? (fun e => e.1 == 5)).map Prod.snd).getD []
  let svns := (raw.filter (fun e => e.1 != 1 && e.1 != 5)).map (fun e => leAt e.2 4 2)
  let s := s.setFld Reg.BOOT_STATUS Fld.BOOT_STATUS_SLOT (if b then 1 else 0)
  let s := s.setReg Reg.BOOT_IMAGE_SEQ (BitVec.ofNat 32 (leAt (s.flashBytes (slotBase b) 128) 8 4))
  let s := (s.setFld Reg.CPH_VERIFY Fld.CPH_VERIFY_SECTION_OK (bits ok)).setFld Reg.CPH_VERIFY Fld.CPH_VERIFY_SVN_LOW (bits low)
  let grants := leAt (body 1) 32 4
  let s := s.licence (has 1 && grants.testBit 0) (has 1 && grants.testBit 1)
  let s := if has 1 then s
    else (s.setFld Reg.LIC_STATUS Fld.LIC_STATUS_LIC_REJECTED 1).alarm 2 Unit.boot 2 0 0
  let s := { s with
    boot := { s.boot with
      secs := (if has 5 then [(5, fw)] else []) ++ (if ownerOk then [2, 3, 4, 6].map (fun t => (t, body t)) else [])
      ownerBad := !ownerOk }
    cph := { s.cph with
      mImage := Config.shake ((raw.map Prod.snd).flatten) 64
      mFirmware := Config.shake fw 64
      svnFw := leAt fw 4 2
      svnImg := (svns.min?).getD 0 } }
  (s, if has 5 then none else some 2)

/-- What a flash command does (R590): 1 READ, 2 PROGRAM, 3 ERASE. -/
def State.flashRun (s : State) (cmd addr : Nat) : State :=
  match cmd with
  | 1 =>
    let b := s.flashBytes (addr / 256 * 256) 256
    (List.range 64).foldl (fun t w => t.setReg (Reg.FLASH_BUF w) (BitVec.ofNat 32 (leAt b (4 * w) 4))) s
  | 2 =>
    let a := addr / 256 * 256
    let d := s.regBytes Reg.FLASH_BUF 64
    { s with boot := { s.boot with flash := d.zipIdx.foldl (fun t e =>
      Tab.set (fun _ => (0xFF : Byte)) t (a + e.2) (Tab.get (fun _ => (0xFF : Byte)) t (a + e.2) &&& e.1)) s.boot.flash } }
  | _ => { s with boot := { s.boot with flash := Tab.drop (fun a => a / 65536 == addr / 65536) s.boot.flash } }

/-- A flash command held during IMAGE carried out. -/
def State.flashHeld (s : State) : State :=
  match s.boot.held with
  | some (cmd, addr) => ({ s with boot := { s.boot with held := none } }).flashRun cmd addr
  | none => s

/-- IMAGE. -/
def State.imageEnd (s : State) : State × Option Nat :=
  let (s, err) := match s.imageSlot with
    | some b => s.imageRead b
    | none => (({ s with boot := { s.boot with ownerBad := true } }).licence false false, some 1)
  (s.flashHeld, err)

/-- CLOCKS begins: every image field at 0, then section 4 (R581, R40, R106, R411). -/
def State.clocksStart (s : State) : State :=
  let s := s.imageZero.applySection 4
  let s := if s.flag Reg.LIC_STATUS Fld.LIC_STATUS_PAIR then s else s.setFld Reg.PAIR_STATUS Fld.PAIR_STATUS_PAIR_MODE 0
  let s := if s.boot.hot then s
    else s.setFld Reg.MF_STATUS Fld.MF_STATUS_SPARES_EXHAUSTED (if s.freeSpare.isNone then 1 else 0)
  { s with eth := { s.eth with mode := s.fld Reg.ETH_CTRL Fld.ETH_CTRL_MODE } }

/-- The training of one channel (R585): one that fails is replaced by a free spare, or stays failed. -/
def State.trainChannel (s : State) (ch : Nat) : State × Bool :=
  let n := s.draws
  let s := { s with draws := n + 1 }
  if Config.trains n ch then (s, true)
  else
    match s.freeSpare with
    | some i =>
      let s := (s.setFld (Reg.MF_SPARE_MAP i) Fld.MF_SPARE_MAP_REPLACED ch).setFld (Reg.MF_SPARE_MAP i) Fld.MF_SPARE_MAP_VALID 1
      let s := s.alarmFree 1 (Unit.pkg (ch / 8)) 5 0
      if s.freeSpare.isNone then (s.setFld Reg.MF_STATUS Fld.MF_STATUS_SPARES_EXHAUSTED 1, true) else (s, true)
    | none => ({ s with fab := { s.fab with dead := s.fab.dead ++ [ch] } }, false)

/-- MEM_TRAIN: every channel that has an address and no substitute trains. -/
def State.trainEnd (s : State) : State × Option Nat :=
  let chs := (List.range 264).filter (fun ch => (s.spareFor ch).isNone)
  let r := chs.foldl (fun (a : State × Bool) ch => let (t, ok) := a.1.trainChannel ch; (t, a.2 && ok)) (s, true)
  (r.1, if r.2 then none else some 3)

/-- MAP_APPLY begins (R581, R64, R383, R128): sections 2 and 3, the Ephemeris in both copies, the map, scratch. -/
def State.mapApplyStart (s : State) : State :=
  let s :=
    if s.boot.ownerBad then s
    else
      let s := (s.applySection 2).applySection 3
      let s := s.ephCopy
      (s.setFld Reg.EPH_MODE_ACT Fld.EPH_MODE_ACT_SEALED (s.fld Reg.EPH_MODE Fld.EPH_MODE_SEALED)).mapStart
  let s := { s with tm := { s.tm with mapped := true } }
  let s := (List.range 16).foldl (fun t c => t.scrInitStart c) s
  (List.range 16).foldl (fun t p => t.ckRecount p) s

/-- A service core loaded from the verified copy and started (R563 steps 3 and 4). -/
def State.svLoad (s : State) (i : Nat) : State :=
  match s.boot.secs.find? (fun e => e.1 == 5) with
  | none => s
  | some (_, fw) =>
    let code := (Config.roleCode i fw).take (2 ^ 18)
    let e (n : Nat) : Nat := Config.roleEntry i fw n % 2 ^ 18
    let c : CoreSt := { coreDefault with
      pc := e 0 / 4 * 4, dsLow := BitVec.ofNat 64 (3 * 2 ^ 60 + e 1), dsHigh := BitVec.ofNat 64 (3 * 2 ^ 60 + e 2)
      rsBase := e 3 / 64 * 64, rsLimit := e 4 / 64 * 64, started := s.now }
    let s := { s with fw := { s.fw with
      local_ := sramStore (Tab.drop (fun k => k / 2 ^ 18 == i) s.fw.local_) (i * 2 ^ 18) code } }
    (s.setCore (32 + i) c).setFld (Reg.SV_STATUS i) Fld.SV_STATUS_STATE 0

/-- FW_START: the service cores started where the firmware verified. -/
def State.fwStartEnd (s : State) : State := (List.range 8).foldl State.svLoad s

/-- READY (R583, R588, R501, R603, R612). -/
def State.readyStage (s : State) : State :=
  let mode := s.fld Reg.BOOT_STATUS Fld.BOOT_STATUS_MODE
  let s := if mode == 2 || mode == 3 then s else s.setFld Reg.DMA_MODE Fld.DMA_MODE_STRICT 0
  let s := (s.setReg Reg.BOOT_READY_US (BitVec.ofNat 32 ((s.now - s.boot.began) / 2048))).genIdentity
  let s :=
    if s.pairMode then
      let imgPrim := s.fld Reg.PAIR_PRIMARY Fld.PAIR_PRIMARY_PARTS
      let mir := s.fld Reg.PAIR_MIRRORED Fld.PAIR_MIRRORED_PARTS
      ({ s with pair := { s.pair with imgPrim := imgPrim, holdFrom := some s.orbitN } }).setFld
        Reg.PAIR_PRIMARY Fld.PAIR_PRIMARY_PARTS (imgPrim &&& (65535 ^^^ mir))
    else s
  (s.setFld Reg.BOOT_STAGE Fld.BOOT_STAGE_BUSY 0).sledAlive true

/-- A stage begins; MAP_APPLY, which may draw a hash key, waits for a working DRBG (R497). -/
def State.startStage (s : State) (k : Nat) : State :=
  let s := (s.setFld Reg.BOOT_STAGE Fld.BOOT_STAGE_STAGE k).setFld Reg.BOOT_STAGE Fld.BOOT_STAGE_BUSY 1
  if k = 3 then s.clocksStart
  else if k = 5 then (if s.cph.drbgDown then s else s.mapApplyStart)
  else if k = 6 then (if s.stg.bay then s.mountBegin true else s)
  else if k = 8 then s.readyStage
  else s

/-- The end of a stage's work, with its error. -/
def State.stageWork (s : State) (k : Nat) : State × Option Nat :=
  if k = 1 then (s.fusesEnd, none)
  else if k = 2 then s.imageEnd
  else if k = 4 then s.trainEnd
  else if k = 6 then (s.fwStartEnd, none)
  else (s, none)

/-- A stage ended with an error (R587, R588): a normal boot enters recovery. -/
def State.stageFail (s : State) (err : Nat) : State :=
  let s := (s.setFld Reg.BOOT_STAGE Fld.BOOT_STAGE_FAILED 1).setFld Reg.BOOT_STATUS Fld.BOOT_STATUS_ERROR err
  let s := s.setFld Reg.BOOT_STATUS Fld.BOOT_STATUS_ERR_STAGE (s.fld Reg.BOOT_STAGE Fld.BOOT_STAGE_STAGE)
  if s.fld Reg.BOOT_STATUS Fld.BOOT_STATUS_MODE == 0 then
    ({ s with boot := { s.boot with script := none, delay := none } }).setFld Reg.BOOT_STATUS Fld.BOOT_STATUS_MODE 3
  else s

/-! Register writes of the bring-up block. -/

/-- A write of BOOT_STAGE.NEXT (R587). -/
def State.stageNext (s : State) (v : Word) : State :=
  let n := v.toNat / 16 % 16
  if s.boot.strap && !s.flag Reg.BOOT_STAGE Fld.BOOT_STAGE_BUSY && n == s.fld Reg.BOOT_STAGE Fld.BOOT_STAGE_STAGE + 1 && decide (n ≤ 8) then
    s.startStage n
  else s.setFld Reg.BOOT_STATUS Fld.BOOT_STATUS_NEXT_DROPPED 1

/-- A write of BOOT_CTRL (R584, R588). -/
def State.bootCtrl (s : State) (src : Src) (v : Word) : State :=
  let test := v.getLsbD 1 && s.boot.strap && !s.ready
  let s := s.journal src Reg.BOOT_CTRL 0 v (!v.getLsbD 0 && !test) s.orbitN
  let s := if test then s.setFld Reg.BOOT_STATUS Fld.BOOT_STATUS_MODE 2 else s
  if v.getLsbD 0 then s.classH else s

/-- A write of FLASH_CMD (R590). -/
def State.flashCmd (s : State) (src : Src) (v : Word) : State :=
  let cmd := v.toNat % 4
  let addr := s.fld Reg.FLASH_ADDR Fld.FLASH_ADDR_ADDR
  let busy := s.flag Reg.FLASH_STATUS Fld.FLASH_STATUS_BUSY
  let denied := decide (2 ≤ cmd) && (decide (addr < 0x100000) || decide (0x03F00000 ≤ addr))
  let s := s.journal src Reg.FLASH_CMD 0 v (cmd == 0 || busy || denied) s.orbitN
  if cmd = 0 then s
  else if busy then s.setFld Reg.FLASH_STATUS Fld.FLASH_STATUS_DROPPED 1
  else if denied then s.setFld Reg.FLASH_STATUS Fld.FLASH_STATUS_DENIED 1
  else
    let s := s.setFld Reg.FLASH_STATUS Fld.FLASH_STATUS_BUSY 1
    if s.fld Reg.BOOT_STAGE Fld.BOOT_STAGE_STAGE == 2 && s.flag Reg.BOOT_STAGE Fld.BOOT_STAGE_BUSY then
      { s with boot := { s.boot with held := some (cmd, addr) } }
    else s.flashRun cmd addr

/-- FLASH_CMD_DONE. -/
def State.flashDone (s : State) : State :=
  if s.boot.held.isSome then s else s.setFld Reg.FLASH_STATUS Fld.FLASH_STATUS_BUSY 0

/-- Whether fuses may be programmed (R589). -/
def State.fuseOpen (s : State) : Bool :=
  s.boot.strap && s.fld Reg.BOOT_STAGE Fld.BOOT_STAGE_STAGE == 1 && !s.flag Reg.BOOT_STAGE Fld.BOOT_STAGE_BUSY
    && !s.flag Reg.FUSE_PROG_STATUS Fld.FUSE_PROG_STATUS_BUSY

/-- The fuses after the programming of a field; none where it is rejected. -/
def State.fuseField (s : State) (f : Nat) : Option FuseSt :=
  let x := s.boot.fuse
  if f = 1 then (if x.fwSvn < 64 then some { x with fwSvn := x.fwSvn + 1 } else none)
  else if f = 2 then (if x.imgSvn < 64 then some { x with imgSvn := x.imgSvn + 1 } else none)
  else if 3 ≤ f ∧ f ≤ 6 then
    if x.owner.any (fun e => e.1 == f - 3) then none
    else some { x with owner := x.owner ++ [(f - 3, s.regBytes Reg.FUSE_PROG_DATA 8)] }
  else if 7 ≤ f ∧ f ≤ 10 then
    some { x with revoked := if x.revoked.contains (f - 7) then x.revoked else x.revoked ++ [f - 7] }
  else none

/-- A write of FUSE_PROG_CTRL (R589). -/
def State.fuseCtrl (s : State) (src : Src) (v : Word) : State :=
  let go := v.getLsbD 31
  match (if go && s.fuseOpen then s.fuseField (v.toNat % 16) else none) with
  | some x =>
    (({ s with boot := { s.boot with fuse := x } }).setFld Reg.FUSE_PROG_STATUS Fld.FUSE_PROG_STATUS_BUSY 1).journal
      src Reg.FUSE_PROG_CTRL 0 v false s.orbitN
  | none =>
    let s := s.journal src Reg.FUSE_PROG_CTRL 0 v true s.orbitN
    if go then s.setFld Reg.FUSE_PROG_STATUS Fld.FUSE_PROG_STATUS_REJECTED 1 else s

/-! The commands. -/

/-- PERST_EDGE (R584): a high-to-low edge. -/
def execPerstEdge (s : State) : Host.Outcome State Fault Refusal :=
  s.answer (if s.host.perst then s else ({ s with host := { s.host with perst := true } }).classH)

/-- PERST_DEASSERT (R584, R369). -/
def execPerstDeassert (s : State) : Host.Outcome State Fault Refusal :=
  s.answer (if s.host.perst then
    { s with host := { s.host with perst := false, wake := false }, out := s.out ++ (if s.host.wake then [.pin 0 false] else []) }
    else s)

/-- HOT_RESET (R370, R584). -/
def execHotReset (s : State) : Host.Outcome State Fault Refusal := s.answer s.classH

/-- PCIE_LINK_TRAINED (R584): possible once PERST# is deasserted and CLOCKS has ended. -/
def execPcieLinkTrained (speed : Fin 7) (width : Fin 17) (flit : Bool) (s : State) : Host.Outcome State Fault Refusal :=
  let st := s.fld Reg.BOOT_STAGE Fld.BOOT_STAGE_STAGE
  s.answer (if s.pwr.on && !s.pwr.seq && !s.host.perst && (decide (3 < st) || (st == 3 && !s.flag Reg.BOOT_STAGE Fld.BOOT_STAGE_BUSY)) then
    let s := (s.setFld Reg.EP_STATUS Fld.EP_STATUS_SPEED speed).setFld Reg.EP_STATUS Fld.EP_STATUS_WIDTH width
    let s := s.setFld Reg.EP_STATUS Fld.EP_STATUS_FLIT (if flit then 1 else 0)
    s.setFld Reg.EP_STATUS Fld.EP_STATUS_TAG14 (if s.tag14 then 1 else 0)
    else s)

/-- BOOT_REBOOT (R584): a write of BOOT_CTRL. -/
def execBootReboot (src : Src) (v : Word) (s : State) : Host.Outcome State Fault Refusal :=
  s.answer (s.hostGate src Reg.BOOT_CTRL v (fun s => s.bootCtrl src v))

/-- BOOT_TEST (R588): a write of BOOT_CTRL. -/
def execBootTest (src : Src) (v : Word) (s : State) : Host.Outcome State Fault Refusal :=
  s.answer (s.hostGate src Reg.BOOT_CTRL v (fun s => s.bootCtrl src v))

/-- BOOT_STAGE_NEXT (R587). -/
def execBootStageNext (src : Src) (v : Word) (s : State) : Host.Outcome State Fault Refusal :=
  s.answer (s.hostGate src Reg.BOOT_STAGE v (fun s => s.stageNext v))

/-- FUSE_ADVANCE_FW_SVN (R589): a write of FUSE_PROG_CTRL. -/
def execFuseAdvanceFwSvn (src : Src) (v : Word) (s : State) : Host.Outcome State Fault Refusal :=
  s.answer (s.hostGate src Reg.FUSE_PROG_CTRL v (fun s => s.fuseCtrl src v))

/-- FUSE_ADVANCE_IMG_SVN (R589): a write of FUSE_PROG_CTRL. -/
def execFuseAdvanceImgSvn (src : Src) (v : Word) (s : State) : Host.Outcome State Fault Refusal :=
  s.answer (s.hostGate src Reg.FUSE_PROG_CTRL v (fun s => s.fuseCtrl src v))

/-- FUSE_PROGRAM_OWNER (R589): a write of FUSE_PROG_CTRL. -/
def execFuseProgramOwner (src : Src) (v : Word) (s : State) : Host.Outcome State Fault Refusal :=
  s.answer (s.hostGate src Reg.FUSE_PROG_CTRL v (fun s => s.fuseCtrl src v))

/-- FUSE_REVOKE_OWNER (R589): a write of FUSE_PROG_CTRL. -/
def execFuseRevokeOwner (src : Src) (v : Word) (s : State) : Host.Outcome State Fault Refusal :=
  s.answer (s.hostGate src Reg.FUSE_PROG_CTRL v (fun s => s.fuseCtrl src v))

/-- FUSE_PROG_DONE (R589). -/
def execFuseProgDone (s : State) : Host.Outcome State Fault Refusal :=
  s.answer (s.setFld Reg.FUSE_PROG_STATUS Fld.FUSE_PROG_STATUS_BUSY 0)

/-- FLASH_READ (R590): a write of FLASH_CMD. -/
def execFlashRead (src : Src) (v : Word) (s : State) : Host.Outcome State Fault Refusal :=
  s.answer (s.hostGate src Reg.FLASH_CMD v (fun s => s.flashCmd src v))

/-- FLASH_PROGRAM (R590): a write of FLASH_CMD. -/
def execFlashProgram (src : Src) (v : Word) (s : State) : Host.Outcome State Fault Refusal :=
  s.answer (s.hostGate src Reg.FLASH_CMD v (fun s => s.flashCmd src v))

/-- FLASH_ERASE (R590): a write of FLASH_CMD. -/
def execFlashErase (src : Src) (v : Word) (s : State) : Host.Outcome State Fault Refusal :=
  s.answer (s.hostGate src Reg.FLASH_CMD v (fun s => s.flashCmd src v))

/-- FLASH_CMD_DONE (R590). -/
def execFlashCmdDone (s : State) : Host.Outcome State Fault Refusal := s.answer s.flashDone

end Machine

end Sys2Proof
end

