-- ==== Sys2Proof/Machine/Power.lean ====
section
/-! DEFINITION. The Eclipse reset, the power-loss sequence, thermal events and the return of power (chapter Bring-up,
Resets and Power States). -/

namespace Sys2Proof.Machine

/-! Power (R595, R32, R35, R368). -/

/-- Whether the die is powered and not losing power. -/
def State.live (s : State) : Bool := s.pwr.on && !s.pwr.seq

/-- The die and its memory powered off; the fields on P3V3_AUX are kept. -/
def State.dieOff (s : State) : State :=
  let wake := s.reg Reg.EP_WAKE_EN
  let ok := s.fld Reg.PWR_STATUS Fld.PWR_STATUS_P48V_OK
  let l23 := s.host.l23
  let safe := s.panel.safe
  let s := (s.classReset .p).setReg Reg.EP_WAKE_EN wake
  let s := { s with
    host := { s.host with l23 := l23 }, pwr := { s.pwr with on := false, seq := false }, panel := { s.panel with safe := safe } }
  s.setFld Reg.PWR_STATUS Fld.PWR_STATUS_P48V_OK ok

/-- What the power-loss sequence does before power goes: the sled is silent, work stops without completion, the storage
buffer reaches the cartridge, which is shut down (R595, R522). -/
def State.lossRun (s : State) : State :=
  let s := s.sledAlive false
  let s := (List.range 9).foldl (fun t n => if t.portState n == 0 then t else t.portDown n) s
  let s := s.setFld Reg.ETH_STATUS Fld.ETH_STATUS_LINK_UP 0
  let s := { s with
    eng := [], cores := Tab.drop (fun x => decide (x < 32)) s.cores, dma := [], ecl := State.reset.ecl
    host := { s.host with outq := [], rxq := [], linkIn := [], reads := [], tags := [] } }
  let s := (s.setFld Reg.ECL_STATUS Fld.ECL_STATUS_ACTIVE 0).srmtClear
  let s := (List.range 32).foldl (fun t x => t.setFld (Reg.PX_STATE (pxc x) (pxi x)) Fld.PX_STATE_STATE 0) s
  let mounted := s.cartState == 2 || s.cartState == 3
  let s := s.stgDrain
  let s := { s with stg := { s.stg with cmds := [], cart := [] } }
  if mounted then
    ({ s with
      out := s.out ++ [Out.cart s.stg.nextId .shutdown]
      stg := { s.stg with nextId := s.stg.nextId + 1 } }).setCart 4
  else s

/-- The sequence ends (R595): power is removed; where P48V has returned meanwhile a P starts. -/
def State.lossEnd (s : State) : State :=
  let s := (s.lossRun).setFld Reg.PWR_STATUS Fld.PWR_STATUS_LOSS_SEEN 1
  let s := s.dieOff
  if s.flag Reg.PWR_STATUS Fld.PWR_STATUS_P48V_OK && !s.pwr.stayOff then
    ({ s with pwr := { s.pwr with on := true } }).classReset .p
  else s

/-- The sequence starts; before MEM_TRAIN there is nothing to flush and power goes at once. -/
def State.lossStart (s : State) : State :=
  let s := { s with pwr := { s.pwr with seq := true } }
  if s.fld Reg.BOOT_STAGE Fld.BOOT_STAGE_STAGE < 4 then s.lossEnd else s

/-- P48V_LOW (R32, R368): after PME_TO_Ack the sled is in D3cold; a sled that stays off is released by the removal. -/
def State.p48vLow (s : State) : State :=
  let s := s.setFld Reg.PWR_STATUS Fld.PWR_STATUS_P48V_OK 0
  if !s.pwr.on then { s with pwr := { s.pwr with stayOff := false } }
  else if s.pwr.seq then s
  else if s.host.l23 then s.dieOff
  else s.lossStart

/-- POWER_ON (R584, R595): class K from D3cold, else P; noted during the sequence; nothing while the sled stays off. -/
def State.powerOn (s : State) : State :=
  if s.pwr.seq then s.setFld Reg.PWR_STATUS Fld.PWR_STATUS_P48V_OK 1
  else if s.pwr.on || s.pwr.stayOff then s
  else ({ s with pwr := { s.pwr with on := true } }).classReset (if s.host.l23 then .k else .p)

/-- THERMAL_ALARM (R35). -/
def State.thermAlarm (s : State) : State :=
  if !s.live then s
  else
    let s := (s.setFld Reg.PWR_TEMP Fld.PWR_TEMP_DEG_C 100).setFld Reg.PWR_STATUS Fld.PWR_STATUS_THERM_ALARM 1
    s.alarm 0 Unit.boot 0 0 0

/-- THERMAL_TRIP (R35, R595). -/
def State.thermTrip (s : State) : State :=
  if !s.live then s
  else
    let s := (s.setFld Reg.PWR_TEMP Fld.PWR_TEMP_DEG_C 110).setFld Reg.PWR_STATUS Fld.PWR_STATUS_THERM_ALARM 1
    let s := s.setFld Reg.PWR_STATUS Fld.PWR_STATUS_THERM_TRIP 1
    ({ s with pwr := { s.pwr with stayOff := true } }).lossStart

/-! The Eclipse reset (R591–R594). -/

/-- A write of ECL_CTRL (R591). -/
def State.eclGo (s : State) (src : Src) (v : Word) : State :=
  let active := s.flag Reg.ECL_STATUS Fld.ECL_STATUS_ACTIVE
  let due := s.markDue
  if !v.getLsbD 0 then s.journal src Reg.ECL_CTRL 0 v true s.orbitN
  else if active then
    (s.setFld Reg.ECL_STATUS Fld.ECL_STATUS_DROPPED 1).journal src Reg.ECL_CTRL 0 v true s.orbitN
  else
    ({ s with ecl := { s.ecl with due := some (s.ecl.due.getD due) } }).journal src Reg.ECL_CTRL 0 v false (s.ecl.due.getD due)

/-- A DMA engine at the entry: what it has fetched is discarded, and a descriptor in progress is to run again (R484). -/
def State.dmaEclipse (s : State) (e : Nat) : State :=
  let s := match (s.dmaEng e).run with
    | some r => s.dmaSquash e r.ch
    | none => s
  s.setDma e { s.dmaEng e with run := none, batch := none }

/-- The entry of an Eclipse (R592): work stops without completion, the registers of class E are restored; a global stop
ends (R641). -/
def State.eclEnter (s : State) : State :=
  let s := { s with ecl := ⟨none, s.orbitN, 1⟩ }
  let s := (List.range 16).foldl (fun t p => t.recEnd p 1) s
  let s := (s.srInterrupt (fun _ => true)).ckEclipse
  let s := (List.range 64).foldl State.engDiscard s
  let s := (List.range 32).foldl State.coreEclipse s
  let s := (List.range 16).foldl State.dmaEclipse s
  let s := (s.cphClear).shpEmpty (fun _ => true)
  let s := s.restore .e (fun _ => true)
  let s := { s with
    trw := []
    fab := { s.fab with track := [] }
    scr := { s.scr with handover := [], waiting := [], busyUntil := [], corrected := [], cpl := [] }
    dbg := { s.dbg with stopDue := none, dumping := false } }
  s.setFld Reg.ECL_STATUS Fld.ECL_STATUS_ACTIVE 1

/-- ECLIPSE_ENTRY (R592): a GO whose mark has come. -/
def State.eclEntry (s : State) : State :=
  match s.ecl.due with
  | some d => if s.live && decide (d ≤ s.orbitN) then s.eclEnter else s
  | none => s

/-- The exit (R592): scratch under initialisation, cores to restart, contexts FREE, the Cure resumed. -/
def State.eclLeave (s : State) : State :=
  let us := 8 * (s.orbitN - s.ecl.entry)
  let s := { s with ecl := ⟨s.ecl.due, 0, 0⟩ }
  let s := (s.setFld Reg.ECL_STATUS Fld.ECL_STATUS_ACTIVE 0).setFld Reg.ECL_STATUS Fld.ECL_STATUS_DONE 1
  let s := (s.bump Reg.ECL_COUNT Fld.ECL_COUNT_COUNT).setFld Reg.ECL_LAST_US Fld.ECL_LAST_US_US us
  let halted := (List.range 32).filter (fun x => s.pxState x == 4)
  let s := { s with pt := { s.pt with eclHalted := halted } }
  ((List.range 16).foldl State.scrInitStart s).srmtEclipse.ckAll

/-- ECLIPSE_EXIT (R592): at a mark after the retune. -/
def State.eclExit (s : State) : State :=
  if s.live && s.ecl.phase == 3 && s.tm.cycle == 0 then s.eclLeave else s

/-- SCRATCH_INIT_DONE (R128, R263): after an Eclipse the cluster's cores start anew, but those of a frozen partition (R403). -/
def State.scrInitEnd (s : State) (c : Nat) : State :=
  let was := s.scr.initBusy.contains c
  let s := s.scrInitDone c
  if was && s.ownerThawed (s.clOwner c) then
    let mine := s.pt.eclHalted.filter (fun x => x / 2 == c)
    mine.foldl State.coreAutoStart { s with pt := { s.pt with eclHalted := s.pt.eclHalted.filter (fun x => x / 2 != c) } }
  else s

/-! The commands. -/

/-- SCRATCH_INIT_DONE (R128). -/
def execScratchInitDone (c : Fin 16) (s : State) : Host.Outcome State Fault Refusal :=
  s.answer (s.unitAct (fun s => s.scrInitEnd c))

/-- POWER_ON (R584). -/
def execPowerOn (s : State) : Host.Outcome State Fault Refusal := s.answerPower s.powerOn

/-- ECL_GO (R591). -/
def execEclGo (src : Src) (v : Word) (s : State) : Host.Outcome State Fault Refusal :=
  s.answer (s.hostGate src Reg.ECL_CTRL v (fun s => s.eclGo src v))

/-- ECLIPSE_ENTRY (R592). -/
def execEclipseEntry (s : State) : Host.Outcome State Fault Refusal := s.answer s.eclEntry

/-- ECLIPSE_RESET_RELEASE (R592): 1 ms after the entry. -/
def execEclipseResetRelease (s : State) : Host.Outcome State Fault Refusal :=
  s.answer (if s.ecl.phase == 1 && decide (s.ecl.entry + 125 ≤ s.orbitN) then { s with ecl := { s.ecl with phase := 2 } } else s)

/-- ECLIPSE_RETUNE_DONE (R592). -/
def execEclipseRetuneDone (s : State) : Host.Outcome State Fault Refusal :=
  s.answer (if s.ecl.phase == 2 then { s with ecl := { s.ecl with phase := 3 } } else s)

/-- ECLIPSE_EXIT (R592). -/
def execEclipseExit (s : State) : Host.Outcome State Fault Refusal := s.answer s.eclExit

/-- P48V_LOW (R32). -/
def execP48vLow (s : State) : Host.Outcome State Fault Refusal := s.answerPower s.p48vLow

/-- POWER_LOSS_SEQUENCE (R595). -/
def execPowerLossSequence (s : State) : Host.Outcome State Fault Refusal := s.answer (if s.pwr.seq then s.lossRun else s)

/-- POWER_OFF (R595). -/
def execPowerOff (s : State) : Host.Outcome State Fault Refusal := s.answerPower (if s.pwr.seq then s.lossEnd else s)

/-- THERMAL_ALARM (R35). -/
def execThermalAlarm (s : State) : Host.Outcome State Fault Refusal := s.answer s.thermAlarm

/-- THERMAL_TRIP (R35). -/
def execThermalTrip (s : State) : Host.Outcome State Fault Refusal := s.answerPower s.thermTrip

/-- P3V3_AUX_LOSS (R595): what P3V3_AUX holds is lost, the sideband's dynamic address with it. -/
def execP3v3AuxLoss (s : State) : Host.Outcome State Fault Refusal :=
  let t := (s.setFld Reg.PWR_STATUS Fld.PWR_STATUS_LOSS_SEEN 0).setFld Reg.PWR_STATUS Fld.PWR_STATUS_THERM_TRIP 0
  s.answer (({ t with i3c := ⟨none, none⟩ }).setFld Reg.EP_WAKE_CAUSE Fld.EP_WAKE_CAUSE_CAUSES 0)

end Sys2Proof.Machine
end

