-- ==== Sys2Proof/Machine/Debug.lean ====
section
/-! DEFINITION. Telemetry and debug (chapter Telemetry, Debug and Replay): the export of samples, device time, the Tail
rings, the global stop and its dump, decryption of capture blocks, input recording, and replay. -/

namespace Sys2Proof.Machine

/-! Units and their registers (R614). -/

/-- The unit whose block a register stands in. Where R614 names no unit for a block, the nearest one is taken: 0x125 for
the orbit, fabric and telemetry blocks, 0x123 for the Hawk mailboxes and the virtual functions. -/
def unitOfKey (k : Nat) : Nat :=
  if 0x04000000 ≤ k then Unit.host
  else if k < 0x00100000 then Unit.host
  else if 0x00100200 ≤ k ∧ k < 0x00100240 then Unit.shaper
  else if k < 0x00400000 then Unit.policy
  else if 0x00401000 ≤ k ∧ k < 0x00401800 then Unit.pkg ((k - 0x00401000) / 32)
  else if 0x00401800 ≤ k ∧ k < 0x00402000 then Unit.pkg ((k - 0x00401800) / 32)
  else if k < 0x00800000 then Unit.policy
  else if k < 0x01000000 then Unit.scratch ((k - 0x00800000) / 4096)
  else if k < 0x02000000 then
    let c := (k - 0x01000000) / 0x80000
    let o := (k - 0x01000000) % 0x80000
    if o < 0x48000 then Unit.me (4 * c + (o - 0x40000) / 4096)
    else if o < 0x49000 then Unit.trowel (4 * c)
    else if o < 0x60000 then Unit.trowel (4 * c + (o - 0x49000) / 256)
    else Unit.px (2 * c + (o - 0x60000) / 4096)
  else if 0x02001000 ≤ k ∧ k < 0x02001100 then Unit.eth ((k - 0x02001000) / 32)
  else if k < 0x02800000 then Unit.shaper
  else if k < 0x03000000 then Unit.srmt
  else if k < 0x03009000 then Unit.port ((k - 0x03000000) / 4096)
  else if k < 0x03400000 then Unit.port 8
  else if k < 0x034F0000 then Unit.dma ((k - 0x03400000) / 4096)
  else if k < 0x03800000 then Unit.policy
  else if k < 0x03A00000 then Unit.cipher
  else if k < 0x03C00000 then Unit.storage
  else if k < 0x03D00000 then Unit.ckpt
  else if k < 0x03E00000 then Unit.policy
  else if k < 0x03E02000 then Unit.sv (k / 256 % 8)
  else if k < 0x03F00000 then Unit.host
  else if k < 0x03F04000 then Unit.boot
  else Unit.panel

/-- Every unit of R614, in order. -/
def allUnits : List Nat :=
  List.range 0xC3 ++ (List.range 9).map (0xD0 + ·) ++ (List.range 10).map (0xE0 + ·) ++ (List.range 32).map (0xF0 + ·)
    ++ (List.range 8).map (0x110 + ·) ++ (List.range 7).map (0x120 + ·)

/-- The offsets of a register's instances. -/
def dimOffsets : List (Nat × Nat) → List Nat
  | [] => [0]
  | (n, st) :: ds => (List.range n).flatMap (fun i => (dimOffsets ds).map (fun o => i * st + o))

/-- The keys of a register's instances. -/
def RegRow.keys (r : RegRow) : List Nat := (dimOffsets r.dims).map (r.base + ·)

/-- Every register table. -/
def allRows : List RegRow :=
  rowsHdr ++ rowsOrb ++ rowsPt ++ rowsMf ++ rowsScr ++ rowsCl ++ rowsEth ++ rowsSrmt ++ rowsTl ++ rowsDma ++ rowsCph ++ rowsStg
    ++ rowsCk ++ rowsDbg ++ rowsFw ++ rowsBoot ++ rowsVf

/-- The registers of a unit, in offset order. -/
def unitKeys (u : Nat) : List Nat :=
  (allRows.flatMap (fun r => r.keys.filter (fun k => unitOfKey k == u))).mergeSort (fun a b => decide (a ≤ b))

/-! The orbit sample's export (R615–R618). -/

/-- `n` registers from a base, by a stride. -/
def keyRun (n base stride : Nat) : List Nat := (List.range n).map (fun i => base + i * stride)

/-- The counters, depths and delays of a unit, in its tables' order. Where R614 names no unit for a counter it is exported
with the unit of `unitOfKey`. -/
def unitCounters (u : Nat) : List Nat :=
  if u < 0x40 then keyRun 9 (Reg.ENG_CNT_CMDS (u / 4) (u % 4)) 4
  else if u < 0x80 then keyRun 5 (Reg.TRW_CNT_LINES ((u - 0x40) / 4) (u % 4)) 4
  else if u < 0xA0 then keyRun 7 (Reg.PX_CNT_BUNDLES ((u - 0x80) / 2) (u % 2)) 4
  else if u < 0xC3 then keyRun 8 (Reg.MF_CH_CE (8 * (u - 0xA0))) 4
  else if u < 0xD9 then keyRun 9 (Reg.TL_CNT_CRC (u - 0xD0)) 4 ++ (if u = 0xD8 then keyRun 16 (Reg.PAIR_CNT_STALL 0) 16 else [])
  else if u < 0xE8 then keyRun 7 (Reg.ETH_RX_FRAMES (u - 0xE0)) 4
  else if u = Unit.shaper then
    keyRun 16 (Reg.EGR_OVERSIZE_DROP 0) 4 ++ [Reg.ETH_RX_DROP_SLOW_DEV]
      ++ (List.range 16).flatMap (fun p => keyRun 4 (Reg.ETH_RX_DROP_FULL p) 4 ++ keyRun 2 (Reg.ETH_RX_OCC p) 4)
      ++ (List.range 2048).map Reg.ETH_RULE_HITS ++ (List.range 512).flatMap (fun q => keyRun 2 (Reg.ETH_EQ_DEPTH q) 4)
  else if u = Unit.srmt then (List.range 16).flatMap (fun p => keyRun 11 (Reg.SRMT_CNT_BAD_PKT p) 4)
  else if u < 0x100 then keyRun 5 (Reg.DMA_CNT_DESC (u - 0xF0)) 4
  else if u < 0x110 then keyRun 4 (Reg.SCR_CE (u - 0x100)) 4 ++ keyRun 24 (Reg.SCR_CONFLICT (u - 0x100) 0) 4
  else if u < 0x118 then [Reg.SV_RESTARTS (u - 0x110)]
  else if u = Unit.cipher then (List.range 16).flatMap (fun p => keyRun 6 (Reg.CPH_CNT_BYTES p) 4)
  else if u = Unit.storage then (List.range 16).flatMap (fun p => keyRun 3 (Reg.STG_CNT_CMDS p) 4)
  else if u = Unit.ckpt then (List.range 16).flatMap (fun p => keyRun 6 (Reg.CK_CNT_CUTS p) 4)
  else if u = Unit.host then
    keyRun 4 Reg.EP_CNT_UR 4 ++ [Reg.HAWK_EVT_LOST]
      ++ (List.range 64).flatMap (fun v => Reg.VF_HAWK_EVT_LOST v :: keyRun 3 (Reg.VF_CNT_UR v) 4)
  else if u = Unit.boot then [Reg.ECL_COUNT, Reg.ECL_WR_DROP]
  else if u = Unit.policy then
    Reg.PT_JRNL_LOST :: (List.range 64).map Reg.PT_FLR_STAT ++ [Reg.MF_FABRIC_ERR]
      ++ (List.range 16).flatMap (fun p => keyRun 3 (Reg.MF_PART_CE p) 4) ++ keyRun 5 (Reg.DBG_DROP 0) 4
      ++ (List.range 16).map Reg.DBG_CAP_DROP
  else [Reg.AGE_PERIODS]

/-- The sample of an orbit mark (R615, R616): every counter as the ending orbit leaves it; `s` is the state at the end of
its last cycle. -/
def State.takeSample (s : State) : State :=
  let t := s.eng.foldl (fun t e => t.engLive e.1) s
  let t := (List.range 32).foldl (fun t x => t.coreLive x) t
  { s with dbg := { s.dbg with sample := t.rf } }

/-- Whether a counter restarted in cycle 0 of this orbit (R616): an engine began a command there. -/
def State.restartedAt0 (s : State) (u i : Nat) : Bool :=
  u < 0x40 && i == 8 &&
    (match (Tab.get (fun _ => (default : EngSt)) s.eng u).run with
    | some r => r.start == s.orbitN * orbitCycles
    | none => false)

/-- A sample record of up to twelve counters from the `first` one (R618). -/
def State.sampleRecord (s : State) (u first : Nat) (keys : List Nat) : Bytes :=
  let bits := ((List.range keys.length).map (fun i => if s.restartedAt0 u (first + i) then 2 ^ i else 0)).sum
  padTo 56 (le 2 u ++ le 2 first ++ le 2 (bits + keys.length * 2 ^ 12) ++ zeros 2
    ++ (keys.map (fun k => le 4 (Tab.get regDefault s.dbg.sample k).toNat)).flatten)

/-- The records of one unit, twelve counters each. -/
def State.sampleUnit (s : State) (u : Nat) : Nat → Nat → List Nat → State
  | 0, _, _ => s
  | fuel + 1, first, keys =>
    if keys.isEmpty then s
    else
      State.sampleUnit (s.logWrite ⟨0, 4, 8, s.orbitN, s.sampleRecord u first (keys.take 12)⟩) u fuel (first + 12) (keys.drop 12)

/-- The samples of every unit written to the log by SV5 (R618). -/
def State.sampleExport (s : State) : State :=
  let every := s.fld Reg.DBG_SAMPLE_EVERY Fld.DBG_SAMPLE_EVERY_ORBITS
  if every = 0 || s.orbitN % every ≠ 0 || !s.coreRuns 37 then s
  else allUnits.foldl (fun t u => t.sampleUnit u 300 0 (unitCounters u)) s

/-! Device time (R619). -/

/-- A write of DBG_TIME_STEP: nanoseconds added to device time. -/
def State.timeStep (s : State) (v : Word) : State :=
  { s with tm := { s.tm with dev := s.tm.dev + v.toNat * (16384 * 10 ^ 9) } }

/-- The slew that a mark takes up: DBG_TIME_SLEW, held to 200,000 parts per 10^9. -/
def State.slewNow (s : State) : Int := max (-200000) (min 200000 (sext 32 (s.reg Reg.DBG_TIME_SLEW).toNat))

/-! Tail rings and the stop (R623, R637–R641). -/

/-- A write of DBG_CTRL: STOP_ON_ALARM stored, the rings resumed, a stop requested for the mark that R60 gives. -/
def State.dbgCtrl (s : State) (src : Src) (v : Word) : State :=
  let stop := Fld.DBG_CTRL_STOP_GO.get v == 1 && s.dbg.stopDue.isNone
  let s := s.journal src Reg.DBG_CTRL (s.reg Reg.DBG_CTRL) v false (if stop then s.markDue else s.orbitN)
  let s := s.setFld Reg.DBG_CTRL Fld.DBG_CTRL_STOP_ON_ALARM (Fld.DBG_CTRL_STOP_ON_ALARM.get v)
  let s := if Fld.DBG_CTRL_TAIL_RESUME.get v == 1 then s.setFld Reg.DBG_STATUS Fld.DBG_STATUS_TAIL_FROZEN 0 else s
  if stop then
    ({ s with dbg := { s.dbg with stopDue := some s.markDue } }).setFld Reg.DBG_STATUS Fld.DBG_STATUS_STOP_PENDING 1
  else s

/-- Whether a stop takes effect at a mark that begins orbit `o` (R637): at an Eclipse's exit mark at the earliest. -/
def State.stopAt (s : State) (o : Nat) : Bool :=
  (match s.dbg.stopDue with
  | some d => decide (d ≤ o)
  | none => false) && !s.flag Reg.ECL_STATUS Fld.ECL_STATUS_ACTIVE && s.pwr.on

/-- Waits of the matrix engines traced as open (R625, OUTCOME 3). -/
def State.openEngines (s : State) : State :=
  s.eng.foldl (fun t e =>
    match e.2.queue with
    | d :: _ =>
      if dWaitEn d && e.2.flushing == 0 then
        t.waitTrace (Unit.me e.1) 3 0 (4 * (e.1 / 4) + dwb d 11 0 2 + 2 ^ 6 * dwb d 11 2 4) (dw d 12)
          (s.reg (Reg.ENG_CC (e.1 / 4) (dwb d 11 0 2) (dwb d 11 2 4))).toNat e.2.headAt (s.clOwner (e.1 / 4))
      else t
    | [] => t) s

/-- Waits of cores traced as open. -/
def State.openCores (s : State) : State :=
  s.cores.foldl (fun t e =>
    match e.2.stall with
    | .wait w _ _ =>
      let (_, kind, target, value, seen) := s.waitCond e.1 w
      t.waitTrace (coreUnit e.1) 3 kind target value seen e.2.since (s.coreOwner e.1)
    | _ => t) s

/-- Waits of SRMT send queues traced as open. -/
def State.openQueues (s : State) : State :=
  s.srmt.sq.foldl (fun t e =>
    let v := e.1 / 64
    match e.2.since, s.vfPart v with
    | some start, some p =>
      match (s.sqFetch p v (e.1 % 64)) with
      | .got _ b => t.waitTrace Unit.srmt 3 3 (leAt b 40 2) (leAt b 44 4) (s.waitDone (leAt b 40 2)) start (some p)
      | _ => t
    | _, _ => t) s

/-- Waits of DMA engines traced as open: the descriptor at the head of the channel in service waits for a counter. -/
def State.openDmas (s : State) : State :=
  s.dma.foldl (fun t e =>
    match e.2.batch, e.2.run, s.dmaSpace e.1 with
    | some (k, _), none, some sp =>
      let (_, st, b) := s.readBytes sp (s.dmaRing e.1 k + 64 + 64 * s.dmaCons e.1 k) 64
      let d := wordsOf b
      let en := dwb d 10 0 6
      if st.good && dwb d 0 18 1 == 1 then
        t.waitTrace (Unit.dma e.1) 3 0 (en + 2 ^ 6 * dwb d 10 6 4) (dw d 11)
          (s.reg (Reg.ENG_CC (en / 4) (en % 4) (dwb d 10 6 4))).toNat e.2.since (s.dmaOwner e.1)
      else t
    | _, _, _ => t) s

/-- GLOBAL_STOP (R638, R639): every unit freezes, SLED_ALIVE goes low, the dump begins. -/
def State.globalStop (s : State) : State :=
  if !s.stopAt s.orbitN then s
  else
    let s := s.openEngines.openCores.openQueues.openDmas
    let s := { s with dbg := { s.dbg with stopDue := none, dumping := true } }
    let s := (s.setFld Reg.DBG_STATUS Fld.DBG_STATUS_STOP_PENDING 0).setFld Reg.DBG_STATUS Fld.DBG_STATUS_STOPPED 1
    (s.setReg64 Reg.DBG_STOP_ORBIT_LO Reg.DBG_STOP_ORBIT_HI s.orbitN).sledAlive false

/-- A register as a dump holds it: write-only fields, which hold keys and commands, are zero (R508, R640). -/
def State.dumpWord (s : State) (k : Nat) : Bytes :=
  le 4 ((fldsAt k).foldl (fun w f => if f.acc = .wo then f.put w 0 else w) (s.reg k)).toNat

/-- The queued entries of a unit in the formats of its chapter: descriptors and completion records of an engine, held
messages of a port, frames of the shapers, frames that an Ethernet port kept. -/
def State.dumpQueue (s : State) (u : Nat) : Bytes :=
  if u < 0x40 then
    let g := Tab.get (fun _ => (default : EngSt)) s.eng u
    ((g.queue ++ g.cpl).map (fun d => (d.map (fun w => le 4 w.toNat)).flatten)).flatten
  else if 0xD0 ≤ u ∧ u < 0xD9 then
    let l := (s.port (u - 0xD0)).rxq
    (l.map (fun m => le 8 s.orbitN ++ zeros 8 ++ hdrUnit m.1 ++ (if m.1.mtype.toNat == mMasked then le 16 m.2.1.toNat else [])
      ++ m.2.2)).flatten
  else if 0xE0 ≤ u ∧ u < 0xE8 then
    ((Tab.get (fun _ => []) s.dbg.capEth (u - 0xE0)).map (fun f => le 8 f.1 ++ le 4 f.2.length ++ f.2)).flatten
  else if u = Unit.shaper then (s.eth.q.map (fun q => q.2.flatten)).flatten
  else []

/-- A unit's section of the dump. -/
def State.dumpSection (s : State) (u : Nat) : Bytes :=
  let b := ((unitKeys u).map s.dumpWord).flatten ++ s.dumpQueue u
  le 2 u ++ zeros 2 ++ le 4 b.length ++ zeros 8 ++ b

/-- DUMP_DONE (R640): the sections of units without an owner to the service region, those of owned units to the owner's
stream 2. -/
def State.dumpDone (s : State) : State :=
  if !s.dbg.dumping then s
  else
    let dev := (allUnits.filter (fun u => (s.unitOwner u).isNone)).flatMap s.dumpSection
    let (t, _) := s.writeBytes .svc (s.reg64 Reg.DBG_DUMP_LO Reg.DBG_DUMP_HI) dev
    let t := allUnits.foldl (fun t u =>
      match s.unitOwner u with
      | some p => if s.flag (Reg.PT_DEBUG p) Fld.PT_DEBUG_TAIL_EXPORT then t.capPush p 2 (s.dumpSection u) else t
      | none => t) t
    ({ t with dbg := { t.dbg with dumping := false } }).setFld Reg.DBG_STATUS Fld.DBG_STATUS_DUMP_DONE 1

/-! Capture regions and blocks (R628, R629, R631). -/

/-- CAP_BAD of a partition's region, after a write of it. -/
def State.capCheck (s : State) (p : Nat) : State :=
  let (base, len) := s.capRegion p
  let bad := base % 65536 != 0 || decide (s.spaceSize (.part p) < base + len)
  s.setFld (Reg.DBG_CAP_STATUS p) Fld.DBG_CAP_STATUS_CAP_BAD (if bad then 1 else 0)

/-- The plain bytes of a capture block: the R94 code of a failed read, none where the tag fails. -/
def State.blockOpen (s : State) (p a : Nat) : State × (Option Bytes ⊕ Nat) :=
  match s.partRead p a 4096 with
  | (s, .inr code) => (s, .inr code)
  | (s, .inl b) =>
    let str := byteAt b 0 % 4
    match s.deriveKey p 4 str with
    | (s, none) => (s, .inl none)
    | (s, some key) =>
      let iv := le 8 (leAt b 24 8) ++ le 4 str
      match s.gcmOpen p Client.capture key iv (slice b 0 64) (slice b 64 4016) (slice b 4080 16) with
      | (s, 0, d) => (s, .inl (some d))
      | (s, _, _) => (s, .inl none)

/-- Blocks decrypted one after another; RESULT (R631). -/
def State.decryptBlocks (s : State) (p : Nat) : Nat → Nat → Nat → State × Nat
  | 0, _, _ => (s, 0)
  | n + 1, src, dst =>
    match s.blockOpen p src with
    | (s, .inr code) => (s, 0x10 + code)
    | (s, .inl none) => (s, 1)
    | (s, .inl (some d)) =>
      let (s, st) := s.writeBytes (.part p) dst d
      if st.good then State.decryptBlocks s p n (src + 4096) (dst + 4016) else (s, 0x10 + st.code)

/-- A write of DBG_DEC_CTRL. -/
def State.decCtrl (s : State) (src : Src) (v : Word) : State :=
  let s := s.journal src Reg.DBG_DEC_CTRL (s.reg Reg.DBG_DEC_CTRL) v false s.orbitN
  if Fld.DBG_DEC_CTRL_GO.get v ≠ 1 then s
  else if s.dbg.decrypt.isSome then s.setFld Reg.DBG_DEC_STATUS Fld.DBG_DEC_STATUS_RESULT 3
  else
    let p := Fld.DBG_DEC_CTRL_PART.get v
    let n := Fld.DBG_DEC_CTRL_BLOCKS.get v
    let a := s.reg64 Reg.DBG_DEC_SRC_LO Reg.DBG_DEC_SRC_HI
    let d := s.reg64 Reg.DBG_DEC_DST_LO Reg.DBG_DEC_DST_HI
    let size := s.spaceSize (.part p)
    let (s, r) :=
      if size < a + n * 4096 || size < d + n * 4016 then (s, 2) else s.decryptBlocks p n a d
    ({ s with dbg := { s.dbg with decrypt := some r } }).setFld Reg.DBG_DEC_STATUS Fld.DBG_DEC_STATUS_BUSY 1

/-- DEBUG_DECRYPT_DONE. -/
def State.decDone (s : State) : State :=
  match s.dbg.decrypt with
  | none => s
  | some r =>
    let s := { s with dbg := { s.dbg with decrypt := none } }
    (s.setFld Reg.DBG_DEC_STATUS Fld.DBG_DEC_STATUS_RESULT r).setFld Reg.DBG_DEC_STATUS Fld.DBG_DEC_STATUS_BUSY 0

/-! Recording (R642). -/

/-- A write of PT_DEBUG: the enables at once, a change of RECORD at the mark that R60 gives. -/
def State.debugWrite (s : State) (src : Src) (p : Nat) (v : Word) : State :=
  let k := Reg.PT_DEBUG p
  let old := s.flag k Fld.PT_DEBUG_RECORD
  let new := Fld.PT_DEBUG_RECORD.get v == 1
  let s := s.journal src k (s.reg k) v false (if old == new then s.orbitN else s.markDue)
  let s := s.setReg k (v &&& 0xF)
  if old == new then s else { s with dbg := { s.dbg with recDue := s.dbg.recDue ++ [(s.markDue, p, new)] } }

/-- Recording starts at this mark: its START record, its orbit, the block that the record goes into. -/
def State.recStart (s : State) (p : Nat) : State :=
  let s := s.setReg64 (Reg.DBG_REC_START_LO p) (Reg.DBG_REC_START_HI p) s.orbitN
  let s := s.setFld (Reg.DBG_CAP_STATUS p) Fld.DBG_CAP_STATUS_REC_ACTIVE 1
  let seq := Tab.get (fun _ => 0) s.cph.capSeq (4 * p)
  let s := { s with cph := { s.cph with capSeq := Tab.set (fun _ => 0) s.cph.capSeq (64 + p) seq } }
  s.recPut p (s.recBytes 6 0 [])

/-- RECORD_CHANGE: the first change of a partition whose mark has come. -/
def State.recordChange (s : State) (p : Nat) : State :=
  match s.dbg.recDue.find? (fun e => e.2.1 == p && s.markReached e.1) with
  | none => s
  | some e =>
    let s := { s with dbg := { s.dbg with recDue := s.dbg.recDue.erase e } }
    if e.2.2 then (if s.recording p then s else s.recStart p) else s.recEnd p 0

/-! Replay (R645, R646). -/

/-- A write of DBG_REPLAY_CTRL. -/
def State.replayGo (s : State) (src : Src) (p : Nat) (v : Word) : State :=
  let k := Reg.DBG_REPLAY_CTRL p
  let s := s.journal src k (s.reg k) v false s.orbitN
  if Fld.DBG_REPLAY_CTRL_GO.get v ≠ 1 || !s.isFrozen p || s.flag (Reg.PT_DEBUG p) Fld.PT_DEBUG_RECORD then s
  else
    let c := Reg.DBG_CAP_STATUS p
    let s := (s.setFld c Fld.DBG_CAP_STATUS_REPLAY_ACTIVE 1).setFld c Fld.DBG_CAP_STATUS_REPLAY_DONE 0
    let s := s.setFld c Fld.DBG_CAP_STATUS_DIVERGED 0
    let o0 := s.reg64 (Reg.DBG_REC_START_LO p) (Reg.DBG_REC_START_HI p)
    let r : ReplaySt := ⟨o0, none, Tab.get (fun _ => 0) s.cph.capSeq (64 + p), []⟩
    { s with dbg := { s.dbg with replay := Tab.ins (s.dbg.replay.filter (fun e => e.1 != p)) p r } }

/-- A replay ends with a flag set, and the partition freezes. -/
def State.replayEnd (s : State) (p : Nat) (f : Fld) : State :=
  let c := Reg.DBG_CAP_STATUS p
  let s := (s.setFld c Fld.DBG_CAP_STATUS_REPLAY_ACTIVE 0).setFld c f 1
  ({ s with dbg := { s.dbg with replay := s.dbg.replay.filter (fun e => e.1 != p) } }).freezeNow p

/-- The next block of stream 0 added to what the replay has read; none where no such block is found. -/
def State.replayLoad (s : State) (p : Nat) (r : ReplaySt) : State × Option ReplaySt :=
  let n := s.capBlocks p
  if n = 0 then (s, none)
  else
    let a := (s.capRegion p).1 + r.block % n * 4096
    match s.partRead p a 64 with
    | (s, .inr _) => (s, none)
    | (s, .inl h) =>
      if byteAt h 0 ≠ 0 || byteAt h 1 ≠ p || leAt h 8 8 ≠ r.block then (s, none)
      else
        match s.blockOpen p a with
        | (s, .inl (some d)) => (s, some { r with block := r.block + 1, buf := r.buf ++ d.take (leAt h 2 2) })
        | (s, _) => (s, none)

/-- The length of the first record read, header and padding included; none while it is not whole. -/
def wholeRecord (b : Bytes) : Option Nat :=
  let n := 16 + (leAt b 2 2 + 15) / 16 * 16
  if b.length < 16 || b.length < n then none else some n

/-- A recorded Tether message delivered on a partition's port (R643 KIND 4): requests act as if they had arrived, their
answers going nowhere; completions are matched by tag. False: no request matches. -/
def State.replayMsg (s : State) (n : Nat) (c : Bytes) : State × Bool :=
  let m := unitHdr (slice c 0 16)
  let t := m.mtype.toNat
  let masked := t == mMasked
  let mask := if masked then BitVec.ofNat 64 (leAt c 16 8) else 0
  let d := c.drop (if masked then 32 else 16)
  let known (w : Bool) : Bool := (s.port n).req.any (fun r => r.tag == m.tag.toNat && r.write == w && r.status.isNone)
  let keep (u : State) : State := u.setPort n { u.port n with freed := (s.port n).freed }
  if t == mRead then (s.actRead n m true, true)
  else if t == mWrite then (s.actWrite n m d true, true)
  else if masked then (s.actMasked n m mask d true, true)
  else if t == mDoorbell then (s.actDoorbell n m true, true)
  else if t == mStep then (s.actStep n m true, true)
  else if t == mData then (if known false then (keep (s.readData n m d), true) else (s, false))
  else if t == mAck then (if known true then (keep (s.writeAck n m), true) else (s, false))
  else (s, true)

/-- A recorded item injected (R645, R646), host writes by the operation handed in. False: the replay has diverged. -/
def State.replayItem (hw : State → Nat → Bytes → State) (s : State) (p : Nat) (b : Bytes) : State × Bool :=
  let src := byteAt b 1
  let c := slice b 16 (leAt b 2 2)
  match byteAt b 0 with
  | 1 => (hw s src c, true)
  | 2 =>
    let tag := leAt c 0 2
    if s.host.tags.any (fun t => t.tag == tag) then (s.hostCompletion tag (.ok (c.drop 2)), true) else (s, false)
  | 3 =>
    let f : RxFrame := ⟨p, leAt c 0 2, leAt c 2 2, s.now, c.drop 4⟩
    ({ s with eth := { s.eth with rx := s.eth.rx ++ [f] } }, true)
  | 4 => s.replayMsg src c
  | 5 =>
    let id := leAt c 0 8
    if s.stg.cart.any (fun x => x.id == id && x.issued) then
      (s.cartComplete id (if byteAt c 8 = 0 then .ok (c.drop 9) else .fail), true)
    else (s, false)
  | _ => (s, true)

/-- Whether a record is due: it was recorded no later in its recording than this slot is in the replay. -/
def State.replayDue (s : State) (r : ReplaySt) (m : Nat) (b : Bytes) : Bool :=
  let k := leAt b 4 6 - r.o0
  let j := s.orbitN - m
  decide (k < j) || (decide (k = j) && decide (leAt b 10 1 % 64 ≤ s.tm.cycle / 256))

/-- The items of this slot injected in recorded order. -/
def State.replayRun (hw : State → Nat → Bytes → State) (s : State) (p : Nat) : Nat → State
  | 0 => s
  | fuel + 1 =>
    match s.dbg.replay.find? (fun e => e.1 == p) with
    | none => s
    | some (_, r) =>
      match r.start with
      | none => s
      | some m =>
        match wholeRecord r.buf with
        | none =>
          match s.replayLoad p r with
          | (s, none) => s
          | (s, some r) =>
            State.replayRun hw { s with dbg := { s.dbg with replay := Tab.ins s.dbg.replay p r } } p fuel
        | some n =>
          let b := r.buf.take n
          if leAt b 4 6 < r.o0 || byteAt b 0 == 6 then
            State.replayRun hw { s with dbg := { s.dbg with replay := Tab.ins s.dbg.replay p { r with buf := r.buf.drop n } } } p fuel
          else if !s.replayDue r m b then s
          else
            let s := { s with dbg := { s.dbg with replay := Tab.ins s.dbg.replay p { r with buf := r.buf.drop n } } }
            if byteAt b 0 == 7 then s.replayEnd p Fld.DBG_CAP_STATUS_REPLAY_DONE
            else
              let (s, ok) := s.replayItem hw p b
              if ok then State.replayRun hw s p fuel else s.replayEnd p Fld.DBG_CAP_STATUS_DIVERGED

/-- REPLAY_INJECT: enough turns for every record of the quarter. -/
def State.replayInject (hw : State → Nat → Bytes → State) (s : State) (p : Nat) : State :=
  if s.wrDrops then s else s.replayRun hw p (s.capBlocks p * 256 + 256)

/-! The commands. -/

/-- SAMPLE_EXPORT (R618). -/
def execSampleExport (s : State) : Host.Outcome State Fault Refusal := s.answer (s.unitAct (fun s => s.sampleExport))

/-- DBG_TIME_STEP (R619). -/
def execDbgTimeStep (src : Src) (v : Word) (s : State) : Host.Outcome State Fault Refusal :=
  s.answer (s.hostGate src Reg.DBG_TIME_STEP v (fun t => t.timeStep v))

/-- TAIL_RESUME (R623). -/
def execTailResume (src : Src) (v : Word) (s : State) : Host.Outcome State Fault Refusal :=
  s.answer (s.hostGate src Reg.DBG_CTRL v (fun t => t.dbgCtrl src v))

/-- STOP_GO (R637). -/
def execStopGo (src : Src) (v : Word) (s : State) : Host.Outcome State Fault Refusal :=
  s.answer (s.hostGate src Reg.DBG_CTRL v (fun t => t.dbgCtrl src v))

/-- GLOBAL_STOP (R638). -/
def execGlobalStop (s : State) : Host.Outcome State Fault Refusal := s.answer s.globalStop

/-- DUMP_DONE (R640). -/
def execDumpDone (s : State) : Host.Outcome State Fault Refusal := s.answer s.dumpDone

/-- DEBUG_DECRYPT (R631). -/
def execDebugDecrypt (src : Src) (v : Word) (s : State) : Host.Outcome State Fault Refusal :=
  s.answer (s.hostGate src Reg.DBG_DEC_CTRL v (fun t => t.decCtrl src v))

/-- DEBUG_DECRYPT_DONE (R631). -/
def execDebugDecryptDone (s : State) : Host.Outcome State Fault Refusal := s.answer (s.unitAct (fun s => s.decDone))

/-- RECORD_CHANGE (R642). -/
def execRecordChange (p : Fin 16) (s : State) : Host.Outcome State Fault Refusal := s.answer (s.recordChange p)

/-- REPLAY_GO (R645). -/
def execReplayGo (src : Src) (p : Fin 16) (v : Word) (s : State) : Host.Outcome State Fault Refusal :=
  s.answer (s.hostGate src (Reg.DBG_REPLAY_CTRL p) v (fun t => t.replayGo src p v))

end Sys2Proof.Machine
end

