-- ==== Sys2Proof/Machine/Panel.lean ====
section
/-! DEFINITION. The front panel, removal of the sled, the spare cluster, scratch columns and ageing (chapter Front Panel,
Spares and Ageing). -/

namespace Sys2Proof.Machine

/-! Identify (R651). -/

/-- Identify shown or not. -/
def State.setIdentify (s : State) (b : Bool) : State :=
  let n := if b then 1 else 0
  let s := (s.setFld Reg.PANEL_CTRL Fld.PANEL_CTRL_IDENTIFY n).setFld Reg.PANEL_STATUS Fld.PANEL_STATUS_IDENTIFY n
  { s with panel := { s.panel with ident := if b then some s.now else none } }

/-- Identify ends 60 s after its start: 7,500,000 orbits. -/
def State.identEnd (s : State) : State :=
  match s.panel.ident with
  | some t => if t + 7500000 * orbitCycles ≤ s.now then s.setIdentify false else s
  | none => s

/-! Removing the sled (R653, R654, R611). -/

/-- A removal requested for the next mark, unless one is requested or in progress. -/
def State.removeAsk (s : State) : State :=
  if s.panel.removeDue.isSome || s.panel.removal.isSome then s
  else { s with panel := { s.panel with removeDue := some (s.orbitN + 1) } }

/-- Whether a partition is served by this sled: something is assigned to it, and it is no standby. -/
def State.served (s : State) (p : Nat) : Bool :=
  (List.range 136).any (fun i => s.mapEntry i == p) && !s.isStandby p

/-- Steps 1 to 3 at the request's mark: the eject request, the handovers, the event. -/
def State.removeBegin (s : State) : State :=
  match s.panel.removeDue with
  | none => s
  | some d =>
    if !s.markReached d || !s.live then s
    else
      let s := { s with panel := { s.panel with removeDue := none, removal := some ⟨s.orbitN, [], false⟩ } }
      let s := (s.setFld Reg.PANEL_STATUS Fld.PANEL_STATUS_REMOVING 1).eject.ckAll
      let give := (List.range 16).filter s.mayHand
      let s := { s with pair := { s.pair with handDue := s.pair.handDue ++ give.map (fun p => (p, s.orbitN)) } }
      let left := (List.range 16).filter (fun p => s.served p && !give.contains p)
      s.raiseEvent 8 0 (le 2 ((left.map (fun p => 2 ^ p)).sum))

/-- Step 4: PANEL_DRAIN_S seconds after the request's mark, what is still served freezes at the next mark. -/
def State.removeDrain (s : State) : State :=
  match s.panel.removal with
  | none => s
  | some r =>
    if r.drained || s.orbitN < r.start + s.fld Reg.PANEL_DRAIN_S Fld.PANEL_DRAIN_S_SECONDS * 125000 then s
    else
      let hand (p : Nat) : Bool :=
        s.pair.handDue.any (fun e => e.1 == p) || s.pair.draining.contains p || s.pair.offered.contains p
      let l := (List.range 16).filter (fun p => s.served p && !hand p && !s.isFrozen p)
      let due := s.orbitN + (if s.tm.cycle = 0 then 0 else 1)
      { s with
        panel := { s.panel with removal := some { r with frozen := l, drained := true } }
        pt := { s.pt with freezeDue := s.pt.freezeDue ++ l.map (fun p => (p, due)) } }

/-- Steps 5 and 6: all is settled; the last heartbeat carries STATE 3, and the power-loss sequence runs. -/
def State.removeReady (s : State) : State :=
  match s.panel.removal with
  | none => s
  | some r =>
    let cart := s.cartState == 0 || s.cartState == 4 || s.cartState == 5
    let handed := s.pair.handDue.isEmpty && s.pair.draining.isEmpty && s.pair.offered.isEmpty
    if !r.drained || !cart || !handed || !r.frozen.all s.isFrozen || !s.live then s
    else
      let s := ({ s with pair := { s.pair with leaving := true } }).heartbeatSend
      ({ s with
        panel := { s.panel with removal := none, safe := true }
        pwr := { s.pwr with stayOff := true } }).lossStart

/-- A cancel before step 6 (R654): partitions that step 4 froze are thawed. -/
def State.removeCancel (s : State) : State :=
  if s.panel.removeDue.isNone && s.panel.removal.isNone then s
  else
    let frozen : List Nat := match s.panel.removal with
      | some r => r.frozen
      | none => []
    let s := { s with
      panel := { s.panel with removeDue := none, removal := none }
      pt := { s.pt with freezeDue := s.pt.freezeDue.filter (fun e => !frozen.contains e.1) } }
    let s := (frozen.foldl State.thawNow s).setFld Reg.PANEL_STATUS Fld.PANEL_STATUS_REMOVING 0
    s.setFld Reg.PANEL_EVENT Fld.PANEL_EVENT_REMOVAL_CANCELLED 1

/-! Front-panel actions (R649–R651). -/

/-- What SV7 does of an action: 0 short touch, 1 long touch, 2 eject press. -/
def State.panelAct (s : State) (i : Nat) : State :=
  if i = 0 then s.setIdentify s.panel.ident.isNone
  else if i = 1 then
    if s.panel.removeDue.isSome || s.panel.removal.isSome then s.removeCancel else s.removeAsk
  else s.eject.ckAll

/-- The actions that waited, once SV7 runs. -/
def State.panelTodo (s : State) : State :=
  if s.coreRuns 39 then s.panel.todo.foldl State.panelAct { s with panel := { s.panel with todo := [] } } else s

/-- A debounced action: its bit of PANEL_EVENT, and SV7 acts on it when it runs. In D3cold a long touch and an eject press
are wake causes only, and a short touch has no effect (R650). -/
def State.panelAction (s : State) (i : Nat) : State :=
  if !s.pwr.on then
    if i = 1 then s.wakeCause true .touch else if i = 2 then s.wakeCause true .eject else s
  else
    let s := s.setFld Reg.PANEL_EVENT
      (if i = 0 then Fld.PANEL_EVENT_SHORT_TOUCH else if i = 1 then Fld.PANEL_EVENT_LONG_TOUCH else Fld.PANEL_EVENT_EJECT_PRESS) 1
    ({ s with panel := { s.panel with todo := s.panel.todo ++ [i] } }).panelTodo

/-- CAGE_CHANGE (R33, R413): presence, low-power hold; the ports of a cage without a module that may run go down. -/
def State.cageChange (s : State) (k : Nat) (present powerOk : Bool) : State :=
  if !s.pwr.on then s
  else
    let s := s.setBit Reg.PANEL_STATUS Fld.PANEL_STATUS_CAGE_PRESENT k present
    let s := s.setFld Reg.PANEL_EVENT Fld.PANEL_EVENT_CAGE_CHANGE 1
    let s := s.setBit Reg.ETH_STATUS Fld.ETH_STATUS_CAGE_PRESENT k present
    let s := s.setBit Reg.ETH_STATUS Fld.ETH_STATUS_CAGE_LOWPOWER k (present && !powerOk)
    let s := if present && powerOk then s
      else ((List.range 8).filter (fun n => s.ethCage n == k && s.ethUp n)).foldl (fun t n => t.ethLink n false) s
    s.ethTrained

/-! Spare cluster (R655, R656, R25, R167, R265). -/

/-- A request for substitution of a cluster; whether it is taken. -/
def State.clRequest (s : State) (c : Nat) : State × Bool :=
  let drop := s.setFld Reg.SPR_STATUS Fld.SPR_STATUS_CL_DROPPED 1
  if s.flag Reg.SPR_CL_MAP Fld.SPR_CL_MAP_USED || s.panel.clDue.isSome then (drop.alarm 1 Unit.panel 1 c 0, false)
  else if s.flag Reg.DBG_STATUS Fld.DBG_STATUS_STOPPED
      || sext 16 (s.reg (Reg.AGE_PD 16)).toNat < Int.ofNat (s.fld Reg.AGE_PD_MIN Fld.AGE_PD_MIN_PS) then (drop, false)
  else ({ s with panel := { s.panel with clDue := some (c, s.markDue) } }, true)

/-- A request that a condition makes, while AUTO_CLUSTER is 1. -/
def State.clAuto (s : State) (c : Nat) : State :=
  if s.flag Reg.SPR_CTRL Fld.SPR_CTRL_AUTO_CLUSTER then (s.clRequest c).1 else s

/-- A write of SPR_CL_CMD. -/
def State.clCmd (s : State) (src : Src) (v : Word) : State :=
  if Fld.SPR_CL_CMD_GO.get v ≠ 1 then s.journal src Reg.SPR_CL_CMD 0 v true s.orbitN
  else
    let due := s.markDue
    let (s, ok) := s.clRequest (Fld.SPR_CL_CMD_CLUSTER.get v)
    s.journal src Reg.SPR_CL_CMD 0 v (!ok) (if ok then due else s.orbitN)

/-- CLUSTER_SUBSTITUTION at its mark: what the cluster held is lost, its registers and scratch start anew, its cores are
reloaded, its partition is told. -/
def State.clSubstitute (s : State) : State :=
  match s.panel.clDue with
  | none => s
  | some (c, d) =>
    if !s.markReached d || !s.live then s
    else
      let s := { s with panel := { s.panel with
        clDue := none
        cols := Tab.drop (fun k => k / 1024 / 24 == c) s.panel.cols
        copying := s.panel.copying.filter (fun k => k / 1024 / 24 != c) } }
      let s := [0, 1, 2, 3].foldl (fun t i => t.engDiscard (4 * c + i)) s
      let s := [0, 1].foldl (fun t i => t.waitDiscard (2 * c + i)) s
      let s := s.restore .e (fun x => decide (x = .cluster c))
      let s := { s with
        trw := Tab.drop (fun k => k / 16 == c) s.trw
        scr := { s.scr with
          handover := Tab.drop (fun k => k / 24 == c) s.scr.handover
          waiting := Tab.drop (fun k => k / 24 == c) s.scr.waiting
          corrected := s.scr.corrected.filter (fun k => k / 2 ^ 18 != c) }
        pt := { s.pt with eclHalted := s.pt.eclHalted.filter (fun x => x / 2 != c) } }
      let s := [0, 1].foldl (fun t i => t.coreReplaced (2 * c + i)) s
      let s := (s.scrInitStart c).setFld (Reg.CL_EVENT c) Fld.CL_EVENT_REPLACED 1
      let s := (s.setFld Reg.SPR_CL_MAP Fld.SPR_CL_MAP_REPLACED c).setFld Reg.SPR_CL_MAP Fld.SPR_CL_MAP_USED 1
      match s.clOwner c with
      | some p => s.raiseEvent 1 p (le 1 c)
      | none => s

/-! Scratch columns (R657–R659). -/

/-- The threshold in force: 0 acts as 1. -/
def State.colThresh (s : State) : Nat := max 1 (s.fld Reg.SPR_COL_THRESH Fld.SPR_COL_THRESH_COUNT)

/-- Columns of a bank whose replacement has begun. -/
def State.colsCopying (s : State) (c b : Nat) : List Nat := s.panel.copying.filter (fun k => k / 1024 == 24 * c + b)

/-- COLUMN_REPLACE: the first column of the bank that has reached the threshold is copied into a free redundant column, or
the bank has none left. -/
def State.colReplace (s : State) (c b : Nat) : State :=
  let busy := s.colsCopying c b
  match s.panel.cols.find? (fun e => e.1 / 1024 == 24 * c + b && decide (s.colThresh ≤ e.2) && !busy.contains e.1) with
  | none => s
  | some e =>
    if !s.flag Reg.SPR_CTRL Fld.SPR_CTRL_AUTO_COLUMN then s
    else
      let free := decide (s.fld (Reg.SCR_COLS c b) Fld.SCR_COLS_IN_USE + busy.length < 4)
      let s := { s with panel := { s.panel with copying := s.panel.copying ++ [e.1] } }
      if free then s
      else
        let s := s.setFld Reg.SPR_STATUS Fld.SPR_STATUS_COLUMNS_EXHAUSTED 1
        (s.alarmFree 1 (Unit.scratch c) 5 b).clAuto c

/-- COLUMN_COPY_DONE: the bank reads from the redundant column. -/
def State.colDone (s : State) (c b : Nat) : State :=
  let n := s.fld (Reg.SCR_COLS c b) Fld.SCR_COLS_IN_USE
  match s.colsCopying c b with
  | [] => s
  | k :: _ =>
    if 4 ≤ n then s
    else
      let s := { s with panel := { s.panel with
        copying := s.panel.copying.filter (· != k), cols := Tab.erase s.panel.cols k } }
      s.setFld (Reg.SCR_COLS c b) Fld.SCR_COLS_IN_USE (n + 1)

/-! Ageing (R660–R663). -/

/-- AGEING_PERIOD: the reads begin, and the column counts start a new period. -/
def State.agePeriod (s : State) : State :=
  if s.orbitN % 2 ^ 20 ≠ 0 || s.wrDrops || !s.live then s
  else
    let full (k : Nat) : Bool := s.fld (Reg.SCR_COLS (k / 1024 / 24) (k / 1024 % 24)) Fld.SCR_COLS_IN_USE == 4
    { s with panel := { s.panel with
      reading := true, cols := [], copying := s.panel.copying.filter (fun k => !full k) } }

/-- The path-delay margins of a voltage domain among the values read: 17 clusters for VD0, then one for each other. -/
def domainMargins (pd : List (BitVec 16)) (d : Nat) : List (BitVec 16) := if d = 0 then pd.take 17 else (pd.drop (16 + d)).take 1

/-- The active cluster with the lowest margin: the replaced one is no longer active. -/
def State.worstCluster (s : State) (pd : List (BitVec 16)) : Nat :=
  let out : Option Nat :=
    if s.flag Reg.SPR_CL_MAP Fld.SPR_CL_MAP_USED then some (s.fld Reg.SPR_CL_MAP Fld.SPR_CL_MAP_REPLACED) else none
  let l := (List.range 16).filter (fun c => some c != out)
  l.foldl (fun m c => if sext 16 (pd.getD c 0).toNat < sext 16 (pd.getD m 0).toNat then c else m) (l.headD 0)

/-- The margin planner on one domain. -/
def State.planDomain (s : State) (pd : List (BitVec 16)) (d : Nat) : State :=
  let floor := Int.ofNat (s.fld Reg.AGE_PD_MIN Fld.AGE_PD_MIN_PS)
  if !(domainMargins pd d).any (fun m => decide (sext 16 m.toNat < floor)) then s
  else if s.fld (Reg.AGE_GB d) Fld.AGE_GB_STEPS < 15 then
    { s with panel := { s.panel with gbDue := s.panel.gbDue.filter (fun e => e.1 != d) ++ [(d, s.orbitN + 1)] } }
  else
    let s := (s.setFld (Reg.AGE_GB d) Fld.AGE_GB_AT_MAX 1).alarm 9 Unit.panel 9 d 0
    if d = 0 then s.clAuto (s.worstCluster pd) else s

/-- AGEING_READ_DONE: the results placed, and the planner acts on each domain and lane. -/
def State.ageDone (s : State) (pd eye : List (BitVec 16)) : State :=
  if !s.panel.reading || s.wrDrops then s
  else
    let s := { s with panel := { s.panel with reading := false } }
    let s := (s.bump Reg.AGE_PERIODS Fld.AGE_PERIODS_COUNT)
    let s := (List.range 17).foldl (fun t c => t.setFld (Reg.AGE_PD c) Fld.AGE_PD_PS (pd.getD c 0).toNat) s
    let s := (List.range 76).foldl (fun t l => t.setFld (Reg.AGE_EYE l) Fld.AGE_EYE_MV (eye.getD l 0).toNat) s
    let s := (List.range 4).foldl (fun t d => t.planDomain pd d) s
    let low := (List.range 76).filter (fun l => decide ((eye.getD l 0).toNat < s.fld Reg.AGE_EYE_MIN Fld.AGE_EYE_MIN_MV))
    { s with panel := { s.panel with eyeDue := low } }

/-- GUARDBAND_STEP at its mark. -/
def State.gbStep (s : State) (d : Nat) : State :=
  match s.panel.gbDue.find? (fun e => e.1 == d && s.markReached e.2) with
  | none => s
  | some e =>
    let n := s.fld (Reg.AGE_GB d) Fld.AGE_GB_STEPS
    ({ s with panel := { s.panel with gbDue := s.panel.gbDue.erase e } }).setFld (Reg.AGE_GB d) Fld.AGE_GB_STEPS (min 15 (n + 1))

/-- EYE_READAPT in slot 63: the lane's margin after it; a lane that is still low raises the margin alarm. -/
def State.eyeAdapt (s : State) (l mv : Nat) : State :=
  if !s.panel.eyeDue.contains l || s.tm.cycle / 256 ≠ 63 || s.wrDrops then s
  else
    let s := { s with panel := { s.panel with eyeDue := s.panel.eyeDue.filter (· != l) } }
    let s := s.setFld (Reg.AGE_EYE l) Fld.AGE_EYE_MV mv
    if s.fld Reg.AGE_EYE_MIN Fld.AGE_EYE_MIN_MV ≤ mv then s
    else (s.setFld (Reg.AGE_EYE l) Fld.AGE_EYE_LOW 1).alarm 9 Unit.panel 9 (4 + l) 0

/-! The LED bar (R652): a function of the state. -/

/-- The colours of a segment. -/
inductive Led where
  | off
  | green
  | amber
  | blue
  deriving DecidableEq, Repr

/-- Segments 3 and 4: a cage's colour, and whether it blinks. -/
def State.ledCage (s : State) (k : Nat) : Led × Bool :=
  let ports := (List.range (ethPorts s.eth.mode)).filter (fun n => s.ethCage n == k)
  if !s.bit Reg.PANEL_STATUS Fld.PANEL_STATUS_CAGE_PRESENT k then (.off, false)
  else if s.bit Reg.ETH_STATUS Fld.ETH_STATUS_CAGE_LOWPOWER k then (.amber, false)
  else if ports.all s.ethUp then (.green, false)
  else (.amber, true)

/-- One segment where no code takes the whole bar. -/
def State.ledSegment (s : State) (i : Nat) : Led × Bool :=
  let stage := s.fld Reg.BOOT_STAGE Fld.BOOT_STAGE_STAGE
  if i = 0 then
    if s.flag Reg.BOOT_STAGE Fld.BOOT_STAGE_FAILED then (.amber, false) else if stage = 8 then (.green, false) else (.amber, true)
  else if i < 3 then (if stage < 8 && (stage % 4).testBit (i - 1) then .green else .off, false)
  else if i < 5 then s.ledCage (i - 3)
  else if i = 5 then
    if !s.flag Reg.PAIR_STATUS Fld.PAIR_STATUS_PAIR_MODE then (.off, false)
    else (if s.flag Reg.PAIR_STATUS Fld.PAIR_STATUS_PARTNER_UP then .green else .amber, false)
  else if i = 6 then
    match s.cartState with
    | 1 => (.green, true)
    | 2 => (.green, false)
    | 3 => (.green, true)
    | 4 => (.blue, false)
    | 5 => (.amber, false)
    | _ => (.off, false)
  else (if s.reg Reg.DBG_ALARM = 0 then .off else .amber, false)

/-- The bar: colour and blinking of its eight segments. -/
def State.ledBar (s : State) : List (Led × Bool) :=
  if !s.pwr.on then List.replicate 8 (if s.panel.safe then .blue else .off, false)
  else if s.flag Reg.PANEL_STATUS Fld.PANEL_STATUS_IDENTIFY then List.replicate 8 (.blue, true)
  else if s.flag Reg.PWR_STATUS Fld.PWR_STATUS_THERM_TRIP || s.fld Reg.BOOT_STATUS Fld.BOOT_STATUS_MODE == 3 then
    List.replicate 8 (.amber, true)
  else
    match s.panel.removal with
    | some r => (List.range 8).map (fun i => (if i = (s.orbitN - r.start) / 15625 % 8 then Led.green else .off, false))
    | none => (List.range 8).map s.ledSegment

/-! The commands. -/

/-- A write of PANEL_CTRL. -/
def State.panelCtrl (s : State) (src : Src) (v : Word) : State :=
  let s := s.journal src Reg.PANEL_CTRL (s.reg Reg.PANEL_CTRL) v false s.orbitN
  let s := s.setIdentify (Fld.PANEL_CTRL_IDENTIFY.get v == 1)
  let s := if Fld.PANEL_CTRL_REMOVE.get v == 1 then s.removeAsk else s
  if Fld.PANEL_CTRL_CANCEL.get v == 1 then s.removeCancel else s

/-- SHORT_TOUCH (R651). -/
def execShortTouch (s : State) : Host.Outcome State Fault Refusal := s.answer (s.panelAction 0)

/-- LONG_TOUCH (R653). -/
def execLongTouch (s : State) : Host.Outcome State Fault Refusal := s.answer (s.panelAction 1)

/-- EJECT_PRESS (R528). -/
def execEjectPress (s : State) : Host.Outcome State Fault Refusal := s.answer (s.panelAction 2)

/-- CAGE_CHANGE (R33). -/
def execCageChange (k : Fin 2) (present powerOk : Bool) (s : State) : Host.Outcome State Fault Refusal :=
  s.answer (s.cageChange k present powerOk)

/-- IDENTIFY_TIMEOUT (R651). -/
def execIdentifyTimeout (s : State) : Host.Outcome State Fault Refusal := s.answer (s.unitAct (fun s => s.identEnd))

/-- PANEL_IDENTIFY_WRITE (R651). -/
def execPanelIdentifyWrite (src : Src) (v : Word) (s : State) : Host.Outcome State Fault Refusal :=
  s.answer (s.hostGate src Reg.PANEL_CTRL v (fun t => t.panelCtrl src v))

/-- PANEL_REMOVE (R653). -/
def execPanelRemove (src : Src) (v : Word) (s : State) : Host.Outcome State Fault Refusal :=
  s.answer (s.hostGate src Reg.PANEL_CTRL v (fun t => t.panelCtrl src v))

/-- PANEL_CANCEL (R654). -/
def execPanelCancel (src : Src) (v : Word) (s : State) : Host.Outcome State Fault Refusal :=
  s.answer (s.hostGate src Reg.PANEL_CTRL v (fun t => t.panelCtrl src v))

/-- REMOVAL_DRAIN_EXPIRY (R653). -/
def execRemovalDrainExpiry (s : State) : Host.Outcome State Fault Refusal :=
  s.answer (s.unitAct (fun s => s.removeDrain))

/-- REMOVAL_READY (R653). -/
def execRemovalReady (s : State) : Host.Outcome State Fault Refusal := s.answerPower s.removeReady

/-- SPR_CL_CMD (R655). -/
def execSprClCmd (src : Src) (v : Word) (s : State) : Host.Outcome State Fault Refusal :=
  s.answer (s.hostGate src Reg.SPR_CL_CMD v (fun t => t.clCmd src v))

/-- CLUSTER_SUBSTITUTION (R167). -/
def execClusterSubstitution (s : State) : Host.Outcome State Fault Refusal := s.answer s.clSubstitute

/-- COLUMN_REPLACE (R657). -/
def execColumnReplace (c : Fin 16) (b : Fin 24) (s : State) : Host.Outcome State Fault Refusal :=
  s.answer (s.unitAct (fun s => s.colReplace c b))

/-- COLUMN_COPY_DONE (R658). -/
def execColumnCopyDone (c : Fin 16) (b : Fin 24) (s : State) : Host.Outcome State Fault Refusal :=
  s.answer (s.unitAct (fun s => s.colDone c b))

/-- AGEING_PERIOD (R660). -/
def execAgeingPeriod (s : State) : Host.Outcome State Fault Refusal := s.answer s.agePeriod

/-- AGEING_READ_DONE (R661). -/
def execAgeingReadDone (pd eye : List (BitVec 16)) (s : State) : Host.Outcome State Fault Refusal := s.answer (s.ageDone pd eye)

/-- GUARDBAND_STEP (R661). -/
def execGuardbandStep (d : Fin 4) (s : State) : Host.Outcome State Fault Refusal := s.answer (s.gbStep d)

/-- EYE_READAPT (R662). -/
def execEyeReadapt (l : Fin 76) (mv : BitVec 16) (s : State) : Host.Outcome State Fault Refusal := s.answer (s.eyeAdapt l mv.toNat)

end Sys2Proof.Machine
end

