-- ==== Sys2Proof/Machine/Hawk.lean ====
section
/-! DEFINITION. The firmware complex as seen from outside: service-core restarts and watchdogs, the Hawk mailboxes with
each request's effect, events, and the log ring's window (chapter Firmware Complex and Hawk Mailbox). -/

namespace Sys2Proof.Machine

/-! Mailboxes (R376, R565–R571). Functions are numbered 0 for PF0 and v + 1 for virtual function v. -/

/-- The STATUS register of a function's mailbox. -/
def hawkStatus (f : Nat) : Nat := if f = 0 then Reg.HAWK_STATUS else Reg.VF_HAWK_STATUS (f - 1)
/-- Word `w` of the request area. -/
def hawkReqKey (f w : Nat) : Nat := if f = 0 then Reg.HAWK_REQ w else Reg.VF_HAWK_REQ (f - 1) w
/-- Word `w` of the response area. -/
def hawkRspKey (f w : Nat) : Nat := if f = 0 then Reg.HAWK_RSP w else Reg.VF_HAWK_RSP (f - 1) w

/-- A write of SUBMIT (R376). -/
def State.hawkSubmit (s : State) (f : Nat) (v : Word) : State :=
  if !v.getLsbD 0 then s
  else if s.flag (hawkStatus f) Fld.HAWK_STATUS_BUSY then s.setFld (hawkStatus f) Fld.HAWK_STATUS_SUBMIT_DROPPED 1
  else s.setFld (hawkStatus f) Fld.HAWK_STATUS_BUSY 1

/-- A write of a word of the request area: discarded while BUSY (R376). -/
def State.hawkWrite (s : State) (f w : Nat) (v : Word) : State :=
  if s.flag (hawkStatus f) Fld.HAWK_STATUS_BUSY then s.setFld (hawkStatus f) Fld.HAWK_STATUS_SUBMIT_DROPPED 1
  else s.setReg (hawkReqKey f w) v

/-- The bytes of a function's request area. -/
def State.hawkArea (s : State) (f : Nat) : Bytes := ((List.range 512).map (fun w => le 4 (s.reg (hawkReqKey f w)).toNat)).flatten

/-- A response as it will be written (R566): PART and the reserved bytes are zero. -/
def hawkRsp (minor op tag status : Nat) (payload : Bytes) : Bytes :=
  le 1 2 ++ le 1 minor ++ le 2 op ++ le 4 tag ++ le 2 payload.length ++ le 1 status ++ zeros 5 ++ payload

/-- A response queued for writing. -/
def State.hawkAnswer (s : State) (f minor op tag status : Nat) (payload : Bytes) : State :=
  { s with fw := { s.fw with rsp := s.fw.rsp ++ [(f, hawkRsp minor op tag status payload)] } }

/-- A request completed: out of the requests in progress, its response queued. -/
def State.hawkEnd (s : State) (r : HawkReq) (status : Nat) (payload : Bytes) : State :=
  ({ s with fw := { s.fw with req := s.fw.req.erase r } }).hawkAnswer r.fn r.minor r.op r.tag status payload

/-- The request length of an opcode and the minor version that added it (R568, R569); none for a reserved opcode. -/
def hawkOp (op : Nat) : Option (Nat × Nat) :=
  match op with
  | 0x01 => some (0, 0)
  | 0x10 => some (24, 0)
  | 0x11 => some (8, 0)
  | 0x20 => some (32, 0)
  | 0x30 => some (52, 1)
  | 0x31 => some (4, 1)
  | 0x40 => some (0, 2)
  | 0x41 => some (0, 2)
  | 0x50 => some (40, 3)
  | _ => none

/-- Whether the payload of a request keeps reserved bits at zero and its fields in range (R569). -/
def State.hawkPayloadOk (s : State) (op part : Nat) (d : Bytes) : Bool :=
  let zero (off n : Nat) : Bool := leAt d off n == 0
  match op with
  | 0x10 => zero 4 4 && leAt d 8 8 % 64 == 0 && decide (leAt d 8 8 < 2 ^ 48) && decide (byteAt d 16 < 2) && zero 17 7
  | 0x11 => decide (1 ≤ byteAt d 4) && decide (byteAt d 4 ≤ 3) && zero 5 3
  | 0x20 =>
    let l := byteAt d 3 % 16
    let c := byteAt d 3 / 16
    let n := leAt d 20 4
    let target := bitsOf n 7 6
    decide (byteAt d 0 < 16) && decide (byteAt d 1 < 16) && decide (byteAt d 2 < 4) && decide (4 ≤ l) && decide (l ≤ 12)
      && decide (4 ≤ c) && decide (c ≤ 12) && leAt d 4 8 % 4096 == 0 && decide (leAt d 4 8 < 2 ^ 48)
      && decide (leAt d 12 8 < 2 ^ 48) && decide (n < 2 ^ 13)
      && (if n.testBit 0 then decide (bitsOf n 1 6 < 32) && decide (target < 8) else target != 0) && zero 24 8
  | 0x30 =>
    let sels := [0, 1, 2, 3].all (fun i => decide (leAt d (4 + 12 * i) 4 < 32))
    decide (leAt d 0 2 < s.fld (Reg.ETH_RULE_SHARE part) Fld.ETH_RULE_SHARE_COUNT) && decide (byteAt d 2 < 16) && sels
  | 0x31 => decide (leAt d 0 2 < s.fld (Reg.ETH_RULE_SHARE part) Fld.ETH_RULE_SHARE_COUNT) && zero 2 2
  | 0x50 =>
    let a := leAt d 32 8
    let size := if part = 0x40 then s.spaceSize .svc else s.spaceSize (.part part)
    a % 64 == 0 && decide (a + 50240 ≤ size)
  | _ => true

/-- Whether PART is valid for the function and opcode (R566, R568). -/
def hawkPartOk (f op part : Nat) : Bool :=
  if f ≠ 0 then part == 0 else decide (part < 16) || (part == 0x40 && (op == 0x01 || op == 0x50))

/-- Whether a service core is HALTED, or stopped for a restart. -/
def State.svHalted (s : State) (i : Nat) : Bool := s.fld (Reg.SV_STATUS i) Fld.SV_STATUS_STATE == 2
def State.svDown (s : State) (i : Nat) : Bool := s.fld (Reg.SV_STATUS i) Fld.SV_STATUS_STATE == 1

/-- A request taken and checked (R556, R564, R567–R570): answered at once, or put among those in progress. -/
def State.hawkAccept (s : State) (f : Nat) (b : Bytes) : State :=
  let minor := byteAt b 1
  let op := leAt b 2 2
  let tag := leAt b 4 4
  let len := leAt b 8 2
  let bound : Option Nat := if f = 0 then some (byteAt b 11) else s.vfPart (f - 1)
  let no (status : Nat) : State := s.hawkAnswer f minor op tag status []
  if byteAt b 0 ≠ 2 || 3 < minor then s.hawkAnswer f 3 op tag 1 []
  else
    match bound with
    | none => no 8
    | some part =>
      match hawkOp op with
      | none => no 2
      | some (n, since) =>
        if minor < since then no 2
        else if len ≠ n || byteAt b 10 ≠ 0 || leAt b 12 4 ≠ 0 || !hawkPartOk f op (byteAt b 11)
            || !s.hawkPayloadOk op part (slice b 16 len) then no 3
        else
          let role := hawkRole f op
          if s.svHalted role then no 7
          else if s.svDown role && decide (64 ≤ (s.fw.req.filter (fun r => hawkRole r.fn r.op == role && !r.begun)).length) then no 6
          else
            { s with fw := { s.fw with req := s.fw.req ++ [⟨f, minor, op, tag, part, slice b 16 len, false, [], [], false⟩] } }

/-- HAWK_TAKE (R571): the dispatching core runs, and fewer than 4 requests of the function are in progress. -/
def State.hawkTake (s : State) (f : Nat) : State :=
  if !s.flag (hawkStatus f) Fld.HAWK_STATUS_BUSY || !s.coreRuns (if f = 0 then 32 else 33)
      || 4 ≤ (s.fw.req.filter (fun r => r.fn == f)).length then s
  else (s.setFld (hawkStatus f) Fld.HAWK_STATUS_BUSY 0).hawkAccept f (s.hawkArea f)

/-- The oldest request in progress of a function and opcode is served by its role: UNAVAILABLE while the role's core is
HALTED, left waiting while it restarts. -/
def State.hawkServe (s : State) (f op : Nat) (act : State → HawkReq → State) : State :=
  match s.fw.req.find? (fun r => r.fn == f && r.op == op && !r.begun) with
  | none => s
  | some r =>
    if s.svHalted (hawkRole f op) then s.hawkEnd r 7 []
    else if !s.coreRuns (32 + hawkRole f op) then s
    else act s r

/-! The requests' effects (R569). -/

/-- Bits of a list of numbers. -/
def bitSum (l : List Nat) : Nat := (l.map (fun i => 2 ^ i)).sum

/-- The payload of GET_INFO for a partition, or for device scope: there the only resources are the DMA engines that firmware
holds. -/
def State.infoBytes (s : State) (part minor : Nat) : Bytes :=
  let en := bitSum ((List.range 64).filter (fun n => s.flag (Reg.ENG_STATUS (n / 4) (n % 4)) Fld.ENG_STATUS_ENABLED))
  if 16 ≤ part then
    le 1 0x40 ++ le 1 minor ++ zeros 10 ++ le 2 (bitSum ((List.range 16).filter s.dmaFirmware)) ++ zeros 18 ++ le 8 en ++ zeros 8
  else
    let b (x : Bool) (n : Nat) : Nat := if x then 2 ^ n else 0
    le 1 part ++ le 1 minor
      ++ le 1 (b (s.isSealed part) 0 + b (s.bit Reg.EPH_C0_OK Fld.EPH_C0_OK_QUALIFIED part) 1 + b (s.isFrozen part) 2)
      ++ le 1 (s.epoch part) ++ le 4 (bitSum (s.pkgsOf part)) ++ le 2 (bitSum (s.clustersOf part)) ++ le 1 (bitSum (s.portsOf part))
      ++ le 1 0 ++ le 2 (bitSum (s.dmasOf part)) ++ le 2 0 ++ le 8 (bitSum (s.vfsOf part)) ++ le 8 (s.spaceSize (.part part))
      ++ le 8 en ++ le 4 (s.fld (Reg.PT_EPOCH_ERA part) Fld.PT_EPOCH_ERA_ERA) ++ le 4 0

/-- The prep cores of a mask. -/
def maskCores (m : Nat) : List Nat := (List.range 32).filter (fun x => m.testBit x)

/-- Whether a partition owns every core of a list. -/
def State.coresOwned (s : State) (p : Nat) (l : List Nat) : Bool := l.all (fun x => s.clOwner (x / 2) == some p)

/-- A PX_CTRL write by SV1 for one core, with CMD_REJECTED left as it was; whether the command was rejected. -/
def State.hawkPx (s : State) (x : Nat) (v : Word) : State × Bool :=
  let k := Reg.PX_EVENT (pxc x) (pxi x)
  let old := s.fld k Fld.PX_EVENT_CMD_REJECTED
  let s := (s.setFld k Fld.PX_EVENT_CMD_REJECTED 0).pxCtrl (.mgmt (.sv 1)) x v
  let bad := s.flag k Fld.PX_EVENT_CMD_REJECTED
  (if bad then s else s.setFld k Fld.PX_EVENT_CMD_REJECTED old, bad)

/-- The answer of a PX_LOAD once every named load has ended. -/
def State.loadAnswer (s : State) (r : HawkReq) : State :=
  if r.loads.any (fun x => s.pxState x == 1) then s
  else
    let l := maskCores (leAt r.payload 0 4)
    s.hawkEnd r 0 ((List.range 32).map (fun x =>
      if r.rejected.contains x then byte 0xFF
      else if l.contains x then byte (s.fld (Reg.PX_LOAD_STATUS (pxc x) (pxi x)) Fld.PX_LOAD_STATUS_CODE)
      else 0))

/-- PX_LOAD requests of a function whose loads have ended are answered. -/
def State.hawkSettle (s : State) (f : Nat) : State :=
  (s.fw.req.filter (fun r => r.fn == f && r.begun && !r.failed)).foldl (fun t r => t.loadAnswer r) s

/-- PX_LOAD. -/
def State.hawkLoad (s : State) (r : HawkReq) : State :=
  let l := maskCores (leAt r.payload 0 4)
  if !s.coresOwned r.part l then s.hawkEnd r 4 []
  else
    let pra := leAt r.payload 8 8
    let v : Word := BitVec.ofNat 32 (1 + 16 * byteAt r.payload 16)
    let (s, bad) := l.foldl (fun a x =>
      let t := a.1.setReg64 (Reg.PX_IMG_PRA_LO (pxc x) (pxi x)) (Reg.PX_IMG_PRA_HI (pxc x) (pxi x)) pra
      let (t, no) := t.hawkPx x v
      (t, if no then a.2 ++ [x] else a.2)) (s, ([] : List Nat))
    let r' := { r with begun := true, loads := l.filter (fun x => !bad.contains x), rejected := bad }
    ({ s with fw := { s.fw with req := s.fw.req.map (fun q => if q = r then r' else q) } }).loadAnswer r'

/-- PX_CONTROL. -/
def State.hawkControl (s : State) (r : HawkReq) : State :=
  let l := maskCores (leAt r.payload 0 4)
  if !s.coresOwned r.part l then s.hawkEnd r 4 []
  else
    let cmd := byteAt r.payload 4
    let bit := if cmd = 1 then 2 else if cmd = 2 then 8 else 4
    let (s, bad) := l.foldl (fun a x =>
      let auto := a.1.fld (Reg.PX_CTRL (pxc x) (pxi x)) Fld.PX_CTRL_AUTORESTART
      let (t, no) := a.1.hawkPx x (BitVec.ofNat 32 (bit + 16 * auto))
      (t, if no then a.2 ++ [x] else a.2)) (s, ([] : List Nat))
    s.hawkEnd r 0 (le 4 (bitSum bad) ++ le 4 0)

/-- DMA_CHANNEL. -/
def State.hawkDma (s : State) (r : HawkReq) : State :=
  let d := r.payload
  let e := byteAt d 0
  let k := byteAt d 1
  let n := leAt d 20 4
  let unit := bitsOf n 1 6
  let target := if n.testBit 0 then s.clOwner (unit / 2) == some r.part else s.vfPart unit == some r.part
  if s.dmaOwner e ≠ some r.part || !target then s.hawkEnd r 4 []
  else
    let s := s.setReg64 (Reg.DMA_CH_RING_LO e k) (Reg.DMA_CH_RING_HI e k) (leAt d 4 8)
    let s := s.setReg64 (Reg.DMA_CH_CQ_LO e k) (Reg.DMA_CH_CQ_HI e k) (leAt d 12 8)
    let s := s.setReg (Reg.DMA_CH_NOTIFY e k) (BitVec.ofNat 32 n)
    (s.dmaCfg e k (BitVec.ofNat 32 (byteAt d 2 + 16 * byteAt d 3))).hawkEnd r 0 []

/-- The rule that an index of a partition's share names. -/
def State.ruleOf (s : State) (p i : Nat) : Nat := s.fld (Reg.ETH_RULE_SHARE p) Fld.ETH_RULE_SHARE_FIRST + i

/-- RULE_INSTALL: the comparator words, then the control word with VALID. -/
def State.hawkRule (s : State) (r : HawkReq) : State :=
  let d := r.payload
  let n := s.ruleOf r.part (leAt d 0 2)
  if s.flag (Reg.ETH_RULE_CTRL n) Fld.ETH_RULE_CTRL_VALID then s.hawkEnd r 5 []
  else
    let s := [0, 1, 2, 3].foldl (fun t i =>
      let w (off : Nat) : Word := BitVec.ofNat 32 (leAt d (off + 12 * i) 4)
      ((t.ruleWord n (Reg.ETH_RULE_SEL n i) (w 4)).ruleWord n (Reg.ETH_RULE_LOW n i) (w 8)).ruleWord n (Reg.ETH_RULE_HIGH n i) (w 12)) s
    let a := byteAt d 2
    (s.ruleCtrl n (BitVec.ofNat 32 (1 + a % 4 * 2 + a / 4 * 8 + byteAt d 3 * 256))).hawkEnd r 0 []

/-- RULE_REMOVE. -/
def State.hawkUnrule (s : State) (r : HawkReq) : State :=
  (s.setFld (Reg.ETH_RULE_CTRL (s.ruleOf r.part (leAt r.payload 0 2))) Fld.ETH_RULE_CTRL_VALID 0).hawkEnd r 0 []

/-- CHECKPOINT_NOW (R536, R538). -/
def State.hawkCkpt (s : State) (r : HawkReq) : State :=
  let p := r.part
  let off := !s.flag (Reg.CK_CTRL p) Fld.CK_CTRL_EN
  let s := s.ckTrigger p
  let held := !off && s.flag (Reg.CK_STATUS p) Fld.CK_STATUS_TRIGGER_HELD
  s.hawkEnd r 0 (le 1 ((if held then 1 else 0) + if off then 2 else 0) ++ zeros 3)

/-- CHECKPOINT_STATUS. -/
def State.hawkCkStatus (s : State) (r : HawkReq) : State :=
  let p := r.part
  let st := Reg.CK_STATUS p
  let flags := s.fld st Fld.CK_STATUS_TRIGGER_HELD + 2 * s.fld st Fld.CK_STATUS_BASE_NEXT + 4 * s.fld st Fld.CK_STATUS_REMOTE_STALE
  s.hawkEnd r 0 (le 1 (s.fld st Fld.CK_STATUS_PHASE) ++ le 1 (s.fld st Fld.CK_STATUS_LAST_RESULT) ++ le 1 flags ++ le 1 0
    ++ le 4 (s.reg (Reg.CK_DIRTY p)).toNat ++ le 8 (s.reg64 (Reg.CK_LAST_GEN_LO p) (Reg.CK_LAST_GEN_HI p))
    ++ le 8 (s.reg64 (Reg.CK_GEN_LO p) (Reg.CK_GEN_HI p)) ++ le 4 (s.reg (Reg.CK_PROGRESS p)).toNat ++ le 4 0)

/-- ATTEST (R504–R506, R568): SV0 sets the nonce, has the report made and signed, and copies both out; it waits while
another report is in progress. A copy that memory fails completes with RETRY. -/
def State.hawkAttest (s : State) (r : HawkReq) : State :=
  if s.flag Reg.CPH_ATT_STATUS Fld.CPH_ATT_STATUS_BUSY then s
  else
    let dev := r.part == 0x40
    let s := (List.range 8).foldl (fun t i => t.setReg (Reg.CPH_ATT_NONCE i) (BitVec.ofNat 32 (leAt r.payload (4 * i) 4))) s
    let s := s.journal (.sv 0) Reg.CPH_ATT_CTRL 0 (BitVec.ofNat 32 (2 ^ 31 + if dev then 16 else r.part)) false s.orbitN
    let rep := s.attReport dev (if dev then 0 else r.part)
    let s := s.cphQueue deviceShare Client.device true 384
    let sig := fixLen 49856 (Config.slhSign idKey (ascii "RLQ74-ATTEST") rep)
    let (s, st) := s.writeBytes (if dev then .svc else .part r.part) (leAt r.payload 32 8) (rep ++ sig)
    s.hawkEnd r (if st.good then 0 else 6) []

/-- HAWK_RESPONSE_WRITE (R571): the oldest completed response of a function, and vector 0. -/
def State.hawkRespond (s : State) (f : Nat) : State :=
  let s := s.hawkSettle f
  match s.fw.rsp.find? (fun e => e.1 == f) with
  | none => s
  | some e =>
    if s.flag (hawkStatus f) Fld.HAWK_STATUS_RESP_READY || !s.coreRuns (if f = 0 then 32 else 33) then s
    else
      let s := { s with fw := { s.fw with rsp := s.fw.rsp.erase e } }
      let s := (List.range ((e.2.length + 3) / 4)).foldl (fun t w => t.setReg (hawkRspKey f w) (BitVec.ofNat 32 (leAt e.2 (4 * w) 4))) s
      (s.setFld (hawkStatus f) Fld.HAWK_STATUS_RESP_READY 1).msix f 0

/-! Events (R572). -/

/-- The event ring's registers of a function: head, tail, lost. -/
def evtRegs (f : Nat) : Nat × Nat × Nat :=
  if f = 0 then (Reg.HAWK_EVT_HEAD, Reg.HAWK_EVT_TAIL, Reg.HAWK_EVT_LOST)
  else (Reg.VF_HAWK_EVT_HEAD (f - 1), Reg.VF_HAWK_EVT_TAIL (f - 1), Reg.VF_HAWK_EVT_LOST (f - 1))

/-- An event written to a function's ring, or lost where the ring is full: 31 entries lie between head and tail. -/
def State.evtWrite (s : State) (f : Nat) (b : Bytes) : State :=
  let (hk, tk, lk) := evtRegs f
  let tail := s.fld tk Fld.HAWK_EVT_TAIL_TAIL
  if (tail + 1) % 32 = s.fld hk Fld.HAWK_EVT_HEAD_HEAD then s.bump lk Fld.HAWK_EVT_LOST_COUNT
  else
    let key (w : Nat) : Nat := if f = 0 then Reg.HAWK_EVT_RING w else Reg.VF_HAWK_EVT_RING (f - 1) w
    let s := (List.range 16).foldl (fun t w => t.setReg (key (16 * tail + w)) (BitVec.ofNat 32 (leAt b (4 * w) 4))) s
    (s.setFld tk Fld.HAWK_EVT_TAIL_TAIL ((tail + 1) % 32)).msix f 0

/-- The virtual functions that an event goes to: those bound to its partition; of each mirrored partition for PAIR_LOSS; of
each partition of its bitmap for REMOVAL_PENDING; none for ROLE_RESTARTED. -/
def State.evtVfs (s : State) (e : HawkEvt) : List Nat :=
  (List.range 64).filter (fun v =>
    match s.vfPart v with
    | none => false
    | some p =>
      if e.code = 6 then false
      else if e.code = 7 then s.isMirrored p
      else if e.code = 8 then (leAt e.detail 0 2).testBit p
      else p == e.part.val)

/-- An entry of an event ring. -/
def State.evtBytes (s : State) (e : HawkEvt) (part : Nat) : Bytes :=
  padTo 64 (le 2 e.code.toNat ++ le 1 part ++ le 1 0 ++ le 8 s.orbitN ++ e.detail)

/-- HAWK_EVENT: the first such event that waits goes to PF0 and to its virtual functions. -/
def State.hawkEvent (s : State) (e : HawkEvt) : State :=
  if !s.fw.events.contains e || !s.coreRuns 39 then s
  else
    let s := { s with fw := { s.fw with events := s.fw.events.erase e } }
    let dev := 6 ≤ e.code.toNat
    let s := s.evtWrite 0 (s.evtBytes e (if dev then 0x40 else e.part.val))
    (s.evtVfs e).foldl (fun t v => t.evtWrite (v + 1) (s.evtBytes e (if dev then (s.vfPart v).getD 0 else e.part.val))) s

/-! Watchdog and restart (R562–R564). -/

/-- WATCHDOG_EXPIRY. -/
def State.wdogExpiry (s : State) (i : Nat) : State :=
  if s.coreRuns (32 + i) && decide (4 ≤ s.fld (Reg.SV_WDOG i) Fld.SV_WDOG_COUNT) then s.svRestart i 2 0 else s

/-- The watchdog counts of a mark. -/
def State.wdogMark (s : State) : State :=
  (List.range 8).foldl (fun t i =>
    let n := t.fld (Reg.SV_WDOG i) Fld.SV_WDOG_COUNT
    if t.coreRuns (32 + i) && decide (n < 4) then t.setFld (Reg.SV_WDOG i) Fld.SV_WDOG_COUNT (n + 1) else t) s

/-- A write of SV_CTRL. -/
def State.svCtrl (s : State) (src : Src) (i : Nat) (v : Word) : State :=
  let go := v.getLsbD 0 && !s.svDown i && s.svUp
  let s := s.journal src (Reg.SV_CTRL i) 0 v (!go) s.orbitN
  if go then ({ s with fw := { s.fw with storm := Tab.erase s.fw.storm i } }).svRestart i 3 0 else s

/-- A core left HALTED (R564): requests of its role complete with UNAVAILABLE. -/
def State.svStay (s : State) (i cause : Nat) : State :=
  let s := (s.setFld (Reg.SV_STATUS i) Fld.SV_STATUS_STATE 2).setFld (Reg.SV_CAUSE i) Fld.SV_CAUSE_CAUSE cause
  let s := s.alarmFree 6 (Unit.sv i) cause 0
  (s.fw.req.filter (fun r => hawkRole r.fn r.op == i)).foldl (fun t r => t.hawkEnd r 7 []) s

/-- SV_RESTART_COMPLETE (R563, R564): the digest checked, the core loaded and running; requests that the stop interrupted
complete with RETRY, PF0 is told, and SV7 acts on what the panel latched. -/
def State.svRestarted (s : State) (i : Nat) : State :=
  if !s.svDown i || s.wrDrops || !s.pwr.on then s
  else
    let fw := ((s.boot.secs.find? (fun e => e.1 == 5)).map Prod.snd).getD []
    if fixLen 64 (Config.shake fw 64) ≠ fixLen 64 s.cph.mFirmware then s.svStay i 4
    else
      let recent := (Tab.get (fun _ => []) s.fw.storm i).filter (fun o => decide (s.orbitN < o + 2 ^ 20))
      if 8 ≤ recent.length then s.svStay i 5
      else
        let cause := s.fld (Reg.SV_CAUSE i) Fld.SV_CAUSE_CAUSE
        let failed := s.fw.req.filter (fun r => r.failed && hawkRole r.fn r.op == i)
        let s := failed.foldl (fun t r => t.hawkEnd r 6 []) (s.svLoad i)
        let s := s.raiseEvent 6 0 (le 1 i ++ le 1 cause ++ le 4 failed.length)
        if i = 7 then s.panelTodo else s

/-! The log ring's window (R573, R575). -/

/-- An entry as the 64 bytes of its slot. -/
def LogEntry.bytes (e : LogEntry) : Bytes :=
  le 1 (e.cls % 16) ++ le 1 e.src ++ le 1 e.record.length ++ le 5 e.orbit ++ padTo 56 e.record

/-- A read of LOG_DATA[0]: the selected slot's entry and sequence number latched. -/
def State.logLatch (s : State) : State :=
  let slot := s.fld Reg.LOG_RD_INDEX Fld.LOG_RD_INDEX_INDEX
  let e := s.log.ring.find? (fun x => x.1 == slot)
  let b := (e.map (fun x => x.2.bytes)).getD (zeros 64)
  let q := (e.map (fun x => x.2.seq)).getD 0
  let s := (List.range 16).foldl (fun t w => t.setReg (Reg.LOG_DATA w) (BitVec.ofNat 32 (leAt b (4 * w) 4))) s
  s.setReg64 Reg.LOG_ENTRY_SEQ_LO Reg.LOG_ENTRY_SEQ_HI q

/-- What a register read answered, kept. -/
def State.answered (s : State) (w : Word) : State := { s with latch := { s.latch with last := some w } }

/-- A read of LOG_DATA[0], and one of LOG_DATA[15], which moves the index on. -/
def State.logRead0 (s : State) : State :=
  let s := s.logLatch
  s.answered (s.reg (Reg.LOG_DATA 0))

def State.logRead15 (s : State) : State :=
  let s := s.answered (s.reg (Reg.LOG_DATA 15))
  s.setFld Reg.LOG_RD_INDEX Fld.LOG_RD_INDEX_INDEX (s.fld Reg.LOG_RD_INDEX Fld.LOG_RD_INDEX_INDEX + 1)

/-! The commands. -/

/-- HAWK_SUBMIT (R376). -/
def execHawkSubmit (f : Fn) (v : Word) (s : State) : Host.Outcome State Fault Refusal :=
  match f with
  | .pf => s.answer (s.hostGate .pf0 Reg.HAWK_CTRL v (fun t => t.hawkSubmit 0 v))
  | .vf n => s.answer (s.vfGate (fun t => t.hawkSubmit (n + 1) v))

/-- HAWK_TAKE (R571). -/
def execHawkTake (f : Fn) (s : State) : Host.Outcome State Fault Refusal :=
  s.answer (s.unitAct (fun s => s.hawkTake (fnIdx f)))

/-- GET_INFO (R569). -/
def execGetInfo (f : Fn) (s : State) : Host.Outcome State Fault Refusal :=
  s.answer (s.unitAct (fun s => s.hawkServe (fnIdx f) 0x01 (fun t r => t.hawkEnd r 0 (t.infoBytes r.part r.minor))))

/-- PX_LOAD_REQUEST (R569): a new request is begun, and those whose loads have ended are answered. -/
def execPxLoadRequest (f : Fn) (s : State) : Host.Outcome State Fault Refusal :=
  s.answer (s.unitAct (fun s => (s.hawkServe (fnIdx f) 0x10 State.hawkLoad).hawkSettle (fnIdx f)))

/-- PX_CONTROL (R569). -/
def execPxControl (f : Fn) (s : State) : Host.Outcome State Fault Refusal :=
  s.answer (s.unitAct (fun s => s.hawkServe (fnIdx f) 0x11 State.hawkControl))

/-- DMA_CHANNEL (R569). -/
def execDmaChannel (f : Fn) (s : State) : Host.Outcome State Fault Refusal :=
  s.answer (s.unitAct (fun s => s.hawkServe (fnIdx f) 0x20 State.hawkDma))

/-- RULE_INSTALL (R569). -/
def execRuleInstall (f : Fn) (s : State) : Host.Outcome State Fault Refusal :=
  s.answer (s.unitAct (fun s => s.hawkServe (fnIdx f) 0x30 State.hawkRule))

/-- RULE_REMOVE (R569). -/
def execRuleRemove (f : Fn) (s : State) : Host.Outcome State Fault Refusal :=
  s.answer (s.unitAct (fun s => s.hawkServe (fnIdx f) 0x31 State.hawkUnrule))

/-- CHECKPOINT_NOW (R569). -/
def execCheckpointNow (f : Fn) (s : State) : Host.Outcome State Fault Refusal :=
  s.answer (s.unitAct (fun s => s.hawkServe (fnIdx f) 0x40 State.hawkCkpt))

/-- CHECKPOINT_STATUS (R569). -/
def execCheckpointStatus (f : Fn) (s : State) : Host.Outcome State Fault Refusal :=
  s.answer (s.unitAct (fun s => s.hawkServe (fnIdx f) 0x41 State.hawkCkStatus))

/-- ATTEST (R568). -/
def execAttest (f : Fn) (s : State) : Host.Outcome State Fault Refusal :=
  s.answer (s.unitAct (fun s => s.hawkServe (fnIdx f) 0x50 State.hawkAttest))

/-- HAWK_RESPONSE_WRITE (R571). -/
def execHawkResponseWrite (f : Fn) (s : State) : Host.Outcome State Fault Refusal :=
  s.answer (s.unitAct (fun s => s.hawkRespond (fnIdx f)))

/-- HAWK_EVENT (R572). -/
def execHawkEvent (ev : HawkEvt) (s : State) : Host.Outcome State Fault Refusal :=
  s.answer (s.unitAct (fun s => s.hawkEvent ev))

/-- WATCHDOG_EXPIRY (R562). -/
def execWatchdogExpiry (i : Fin 8) (s : State) : Host.Outcome State Fault Refusal :=
  s.answer (s.unitAct (fun s => s.wdogExpiry i))

/-- SV_WDOG_KICK (R562). -/
def execSvWdogKick (src : Src) (i : Fin 8) (v : Word) (s : State) : Host.Outcome State Fault Refusal :=
  s.answer (s.hostGate src (Reg.SV_WDOG i) v (fun t =>
    if v.getLsbD 0 then t.setFld (Reg.SV_WDOG i) Fld.SV_WDOG_COUNT 0 else t))

/-- SV_CTRL_RESTART (R564). -/
def execSvCtrlRestart (src : Src) (i : Fin 8) (v : Word) (s : State) : Host.Outcome State Fault Refusal :=
  s.answer (s.hostGate src (Reg.SV_CTRL i) v (fun t => t.svCtrl src i v))

/-- SV_RESTART_COMPLETE (R563). -/
def execSvRestartComplete (i : Fin 8) (s : State) : Host.Outcome State Fault Refusal :=
  s.answer (s.unitAct (fun s => s.svRestarted i))

/-- LOG_DATA_LATCH_READ (R575). -/
def execLogDataLatchRead (_src : Src) (s : State) : Host.Outcome State Fault Refusal := s.answer (if s.pwr.on then s.logRead0 else s)

/-- LOG_DATA_ADVANCE_READ (R575). -/
def execLogDataAdvanceRead (_src : Src) (s : State) : Host.Outcome State Fault Refusal := s.answer (if s.pwr.on then s.logRead15 else s)

end Sys2Proof.Machine
end

