-- ==== Sys2Proof/Machine/PartSave.lean ====
section
/-! DEFINITION. Save and restore of a frozen partition's clusters and DMA engines (R404–R408). The spec gives the areas of
an image and what each holds, not the bytes of a core's, an engine's and a channel's state within them: those are free
functions in both directions. -/

namespace Sys2Proof

/-- The bytes of a core's instruction memory and state in an image, and the core that bytes stand for. -/
opaque Config.coreImage : Machine.CoreSt → Bytes
opaque Config.coreOfImage : Bytes → Machine.CoreSt
/-- The bytes of an engine's state, and the engine that bytes stand for. -/
opaque Config.engImage : Machine.EngSt → Bytes
opaque Config.engOfImage : Bytes → Machine.EngSt
/-- The bytes of the table sets of a cluster, and the sets that bytes stand for. -/
opaque Config.tabImage : List (Option Machine.TrwSet) → Bytes
opaque Config.tabOfImage : Bytes → List (Option Machine.TrwSet)
/-- The bytes of a DMA engine's channel state, and the engine that bytes stand for. -/
opaque Config.dmaImage : Machine.DmaSt → Bytes
opaque Config.dmaOfImage : Bytes → Machine.DmaSt
/-- The bytes of a run of registers that belong to a saved unit, and their words. -/
opaque Config.regImage : List Word → Bytes
opaque Config.regOfImage : Bytes → List Word

namespace Machine

/-- The size of a partition's image in 4 KiB units. -/
def State.srUnits (s : State) (p : Nat) : Nat := 1 + 3328 * (s.clustersOf p).length + 16 * (s.dmasOf p).length

/-- The place of cluster `i` and of DMA engine `j` in an image. -/
def clusterOff (i : Nat) : Nat := 4096 + 13 * 2 ^ 20 * i
def dmaOff (n j : Nat) : Nat := 4096 + 13 * 2 ^ 20 * n + 65536 * j

/-- Registers of a cluster that belong to its saved state, by area: bank owners; of a core, its state and its doorbells; of
an engine, its counters and its LFSR. -/
def ownRegs (c : Nat) : List Nat := (List.range 24).map (Reg.SCR_OWN c)
def coreRegs (x : Nat) : List Nat := Reg.PX_STATE (pxc x) (pxi x) :: (List.range 8).map (Reg.PX_DBELL (pxc x) (pxi x))
def engRegs (e : Nat) : List Nat :=
  [Reg.ENG_LFSR_LO (e / 4) (e % 4), Reg.ENG_LFSR_HI (e / 4) (e % 4)] ++ (List.range 16).map (Reg.ENG_CC (e / 4) (e % 4))

/-- The word of a run of registers saved, and put back. -/
def State.saveRegs (s : State) (l : List Nat) : Bytes := Config.regImage (l.map s.reg)
def State.loadRegs (s : State) (l : List Nat) (b : Bytes) : State :=
  (l.zip (Config.regOfImage b)).foldl (fun t e => t.setReg e.1 e.2) s

/-- The header of an image: magic, version, clusters, DMA engines, enable bits of each cluster's engines, orbit. -/
def State.srHeader (s : State) (p : Nat) : Bytes :=
  let cls := s.clustersOf p
  let en (c : Nat) : Nat := ((List.range 4).map (fun i => if s.flag (Reg.ENG_STATUS c i) Fld.ENG_STATUS_ENABLED then 2 ^ i else 0)).sum
  fixLen 4096 (le 4 0x4C534156 ++ le 4 1 ++ le 4 cls.length ++ le 4 (s.dmasOf p).length
    ++ fixLen 16 ((cls.map (fun c => le 1 (en c))).flatten) ++ le 8 s.orbitN)

/-- Words of a cluster's scratch read out: the bytes, and the code of the first that fails. -/
def State.scrDump (s : State) (c : Nat) : Nat → Nat → State × Bytes × Option Nat
  | 0, _ => (s, [], none)
  | k + 1, w =>
    let (s, st, d) := s.scrGet c w
    if st.good then
      let (s, b, f) := State.scrDump s c k (w + 1)
      (s, d ++ b, f)
    else (s, [], some st.code)

/-- A cluster's area of an image, 13 MiB. -/
def State.clusterImage (s : State) (c : Nat) : State × Bytes × Option Nat :=
  let (s, b, f) := s.scrDump c 196608 0
  let core (x : Nat) : Bytes := fixLen 147456 (Config.coreImage (s.core x) ++ s.saveRegs (coreRegs x))
  let eng (e : Nat) : Bytes := fixLen 16384 (Config.engImage (s.engine e) ++ s.saveRegs (engRegs e))
  let tabs := (List.range 16).map (fun t => Tab.get (fun _ => none) s.trw (16 * c + t))
  let rest := s.saveRegs (ownRegs c) ++ core (2 * c) ++ core (2 * c + 1) ++ eng (4 * c) ++ eng (4 * c + 1) ++ eng (4 * c + 2)
    ++ eng (4 * c + 3) ++ Config.tabImage tabs
  (s, fixLen (13 * 2 ^ 20) (b ++ rest), f)

/-- Areas written one after another; the R94 code of the first line that fails. -/
def State.srPut (s : State) (p a : Nat) (d : Bytes) : State × Option Nat :=
  let (s, st) := s.writeBytes (.part p) a d
  (s, if st.good then none else some st.code)

/-- The clusters of a save. -/
def State.saveClusters (s : State) (p a : Nat) : List Nat → Nat → State × Option Nat
  | [], _ => (s, none)
  | c :: t, i =>
    let (s, d, f) := s.clusterImage c
    match f with
    | some code => (s, some code)
    | none =>
      match s.srPut p (a + clusterOff i) d with
      | (s, some code) => (s, some code)
      | (s, none) => State.saveClusters s p a t (i + 1)

/-- The DMA engines of a save. -/
def State.saveDmas (s : State) (p a n : Nat) : List Nat → Nat → State × Option Nat
  | [], _ => (s, none)
  | e :: t, j =>
    match s.srPut p (a + dmaOff n j) (fixLen 65536 (Config.dmaImage (s.dmaEng e))) with
    | (s, some code) => (s, some code)
    | (s, none) => State.saveDmas s p a n t (j + 1)

/-- A save carried out (R405, R408): clusters, DMA engines, and the header last. -/
def State.saveRun (s : State) (p a : Nat) : State :=
  let cls := s.clustersOf p
  match s.saveClusters p a cls 0 with
  | (s, some f) => s.srEnd (0x10 + f)
  | (s, none) =>
    match s.saveDmas p a cls.length (s.dmasOf p) 0 with
    | (s, some f) => s.srEnd (0x10 + f)
    | (s, none) =>
      match s.srPut p a (s.srHeader p) with
      | (s, some f) => s.srEnd (0x10 + f)
      | (s, none) => s.srEnd 0

/-- A descriptor whose named orbit is moved on (R407). -/
def shiftDesc (delta : Nat) (d : List Word) : List Word :=
  if dTimed d then
    d.modify 13 (fun w => BitVec.ofNat 32 ((w.toNat % 2 ^ 24 + delta) % 2 ^ 24 + w.toNat / 2 ^ 24 * 2 ^ 24))
  else d

/-- A wait whose named orbit is moved on. -/
def shiftWait (delta : Nat) : Stall → Stall
  | .wait (.orbitSlot o sl) pd limit => .wait (.orbitSlot ((o + delta) % 2 ^ 48) sl) pd limit
  | x => x

/-- A cluster taken from its area of an image. -/
def State.clusterLoad (s : State) (c delta : Nat) (b : Bytes) : State :=
  let s := (List.range 196608).foldl (fun t w => t.scrPut c w (slice b (64 * w) 64)) s
  let rest := b.drop (12 * 2 ^ 20)
  let core (t : State) (i : Nat) : State :=
    let x := 2 * c + i
    let area := slice rest (65536 + 147456 * i) 147456
    let n := Config.coreOfImage area
    (t.setCore x { n with stall := shiftWait delta n.stall }).loadRegs (coreRegs x) area
  let eng (t : State) (i : Nat) : State :=
    let e := 4 * c + i
    let area := slice rest (65536 + 294912 + 16384 * i) 16384
    let n := Config.engOfImage area
    (t.setEngine e { n with queue := n.queue.map (shiftDesc delta), run := none, drain := none, fetch := none }).loadRegs (engRegs e) area
  let s := s.loadRegs (ownRegs c) rest
  let s := [0, 1].foldl core s
  let s := [0, 1, 2, 3].foldl eng s
  let tabs := Config.tabOfImage (rest.drop (65536 + 294912 + 65536))
  { s with trw := (List.range 16).foldl (fun t k => Tab.set (fun _ => none) t (16 * c + k) (tabs.getD k none)) s.trw }

/-- A restore carried out (R407): the whole image is read before anything is changed. -/
def State.restoreRun (s : State) (p a orbit : Nat) : State :=
  let cls := s.clustersOf p
  let dmas := s.dmasOf p
  let (s, st, b) := s.readBytes (.part p) a (4096 * s.srUnits p)
  if !st.good then s.srEnd (0x10 + st.code)
  else
    let delta := (s.orbitN + 2 ^ 48 - orbit) % 2 ^ 48
    let s := (cls.zipIdx).foldl (fun t e => t.clusterLoad e.1 delta (slice b (clusterOff e.2) (13 * 2 ^ 20))) s
    let s := (dmas.zipIdx).foldl (fun t e =>
      t.setDma e.1 { Config.dmaOfImage (slice b (dmaOff cls.length e.2) 65536) with run := none }) s
    s.srEnd 0

/-- Why a restore's header is refused, or the orbit of its save (R407). -/
def State.headerCheck (s : State) (p a : Nat) : State × (Nat ⊕ Nat) :=
  let (s, st, h) := s.readBytes (.part p) a 64
  if !st.good then (s, .inl (0x10 + st.code))
  else if leAt h 0 4 ≠ 0x4C534156 ∨ leAt h 4 4 ≠ 1 then (s, .inl 4)
  else if leAt h 8 4 ≠ (s.clustersOf p).length ∨ leAt h 12 4 ≠ (s.dmasOf p).length then (s, .inl 5)
  else if slice h 16 16 ≠ slice (s.srHeader p) 16 16 then (s, .inl 6)
  else (s, .inr (leAt h 32 6))

/-- A write of PT_SR_CTRL (R404). -/
def State.srCtrl (s : State) (src : Src) (v : Word) : State :=
  let p := bitsOf v.toNat 0 4
  let op := bitsOf v.toNat 4 2
  let a := s.reg64 Reg.PT_SR_ADDR_LO Reg.PT_SR_ADDR_HI
  let s := s.journal src Reg.PT_SR_CTRL 0 v false s.orbitN
  let s := s.setFld Reg.PT_SR_SIZE Fld.PT_SR_SIZE_UNITS (s.srUnits p)
  let refuse (r : Nat) : State := s.setFld Reg.PT_SR_STATUS Fld.PT_SR_STATUS_RESULT r
  if !v.getLsbD 31 then s
  else if op = 0 ∨ op = 3 then refuse 7
  else if !s.isFrozen p then refuse 1
  else if s.pt.sr.isSome then refuse 2
  else if a % 4096 ≠ 0 ∨ s.spaceSize (.part p) < a + 4096 * s.srUnits p then refuse 3
  else if op = 1 then
    match s.srPut p a (zeros 4) with
    | (s, some f) => s.setFld Reg.PT_SR_STATUS Fld.PT_SR_STATUS_RESULT (0x10 + f)
    | (s, none) => ({ s with pt := { s.pt with sr := some ⟨p, false, a, s.orbitN⟩ } }).setFld Reg.PT_SR_STATUS Fld.PT_SR_STATUS_BUSY 1
  else
    match s.headerCheck p a with
    | (s, .inl r) => s.setFld Reg.PT_SR_STATUS Fld.PT_SR_STATUS_RESULT r
    | (s, .inr o) => ({ s with pt := { s.pt with sr := some ⟨p, true, a, o⟩ } }).setFld Reg.PT_SR_STATUS Fld.PT_SR_STATUS_BUSY 1

/-- SAVE_RESTORE_END (R406). -/
def State.srDone (s : State) : State :=
  match s.pt.sr with
  | some r => if r.restore then s.restoreRun r.part r.addr r.orbit else s.saveRun r.part r.addr
  | none => s

/-! The commands. -/

/-- PARTITION_SAVE (R405): a write of PT_SR_CTRL. -/
def execPartitionSave (src : Src) (v : Word) (s : State) : Host.Outcome State Fault Refusal :=
  s.answer (s.hostGate src Reg.PT_SR_CTRL v (fun s => s.srCtrl src v))

/-- PARTITION_RESTORE (R407): a write of PT_SR_CTRL. -/
def execPartitionRestore (src : Src) (v : Word) (s : State) : Host.Outcome State Fault Refusal :=
  s.answer (s.hostGate src Reg.PT_SR_CTRL v (fun s => s.srCtrl src v))

/-- SAVE_RESTORE_END (R406). -/
def execSaveRestoreEnd (s : State) : Host.Outcome State Fault Refusal := s.answer (s.unitAct (fun s => s.srDone))

end Machine

end Sys2Proof
end

