-- ==== Sys2Proof/Machine/RegWrite.lean ====
section
/-! DEFINITION. A register access as such: what a write of any register does (R12–R18, R394), what a read answers, and
the capability lists (R371–R374). Every path into the registers comes through here. -/

namespace Sys2Proof.Machine

/-! Plain writes under the access codes (R15, R16). -/

/-- A register's word with one field written. -/
def Fld.written (f : Fld) (v w : Word) : Word :=
  match f.acc with
  | .rw => f.put w (f.get v)
  | .w1c => w &&& ~~~(v &&& f.mask)
  | .w1s => w ||| (v &&& f.mask)
  | .ro => w
  | .wo => w
  | .rc => w

/-- A register's word with all its fields written: reserved bits and read-only fields stay. -/
def wordWritten (fs : List Fld) (v old : Word) : Word := fs.foldl (fun w f => f.written v w) old

/-- A write under the access codes; a writable _LO is held until its _HI is written, and both take effect together (R14). -/
def State.regPut (s : State) (r : RegRow) (k : Nat) (v : Word) : State :=
  match r.half with
  | .whole => s.setReg k (wordWritten r.flds v (s.reg k))
  | .lo _ =>
    if r.flds.any (fun f => decide (f.acc = .rw)) then
      { s with latch := { s.latch with heldLo := Tab.ins s.latch.heldLo k v } }
    else s.setReg k (wordWritten r.flds v (s.reg k))
  | .hi d =>
    let s := match s.latch.heldLo.find? (fun e => e.1 == k - d) with
      | some (j, w) =>
        ({ s with latch := { s.latch with heldLo := Tab.erase s.latch.heldLo j } }).setReg j (wordWritten (fldsAt j) w (s.reg j))
      | none => s
    s.setReg k (wordWritten r.flds v (s.reg k))

/-- Whether no field of a register takes a write. -/
def RegRow.readOnly (r : RegRow) : Bool := r.flds.all (fun f => decide (f.acc = .ro) || decide (f.acc = .rc))

/-- A write of a register without an effect of its own, journalled where R394 says so. -/
def State.plainWrite (s : State) (src : Src) (r : RegRow) (k : Nat) (v : Word) : State :=
  let old := s.reg k
  let t := s.regPut r k v
  if journalled k then t.journal src k old v r.readOnly s.orbitN else t

/-! Cluster registers (R117, R140, R168, R219, R259). -/

/-- A write of a scratch or cluster register by the management plane or a prep core of the cluster. -/
def State.clWrite (s : State) (w : ClWriter) (r : RegRow) (ix : List Nat) (k : Nat) (v : Word) : State :=
  let c := ix.headD 0
  let j := ix.getD 1 0
  let i := ix.getD 2 0
  let b := r.base
  if b = Reg.SCR_OWN 0 0 then s.scrOwnWrite c j v
  else if b = Reg.SCR_INIT_CMD then s.scrInitCmd v
  else if b = Reg.ENG_CMD 0 0 0 then
    match w with
    | .mgmt _ => if i = 15 then s.engStaged (4 * c + j) v else s.setReg k v
    | .px _ => (s.engWindow (4 * c + j) (le 4 v.toNat)).1
  else if b = Reg.ENG_CTRL 0 0 then
    let s := if v.getLsbD 0 then s.engFlush (4 * c + j) else s
    if v.getLsbD 1 then s.engPop (4 * c + j) else s
  else if b = Reg.TRW_TCTL 0 0 then s.trwTctlWrite c j v
  else if b = Reg.PX_CTRL 0 0 then s.pxCtrl w (2 * c + j) v
  else if b = Reg.PX_DBELL 0 0 0 then s.dbellSet (2 * c + j) i v
  else s.regPut r k v

/-- The key of a control-window offset of cluster `c` (R247). -/
def winKey (c off : Nat) : Option Nat :=
  if off < 0x1000 then some (Reg.SCR_OWN 0 0 + c * 0x1000 + off)
  else if (0x40000 ≤ off ∧ off < 0x50000) ∨ (0x60000 ≤ off ∧ off < 0x62000) then some (0x01000000 + c * 0x80000 + off)
  else none

/-- A prep core's 4-byte write in its control window (R247, R248). -/
def State.winWrite (s : State) (x off : Nat) (v : Word) : State :=
  match winKey (pxc x) off with
  | none => s
  | some k =>
    match regAt k with
    | some (r, ix) => s.clWrite (.px (Fin.ofNat 2 x)) r ix k v
    | none => s

/-! Writes of the management plane with effects of their own, by block. -/

/-- The orbit, fabric and partition blocks (R60–R63, R80, R103, R107, R379–R404). -/
def State.writeCore (s : State) (src : Src) (r : RegRow) (i k : Nat) (v : Word) : State :=
  let b := r.base
  if b = Reg.EPH_CTRL then s.ephCommit src v
  else if b = Reg.EPH_MODE then s.ephModeWrite src v
  else if b = Reg.EPH_SLOT 0 then s.ephSlotWrite src i v
  else if b = Reg.MF_HASH_KEY 0 then s.hashKeyWrite src i v
  else if b = Reg.MF_SPARE_CMD then s.spareCmd src v
  else if b = Reg.MF_INIT_CMD then s.initCmd src v
  else if b = Reg.PT_CTRL then s.mapCommit src v
  else if b = Reg.PT_MAP 0 then s.mapWrite src i v
  else if b = Reg.PT_EPOCH 0 then s.epochWrite src i v
  else if b = Reg.PT_DEBUG 0 then s.debugWrite src i v
  else if b = Reg.PT_RESET then s.ptResetWrite src v
  else if b = Reg.PT_FREEZE then s.freezeWrite src v
  else if b = Reg.PT_THAW then s.thawWrite src v
  else if b = Reg.PT_SR_CTRL then s.srCtrl src v
  else if b = Reg.MSIX_CTRL 0 then (s.plainWrite src r k v).msixUnmask 0 i
  else s.plainWrite src r k v

/-- The Ethernet, SRMT, Tether and DMA blocks (R339, R411, R420, R471–R474, R610). -/
def State.writeLinks (s : State) (src : Src) (r : RegRow) (i j k : Nat) (v : Word) : State :=
  let b := r.base
  if b = Reg.ETH_CTRL then s.ethCtrl v
  else if b = Reg.ETH_RULE_CTRL 0 then s.ruleCtrl i v
  else if b = Reg.ETH_RULE_SEL 0 0 then s.ruleWord i k (v &&& 0x1F)
  else if b = Reg.ETH_RULE_LOW 0 0 ∨ b = Reg.ETH_RULE_HIGH 0 0 then s.ruleWord i k v
  else if b = Reg.TL_CTRL 0 then
    let s := s.plainWrite src r k v
    if v.getLsbD 1 then s.portLoss i else s
  else if b = Reg.PAIR_HANDOVER then s.handover src v
  else if b = Reg.DMA_CH_CFG 0 0 then s.dmaCfg i j v
  else if b = Reg.DMA_CH_DB 0 0 then
    let s := if v.getLsbD 0 then s.dmaPollCh i j else s
    if v.getLsbD 1 then s.dmaResume (some src) i j else s
  else s.plainWrite src r k v

/-- The cipher, storage, checkpoint and telemetry blocks (R504, R528, R530, R536–R551, R619–R645). -/
def State.writeServices (s : State) (src : Src) (r : RegRow) (i k : Nat) (v : Word) : State :=
  let b := r.base
  if b = Reg.CPH_ATT_CTRL then s.attCtrl src v
  else if b = Reg.STG_CTRL then (if v.getLsbD 0 then s.eject.ckAll else s)
  else if b = Reg.STG_NS_CTRL 0 then s.nsFormat i v
  else if b = Reg.CK_CTRL 0 then s.ckCtrl src i v
  else if b = Reg.CK_RANGE_LO 0 ∨ b = Reg.CK_RANGE_HI 0 then (s.plainWrite src r k v).ckRecount i
  else if b = Reg.CK_RST_CTRL 0 then s.ckRst src i v
  else if b = Reg.DBG_CTRL then s.dbgCtrl src v
  else if b = Reg.DBG_TIME_STEP then s.timeStep v
  else if b = Reg.DBG_DEC_CTRL then s.decCtrl src v
  else if b = Reg.DBG_CAP_HI 0 ∨ b = Reg.DBG_CAP_LEN 0 then (s.plainWrite src r k v).capCheck i
  else if b = Reg.DBG_REPLAY_CTRL 0 then s.replayGo src i v
  else s.plainWrite src r k v

/-- A write of a service core's MPU registers: its own is discarded while they are locked (R559). -/
def State.mpuWrite (s : State) (src : Src) (r : RegRow) (i k : Nat) (v : Word) : State :=
  let own : Bool := match src with
    | .sv n => n.val == i
    | _ => false
  if own && s.flag (Reg.SV_STATUS i) Fld.SV_STATUS_MPU_LOCKED then s.journal src k (s.reg k) v true s.orbitN
  else s.plainWrite src r k v

/-- The firmware and bring-up blocks (R376, R559–R564, R583–R591, R648–R655). -/
def State.writeBringUp (s : State) (src : Src) (r : RegRow) (i k : Nat) (v : Word) : State :=
  let b := r.base
  if b = Reg.SV_CTRL 0 then s.svCtrl src i v
  else if b = Reg.SV_WDOG 0 then (if v.getLsbD 0 then s.setFld (Reg.SV_WDOG i) Fld.SV_WDOG_COUNT 0 else s)
  else if b = Reg.SV_MPU_BASE 0 0 ∨ b = Reg.SV_MPU_LIMIT 0 0 ∨ b = Reg.SV_MPU_ATTR 0 0 then s.mpuWrite src r i k v
  else if b = Reg.HAWK_CTRL then s.hawkSubmit 0 v
  else if b = Reg.HAWK_REQ 0 then s.hawkWrite 0 i v
  else if b = Reg.BOOT_STAGE then s.stageNext v
  else if b = Reg.BOOT_CTRL then s.bootCtrl src v
  else if b = Reg.ECL_CTRL then s.eclGo src v
  else if b = Reg.FLASH_CMD then s.flashCmd src v
  else if b = Reg.FUSE_PROG_CTRL then s.fuseCtrl src v
  else if b = Reg.PANEL_CTRL then s.panelCtrl src v
  else if b = Reg.SPR_CL_CMD then s.clCmd src v
  else s.plainWrite src r k v

/-- A management-plane write of the register at a PF0 BAR0 offset; where no table lists one, it is discarded (R12). -/
def State.pfEffect (s : State) (src : Src) (k : Nat) (v : Word) : State :=
  match regAt k with
  | none => s
  | some (r, ix) =>
    let i := ix.headD 0
    if k < 0x00800000 then s.writeCore src r i k v
    else if k < 0x02000000 then s.clWrite (.mgmt src) r ix k v
    else if k < 0x03800000 then s.writeLinks src r i (ix.getD 1 0) k v
    else if k < 0x03E00000 then s.writeServices src r i k v
    else if k < 0x04000000 then s.writeBringUp src r i k v
    else s

/-- A write of PF0 BAR0 through the management plane (R390, R593). -/
def State.writeReg (s : State) (src : Src) (k : Nat) (v : Word) : State :=
  s.hostGate src k v (fun t => t.pfEffect src k v)

/-! Writes of a virtual function's BAR0. -/

/-- A doorbell of a prep core (R251, R375). -/
def State.vfDoorbell (s : State) (v x i : Nat) (w : Word) : State :=
  match s.vfPart v with
  | some p =>
    if s.clOwner (x / 2) == some p then s.dbellSet x i w
    else s.setFld (Reg.VF_EVENT v) Fld.VF_EVENT_DB_DISCARD 1
  | none => s.setFld (Reg.VF_EVENT v) Fld.VF_EVENT_DB_DISCARD 1

/-- The key of a virtual function's BAR0 offset. -/
def vfKey (v off : Nat) : Nat := 0x04000000 + v * 0x10000 + off

/-- A write of a register of a virtual function; queue doorbells of an unbound one are discarded (R350, R376, R470, R533). -/
def State.vfEffect (s : State) (v off : Nat) (w : Word) : State :=
  if 0x1000 ≤ off ∧ off < 0x1400 then
    (if off % 4 = 0 then s.vfDoorbell v ((off - 0x1000) / 32) (off % 32 / 4) w else s)
  else
    match regAt (vfKey v off) with
    | none => s
    | some (r, ix) =>
      let q := ix.getD 1 0
      let b := r.base
      let k := vfKey v off
      if b = Reg.VF_HAWK_CTRL 0 then s.hawkSubmit (v + 1) w
      else if b = Reg.VF_HAWK_REQ 0 0 then s.hawkWrite (v + 1) q w
      else if b = Reg.SRMT_SQ_DB 0 0 then s.sqDoorbell v q (w.toNat % 65536)
      else if b = Reg.SRMT_RQ_DB 0 0 then s.rqDoorbell v q (w.toNat % 65536)
      else if b = Reg.SRMT_CQ_DB 0 0 then s.cqDoorbell v q w
      else if b = Reg.SRMT_AQ_DB 0 then s.aqDoorbell v (w.toNat % 256)
      else if b = Reg.SRMT_AQ_CFG 0 then s.aqCfg v w
      else if b = Reg.SRMT_AQ_BASE_LO 0 ∨ b = Reg.SRMT_AQ_BASE_HI 0 then
        (if s.flag (Reg.SRMT_AQ_CFG v) Fld.SRMT_AQ_CFG_EN then s else s.regPut r k w)
      else if b = Reg.STG_SQ_DB 0 0 then s.nvSqDb v q (w.toNat % 65536)
      else if b = Reg.STG_CQ_DB 0 0 then s.nvCqDb v q (w.toNat % 65536)
      else if b = Reg.STG_ACTRL 0 then s.nvActrl v w
      else if b = Reg.VF_MSIX_CTRL 0 0 then (s.regPut r k w).msixUnmask (v + 1) q
      else s.regPut r k w

/-- A write of a virtual function's BAR0 (R593). -/
def State.vfWrite (s : State) (v off : Nat) (w : Word) : State := s.vfGate (fun t => t.vfEffect v off w)

/-! Capability lists (R371–R374). -/

/-- PF0's capabilities: CAP_ID, BASE, LENGTH, in ascending CAP_ID order. -/
def pfCaps (pair : Bool) : List (Nat × Nat × Nat) :=
  [(1, 0x00100000, 0x00100000), (2, 0x00200000, 0x00200000), (3, 0x00400000, 0x00400000), (4, 0x00800000, 0x00800000),
   (5, 0x01000000, 0x01000000), (6, 0x02000000, 0x00800000), (7, 0x02800000, 0x00800000), (8, 0x03000000, 0x00400000)]
  ++ (if pair then [(9, 0x03008000, 0x2000)] else [])
  ++ [(0xA, 0x03400000, 0x00400000), (0xB, 0x03800000, 0x00200000), (0xC, 0x03A00000, 0x00200000),
   (0xD, 0x03C00000, 0x00100000), (0xE, 0x03D00000, 0x00100000), (0xF, 0x03E00000, 0x00100000),
   (0x10, 0x03F00000, 0x00100000), (0x11, 0x1000, 0x1000)]

/-- A virtual function's capabilities. -/
def vfCaps : List (Nat × Nat × Nat) :=
  [(0x101, 0x1000, 0x400), (0x102, 0x2000, 0x2000), (0x103, 0x4000, 0x2000), (0x104, 0x8000, 0x2000), (0x105, 0xC000, 0x1000)]

/-- Word `off` of a list of 16-byte capability headers that starts at a BAR offset. -/
def capWord (l : List (Nat × Nat × Nat)) (start off : Nat) : Nat :=
  if off < start ∨ off % 4 ≠ 0 then 0
  else
    let n := (off - start) / 16
    match l[n]? with
    | none => 0
    | some (id, base, len) =>
      match off % 16 / 4 with
      | 0 => id + 0x10000
      | 1 => if n + 1 < l.length then start + 16 * (n + 1) else 0
      | 2 => base
      | _ => len

/-! Reads. -/

/-- A register's word as it reads: write-only fields and reserved bits read zero (R15, R16). -/
def wordRead (fs : List Fld) (w : Word) : Word := fs.foldl (fun x f => if f.acc = .wo then x else f.put x (f.get w)) 0

/-- Whether a key lies in a block that an Eclipse holds in reset (R592): scratch, clusters, SRMT, DMA, cipher. -/
def eclBlock (k : Nat) : Bool :=
  (decide (0x00800000 ≤ k) && decide (k < 0x02000000)) || (decide (0x02800000 ≤ k) && decide (k < 0x03000000))
    || (decide (0x03400000 ≤ k) && decide (k < 0x03A00000))
    || (decide (0x04000000 ≤ k) && decide (0x2000 ≤ k % 0x10000) && decide (k % 0x10000 < 0x4000))

/-- A word with the numeric reset values of its fields: what a register of a block under reset reads (R593). -/
def wordReset (fs : List Fld) (w : Word) : Word :=
  fs.foldl (fun x f => if f.src = .num then f.put x f.rst else f.put x (f.get w)) 0

/-- A word of the selected entry of a Tail ring; rings of owned units read zero here (R624). -/
def State.tailWord (s : State) (i : Nat) : Word :=
  let u := s.fld Reg.DBG_TAIL_SEL Fld.DBG_TAIL_SEL_UNIT
  if (s.unitOwner u).isSome then 0
  else
    match (Tab.get (fun _ => []) s.dbg.tails u)[s.fld Reg.DBG_TAIL_SEL Fld.DBG_TAIL_SEL_ENTRY]? with
    | some t => BitVec.ofNat 32 (leAt t.bytes (4 * i) 4)
    | none => 0

/-- The word that the hardware shows in a register: its stored word, or what the register is a view of. -/
def State.liveWord (s : State) (r : RegRow) (ix : List Nat) (k : Nat) : Word :=
  let i := ix.headD 0
  let b := r.base
  if b = Reg.ORB_COUNT_LO then BitVec.ofNat 32 s.orbitN
  else if b = Reg.ORB_COUNT_HI then BitVec.ofNat 32 (s.orbitN / 2 ^ 32)
  else if b = Reg.ORB_POS then BitVec.ofNat 32 s.tm.cycle
  else if b = Reg.DEV_TIME_LO then BitVec.ofNat 32 s.devNs
  else if b = Reg.DEV_TIME_HI then BitVec.ofNat 32 (s.devNs / 2 ^ 32)
  else if b = Reg.EPH_SLOT 0 ∨ b = Reg.EPH_ACTIVE 0 then ephView i (s.reg k)
  else if b = Reg.PX_PC 0 0 then BitVec.ofNat 32 (s.core (2 * i + ix.getD 1 0)).pc
  else if Reg.ENG_CNT_BUSY 0 0 ≤ b ∧ b ≤ Reg.ENG_CMD_CYCLES 0 0 then (s.engLive (4 * i + ix.getD 1 0)).reg k
  else if b = Reg.PX_CNT_STALL 0 0 ∨ b = Reg.PX_CNT_WAIT 0 0 then (s.coreLive (2 * i + ix.getD 1 0)).reg k
  else if b = Reg.DBG_TAIL_DATA 0 then s.tailWord i
  else if b = Reg.VF_APT_BASE 0 then s.reg (Reg.EP_VF_APT i)
  else if b = Reg.VF_STATUS 0 then Fld.VF_STATUS_VF_INDEX.put (s.reg k) i
  else s.reg k

/-- What the register at a key reads now, without the effects of a read; an unlisted key reads zero (R12). -/
def State.regView (s : State) (k : Nat) : Word :=
  match regAt k with
  | none =>
    if k < 0x1000 then BitVec.ofNat 32 (capWord (pfCaps (s.flag Reg.LIC_STATUS Fld.LIC_STATUS_PAIR)) 0x100 k)
    else if 0x04000000 ≤ k then BitVec.ofNat 32 (capWord vfCaps 0x40 (k % 0x10000))
    else 0
  | some (r, ix) =>
    let w := s.liveWord r ix k
    if s.flag Reg.ECL_STATUS Fld.ECL_STATUS_ACTIVE && s.ecl.phase == 1 && eclBlock k then wordRead r.flds (wordReset r.flds w)
    else wordRead r.flds w

/-- A word kept for the next read of a register (R14, R69). -/
def State.latchHi (s : State) (k : Nat) : State :=
  { s with latch := { s.latch with readHi := Tab.ins s.latch.readHi k (s.regView k) } }

/-- The effects of a read of a register that has no latched word: RC fields clear, a _LO latches its _HI (R14, R16, R69). -/
def State.readEffect (s : State) (k : Nat) : State :=
  match regAt k with
  | none => s
  | some (r, _) =>
    let s := match r.half with
      | .lo d => s.latchHi (k + d)
      | _ => s
    let s := if k = Reg.ORB_COUNT_LO then s.latchHi Reg.ORB_POS else s
    if r.flds.any (fun f => decide (f.acc = .rc)) then
      s.setReg k (r.flds.foldl (fun w f => if f.acc = .rc then f.put w 0 else w) (s.reg k))
    else s

/-- A read of the register at a key: the word, and the state after. -/
def State.readReg (s : State) (k : Nat) : State × Word :=
  match s.latch.readHi.find? (fun e => e.1 == k) with
  | some (_, w) => (({ s with latch := { s.latch with readHi := Tab.erase s.latch.readHi k } }).answered w, w)
  | none =>
    if k = Reg.LOG_DATA 0 then
      let t := s.logRead0
      (t, t.reg k)
    else if k = Reg.LOG_DATA 15 then (s.logRead15, s.reg k)
    else
      let w := s.regView k
      ((s.readEffect k).answered w, w)

/-- A read of a virtual function's BAR0; its prep-core doorbells read zero (R375). -/
def State.vfRead (s : State) (v off : Nat) : State × Word :=
  if 0x1000 ≤ off ∧ off < 0x1400 then (s.answered 0, 0) else s.readReg (vfKey v off)

/-- A prep core's read in its control window (R247). -/
def State.winRead (s : State) (x off : Nat) : State × Word :=
  match winKey (pxc x) off with
  | some k => s.readReg k
  | none => (s, 0)

/-! The commands. -/

/-- REG_WRITE (R12, R14–R18). -/
def execRegWrite (src : Src) (a : RegAddr) (v : Word) (s : State) : Host.Outcome State Fault Refusal :=
  match a with
  | .pf0 off => s.answer (if off.toNat < 0x04000000 then s.writeReg src off.toNat v else s)
  | .vf n off => s.answer (s.vfWrite n off.toNat v)

/-- ORB_COUNT_LO_READ (R69). -/
def execOrbCountLoRead (_src : Src) (s : State) : Host.Outcome State Fault Refusal :=
  s.answer (if s.pwr.on then (s.readReg Reg.ORB_COUNT_LO).1 else s)

/-- VF_DOORBELL_WRITE (R375). -/
def execVfDoorbellWrite (v : Fin 64) (x : Fin 32) (i : Fin 8) (w : Word) (s : State) : Host.Outcome State Fault Refusal :=
  s.answer (s.vfGate (fun t => t.vfDoorbell v x i w))

end Sys2Proof.Machine
end

