-- ==== Sys2Proof/Machine/BootSeq.lean ====
section
/-! DEFINITION. The boot sequencer: the end of a stage, the boot script and what follows it (R583, R586–R588). -/

namespace Sys2Proof.Machine

/-- The 16-byte entries of a script; a part of an entry at the end of the section is none. -/
def scriptEntries : Nat → Bytes → List Bytes
  | 0, _ => []
  | n + 1, b => if b.length < 16 then [] else b.take 16 :: scriptEntries n (b.drop 16)

/-- Script entries run until one waits: a stage, a DELAY, an error, or the end of the boot (R586). -/
def State.scriptRun (s : State) : Nat → State
  | 0 => s
  | n + 1 =>
    let stage := s.fld Reg.BOOT_STAGE Fld.BOOT_STAGE_STAGE
    let put (t : State) (l : Option (List Bytes)) : State := { t with boot := { t.boot with script := l } }
    match s.boot.script with
    | none => s
    | some [] =>
      if stage < 7 then s.startStage (stage + 1)
      else if stage = 7 then State.scriptRun (s.startStage 8) n
      else put s none
    | some (e :: t) =>
      match byteAt e 0 with
      | 0 => State.scriptRun (put s (some [])) n
      | 1 =>
        if byteAt e 1 = stage + 1 ∧ stage < 8 then
          (if stage = 7 then State.scriptRun ((put s (some t)).startStage 8) n else (put s (some t)).startStage (stage + 1))
        else s.stageFail 4
      | 2 =>
        let k := leAt e 4 4
        let s := put s (some t)
        State.scriptRun (if k < 0x04000000 then s.writeReg .boot k (BitVec.ofNat 32 (leAt e 8 4)) else s) n
      | 3 =>
        let s := put s (some t)
        { s with boot := { s.boot with delay := some (s.orbitN + min (leAt e 8 4) (2 ^ 20)) } }
      | _ => s.stageFail 4

/-- More than the longest script has entries. -/
def scriptFuel : Nat := 16400

/-- What follows a stage that ended well: the next stage of the sequencer, the script, or a wait for the host (R586, R587). -/
def State.stageNextAuto (s : State) (k : Nat) : State :=
  if s.fld Reg.BOOT_STATUS Fld.BOOT_STATUS_MODE ≠ 0 then s
  else if k = 1 then s.startStage 2
  else if k = 2 then
    let b := s.section 6
    ({ s with boot := { s.boot with script := some (scriptEntries (b.length / 16) b) } }).scriptRun scriptFuel
  else s.scriptRun scriptFuel

/-- Whether a stage's work can have ended: MAP_APPLY waits for the initialisations (R107, R128), FUSES for a working DRBG
(R497). -/
def State.stageMayEnd (s : State) (k : Nat) : Bool :=
  if k = 1 then !s.cph.drbgDown else k != 5 || (s.fab.initBusy.isEmpty && s.scr.initBusy.isEmpty)

/-- BOOT_STAGE_COMPLETE (R583, R586–R588). -/
def State.stageComplete (s : State) : State :=
  let k := s.fld Reg.BOOT_STAGE Fld.BOOT_STAGE_STAGE
  if s.pwr.on && !s.pwr.seq && s.flag Reg.BOOT_STAGE Fld.BOOT_STAGE_BUSY && s.stageMayEnd k then
    if k = 5 && !s.tm.mapped then (if s.cph.drbgDown then s else s.mapApplyStart)
    else
    let (s, err) := s.stageWork k
    let s := s.setFld Reg.BOOT_STAGE Fld.BOOT_STAGE_BUSY 0
    match err with
    | some e => s.stageFail e
    | none =>
      let s := if k = 6 then s.panelTodo else s
      s.stageNextAuto k
  else s

/-- BOOT_SCRIPT_DELAY_EXPIRY (R586). -/
def State.delayEnd (s : State) : State :=
  match s.boot.delay with
  | some d => if s.markReached d then ({ s with boot := { s.boot with delay := none } }).scriptRun scriptFuel else s
  | none => s

/-! The commands. -/

/-- BOOT_STAGE_COMPLETE (R583). -/
def execBootStageComplete (s : State) : Host.Outcome State Fault Refusal := s.answer s.stageComplete

/-- BOOT_SCRIPT_DELAY_EXPIRY (R586). -/
def execBootScriptDelayExpiry (s : State) : Host.Outcome State Fault Refusal := s.answer s.delayEnd

end Sys2Proof.Machine
end

