-- ==== Sys2Proof/Machine/FabricCmds.lean ====
section
/-! DEFINITION. The commands of the Ephemeris registers, of the fabric's controllers and of the scratch banks. -/

namespace Sys2Proof.Machine

/-! The Ephemeris (R60–R62). -/

/-- EPH_COMMIT (R60). -/
def execEphCommit (src : Src) (v : Word) (s : State) : Host.Outcome State Fault Refusal := s.answer (s.hostGate src Reg.EPH_CTRL v (fun s => s.ephCommit src v))

/-- EPH_COMMIT_EFFECT (R60). -/
def execEphCommitEffect (s : State) : Host.Outcome State Fault Refusal := s.answer s.ephCommitEffect

/-- EPH_SLOT_WRITE (R61). -/
def execEphSlotWrite (src : Src) (n : Fin 256) (v : Word) (s : State) : Host.Outcome State Fault Refusal :=
  s.answer (s.hostGate src (Reg.EPH_SLOT n) v (fun s => s.ephSlotWrite src n v))

/-- EPH_MODE_WRITE (R62). -/
def execEphModeWrite (src : Src) (v : Word) (s : State) : Host.Outcome State Fault Refusal := s.answer (s.hostGate src Reg.EPH_MODE v (fun s => s.ephModeWrite src v))

/-- EPH_MODE_APPLY (R62). -/
def execEphModeApply (s : State) : Host.Outcome State Fault Refusal := s.answer s.ephModeApply

/-! The fabric. -/

/-- LINE_REQUEST_ADMIT (R74). -/
def execLineRequestAdmit (rq : LineReq) (s : State) : Host.Outcome State Fault Refusal :=
  s.answer (s.unitAct (fun s => s.admitLine rq))

/-- MEM_LINE_READ (R90–R95) with its transfer to the requester (R93). -/
def execMemLineRead (rq : LineReq) (xfer : List (Fin 68 × Byte)) (s : State) : Host.Outcome State Fault Refusal :=
  s.answer (s.withEntry rq (fun s r =>
    let s := match r.space with
      | some sp => s.countFrame sp r.place
      | none => s
    let (s, st, d) := s.readPlace r.place r.owner r.epoch
    if st.good then s.transfer r st d xfer else (s, st, [])))

/-- REMAP_SWAP_START (R83). -/
def execRemapSwapStart (p : Fin 16) (c : Fin 256) (s : State) : Host.Outcome State Fault Refusal :=
  s.answer (s.unitAct (fun s => s.swapStart p c))

/-- SWAP_GROUP_COPY (R84, R85). -/
def execSwapGroupCopy (p : Fin 16) (i : Fin 4) (s : State) : Host.Outcome State Fault Refusal :=
  s.answer (s.unitAct (fun s => s.swapCopy p i))

/-- SCRUB_GROUP (R98). -/
def execScrubGroup (ch : Fin 280) (s : State) : Host.Outcome State Fault Refusal :=
  s.answer (s.unitAct (fun s => s.scrubGroup ch))

/-- MF_SPARE_CMD (R103). -/
def execMfSpareCmd (src : Src) (v : Word) (s : State) : Host.Outcome State Fault Refusal := s.answer (s.hostGate src Reg.MF_SPARE_CMD v (fun s => s.spareCmd src v))

/-- SPARE_COPY_PAGE (R104). -/
def execSpareCopyPage (s : State) : Host.Outcome State Fault Refusal := s.answer (s.unitAct (fun s => s.spareCopyPage))

/-- SPARE_SWITCH (R105, R106). -/
def execSpareSwitch (s : State) : Host.Outcome State Fault Refusal := s.answer (s.unitAct (fun s => s.spareSwitch))

/-- MF_HASH_KEY_WRITE (R80). -/
def execMfHashKeyWrite (src : Src) (n : Fin 4) (v : Word) (s : State) : Host.Outcome State Fault Refusal :=
  s.answer (s.hostGate src (Reg.MF_HASH_KEY n) v (fun s => s.hashKeyWrite src n v))

/-- MF_INIT_CMD (R107). -/
def execMfInitCmd (src : Src) (v : Word) (s : State) : Host.Outcome State Fault Refusal := s.answer (s.hostGate src Reg.MF_INIT_CMD v (fun s => s.initCmd src v))

/-- PACKAGE_INIT_DONE (R107). -/
def execPackageInitDone (pkg : Fin 32) (s : State) : Host.Outcome State Fault Refusal :=
  s.answer (s.unitAct (fun s => s.pkgInitDone pkg))

/-! The scratch banks (R111–R128). -/

/-- SCR_READ (R121). -/
def execScrRead (c : Fin 16) (port : ScrPort) (a : BitVec 24) (len : Fin 65) (s : State) : Host.Outcome State Fault Refusal :=
  s.answer (s.unitAct (fun s => s.scrCommand ⟨c, port, a.toNat, .read len⟩))

/-- SCR_FULL_WRITE (R121). -/
def execScrFullWrite (c : Fin 16) (port : ScrPort) (a : BitVec 24) (data : Bytes) (s : State) :
    Host.Outcome State Fault Refusal :=
  s.answer (s.unitAct (fun s => s.scrCommand ⟨c, port, a.toNat, .full data⟩))

/-- SCR_PARTIAL_WRITE (R121). -/
def execScrPartialWrite (c : Fin 16) (port : ScrPort) (a : BitVec 24) (data : Bytes) (s : State) :
    Host.Outcome State Fault Refusal :=
  s.answer (s.unitAct (fun s => s.scrCommand ⟨c, port, a.toNat, .part data⟩))

/-- SCR_ATOMIC_ADD (R122). -/
def execScrAtomicAdd (c : Fin 16) (port : ScrPort) (wide : Bool) (a : BitVec 24) (x : DWord) (s : State) :
    Host.Outcome State Fault Refusal :=
  s.answer (s.unitAct (fun s => s.scrCommand ⟨c, port, a.toNat, .add wide x⟩))

/-- SCR_ATOMIC_SWAP (R122). -/
def execScrAtomicSwap (c : Fin 16) (port : ScrPort) (wide : Bool) (a : BitVec 24) (x : DWord) (s : State) :
    Host.Outcome State Fault Refusal :=
  s.answer (s.unitAct (fun s => s.scrCommand ⟨c, port, a.toNat, .swap wide x⟩))

/-- SCR_CORRECTION_WRITEBACK (R119). -/
def execScrCorrectionWriteback (c : Fin 16) (b : Fin 24) (s : State) : Host.Outcome State Fault Refusal :=
  s.answer (s.unitAct (fun s => s.scrWriteback c b))

/-- SCR_OWN_WRITE (R115–R117). -/
def execScrOwnWrite (w : ClWriter) (c : Fin 16) (b : Fin 24) (v : Word) (s : State) : Host.Outcome State Fault Refusal :=
  s.answer (s.clGate w (Reg.SCR_OWN c b) v (fun s => s.scrOwnWrite c b v))

/-- SCR_HANDOVER_COMPLETE (R116). -/
def execScrHandoverComplete (c : Fin 16) (b : Fin 24) (s : State) : Host.Outcome State Fault Refusal :=
  s.answer (s.unitAct (fun s => s.scrHandoverDone c b))

/-- SCR_INIT_CMD (R128). -/
def execScrInitCmd (src : Src) (v : Word) (s : State) : Host.Outcome State Fault Refusal := s.answer (s.hostGate src Reg.SCR_INIT_CMD v (fun s => s.scrInitCmd v))

end Sys2Proof.Machine
end

