-- ==== Sys2Proof/Machine/HostCmd.lean ====
section
/-! DEFINITION. What the host, its power messages and the sideband bring: configuration requests, accesses to BAR0 and BAR2
through the receive queues, completions, power states and the I3C port (R347–R370, R390–R392). -/

namespace Sys2Proof

/-- The 48-bit provisioned ID of the sideband target: its content is not stated (R391). -/
opaque Config.provisionedId : Bytes

/-- The two bytes of the sideband target's status, by draw number: their content is not stated (R391). -/
opaque Config.targetStatus : Nat → Bytes

namespace Machine

/-- Whether a TLP can reach the sled: it is powered, PERST# is high, the link is not in L2/L3 Ready. -/
def State.linkLive (s : State) : Bool := s.live && !s.host.perst && !s.host.l23

/-! BAR0 (R352, R376). -/

/-- A register read and written through a function's BAR0. -/
def State.fnRead (s : State) (f off : Nat) : State × Word := if f = 0 then s.readReg off else s.vfRead (f - 1) off
def State.fnWrite (s : State) (f off : Nat) (v : Word) : State := if f = 0 then s.writeReg .pf0 off v else s.vfWrite (f - 1) off v

/-- BAD_WIDTH. -/
def State.badWidth (s : State) (f : Nat) : State :=
  if f = 0 then s.setFld Reg.EP_EVENT Fld.EP_EVENT_BAD_WIDTH 1 else s.setFld (Reg.VF_EVENT (f - 1)) Fld.VF_EVENT_BAD_WIDTH 1

/-- The first byte of a function's Hawk request area in its BAR0. -/
def hawkReqBase (f : Nat) : Nat := if f = 0 then Reg.HAWK_REQ 0 else 0x8000

/-- A 64-byte write to the Hawk request area. -/
def State.hawkBlock (s : State) (f off : Nat) (d : Bytes) : State :=
  let go (t : State) : State :=
    (List.range 16).foldl (fun u i => u.hawkWrite f ((off - hawkReqBase f) / 4 + i) (BitVec.ofNat 32 (leAt d (4 * i) 4))) t
  if f = 0 then s.hostGate .pf0 off 0 go else s.vfGate go

/-- A read of BAR0: a register, two registers, or zeros with BAD_WIDTH. -/
def State.bar0Read (s : State) (f off len : Nat) : State × Bytes :=
  if len = 4 ∧ off % 4 = 0 then
    let (s, w) := s.fnRead f off
    (s, le 4 w.toNat)
  else if len = 8 ∧ off % 8 = 0 then
    let (s, a) := s.fnRead f off
    let (s, b) := s.fnRead f (off + 4)
    (s, le 4 a.toNat ++ le 4 b.toNat)
  else (s.badWidth f, zeros len)

/-- A write of BAR0: a register, two registers, a block of the Hawk request area, or discarded with BAD_WIDTH. -/
def State.bar0Write (s : State) (f off : Nat) (d : Bytes) : State :=
  let w (i : Nat) : Word := BitVec.ofNat 32 (leAt d i 4)
  if d.length = 4 ∧ off % 4 = 0 then s.fnWrite f off (w 0)
  else if d.length = 8 ∧ off % 8 = 0 then (s.fnWrite f off (w 0)).fnWrite f (off + 4) (w 4)
  else if d.length = 64 ∧ off % 64 = 0 ∧ hawkReqBase f ≤ off ∧ off < hawkReqBase f + 0x800 then s.hawkBlock f off d
  else
    let s := if f = 0 && decide (0x03F00000 ≤ off) then s else s.vfGate (fun t => t)
    s.badWidth f

/-! BAR2 (R354, R355, R593). -/

/-- A BAR2 read: Completer Abort during an Eclipse or a stop. -/
def State.aptRead (s : State) (v off len : Nat) : State :=
  if s.wrDrops then (s.bump Reg.EP_CNT_CA Fld.EP_CNT_CA_COUNT).hostCpl (v + 1) 4 [] else s.bar2Read v off len

/-- A BAR2 write. -/
def State.aptWrite (s : State) (v off : Nat) (d : Bytes) : State := s.vfGate (fun t => t.bar2Write v off d)

/-! The receive queues (R359, R360). -/

/-- A request of a function executed. -/
def State.tlpRun (s : State) (f : Nat) : Tlp → State
  | .bar0 off len none =>
    let (s, d) := s.bar0Read f off len
    s.hostCpl f 0 d
  | .bar0 off _ (some d) => s.bar0Write f off d
  | .read off len => s.aptRead (f - 1) off len
  | .write off d => s.aptWrite (f - 1) off d

/-- Whether a request waits: a BAR2 write to memory under initialisation. -/
def State.tlpHeld (s : State) (f : Nat) : Tlp → Bool
  | .write off d => !s.wrDrops && s.bar2Held (f - 1) off d.length
  | _ => false

/-- The receive queue of a function. -/
def State.rxQueue (s : State) (f : Nat) : List Tlp := Tab.get (fun _ => []) s.host.rxq f

/-- A receive queue set. -/
def State.setRxQueue (s : State) (f : Nat) (q : List Tlp) : State :=
  { s with host := { s.host with rxq := Tab.set (fun _ => []) s.host.rxq f q } }

/-- Requests of a function executed in order, up to one that waits. -/
def State.rxDrain (s : State) (f : Nat) : Nat → State
  | 0 => s
  | n + 1 =>
    match s.rxQueue f with
    | [] => s
    | t :: r => if s.tlpHeld f t then s else State.rxDrain ((s.setRxQueue f r).tlpRun f t) f n

/-- Bytes of write data that a request carries. -/
def Tlp.bytes : Tlp → Nat
  | .bar0 _ _ (some d) => d.length
  | .bar0 _ _ none => 0
  | .read _ _ => 0
  | .write _ d => d.length

/-- Whether a function's queue has room for a request: 64 TLPs and 16 KiB of write data. -/
def State.rxRoom (s : State) (f : Nat) (t : Tlp) : Bool :=
  let q := s.rxQueue f
  decide (q.length < 64) && decide ((q.map Tlp.bytes).sum + t.bytes ≤ 16384)

/-- A request put into its function's queue, which then drains. -/
def State.rxPut (s : State) (f : Nat) (t : Tlp) : State := (s.setRxQueue f (s.rxQueue f ++ [t])).rxDrain f 65

/-- A request that arrives: into its queue, or into the link input behind a full one. -/
def State.rxArrive (s : State) (f : Nat) (t : Tlp) : State :=
  if s.host.linkIn.isEmpty && s.rxRoom f t then s.rxPut f t
  else ({ s with host := { s.host with linkIn := s.host.linkIn ++ [(s.now, f, t)] } }).setFld Reg.EP_EVENT Fld.EP_EVENT_RXQ_BLOCK 1

/-- Requests at the link input that find room, in order; the cycles in which its head waited are counted. -/
def State.linkAdmit (s : State) : Nat → State
  | 0 => s
  | n + 1 =>
    match s.host.linkIn with
    | [] => s
    | (since, f, t) :: r =>
      if s.rxRoom f t then
        let s := s.bumpBy Reg.EP_CNT_RXQ_BLOCK Fld.EP_CNT_RXQ_BLOCK_COUNT (s.now - since)
        let s := { s with host := { s.host with linkIn := r.map (fun (e : Nat × Nat × Tlp) => (s.now, e.2)) } }
        State.linkAdmit (s.rxPut f t) n
      else s

/-- RXQ_ADMIT (R360): a queue goes on, and what waits at the link input follows where there is room. -/
def State.rxAdmit (s : State) (f : Nat) : State :=
  let s := s.rxDrain f 65
  s.linkAdmit (s.host.linkIn.length + 1)

/-- Whether an input of a virtual function is discarded by a replay of its partition (R646). -/
def State.fnReplayed (s : State) (f : Nat) : Bool :=
  match f with
  | 0 => false
  | v + 1 => match s.vfPart v with
    | some p => s.replaying p
    | none => false

/-- A host write recorded for its partition (R643 KIND 1): the offset, with bit 63 for BAR2, and the data. -/
def State.recHost (s : State) (f off : Nat) (d : Bytes) : State :=
  match f with
  | 0 => s
  | v + 1 => match s.vfPart v with
    | some p => s.recItem p 1 v (le 8 off ++ d)
    | none => s

/-- A memory request to a function. -/
def State.memRequest (s : State) (f : Nat) (t : Tlp) : State :=
  let wr : Option (Nat × Bytes) := match t with
    | .bar0 off _ (some d) => some (off, d)
    | .bar0 _ _ none => none
    | .read _ _ => none
    | .write off d => some (off + 2 ^ 63, d)
  if !s.linkLive then s
  else if s.memOff f then s.urAnswer f wr.isSome
  else
    match wr with
    | some (off, d) => if s.fnReplayed f then s else (s.recHost f off d).rxArrive f t
    | none => s.rxArrive f t

/-- A recorded host write injected (R645). -/
def State.hostInject (s : State) (v : Nat) (c : Bytes) : State :=
  let off := leAt c 0 8
  let d := c.drop 8
  if 2 ^ 63 ≤ off then s.aptWrite v (off - 2 ^ 63) d else s.bar0Write (v + 1) off d

/-! Configuration requests (R357, R366, R398). -/

/-- Whether a function exists: PF0, and the virtual functions that SR-IOV enables. -/
def State.fnExists (s : State) (f : Nat) : Bool := f == 0 || ((s.cfg 0 82).testBit 0 && decide (f ≤ s.cfg 0 84 % 65536))

/-- What a configuration write brings about: a Function Level Reset, the tag width, MSI-X messages let go. -/
def State.cfgEffect (s : State) (f dw : Nat) (w : Word) (be : BitVec 4) : State :=
  if dw = 30 ∧ f ≠ 0 ∧ w.getLsbD 15 ∧ be.getLsbD 1 then s.flrStart (f - 1)
  else if dw = 98 ∧ f = 0 then s.setFld Reg.EP_STATUS Fld.EP_STATUS_TAG14 (if s.tag14 then 1 else 0)
  else if dw = 20 then (List.range (if f = 0 then 256 else 64)).foldl (fun t v => t.msixUnmask f v) s
  else s

/-- PCIE_CONFIG_REQUEST: Request Retry Status until READY. -/
def State.cfgRequest (s : State) (f off : Nat) (wr : Option (Word × BitVec 4)) : State :=
  let dw := off / 4
  if !s.linkLive then s
  else if !s.ready then s.hostCpl f 2 []
  else if !s.fnExists f then s.urAnswer f false
  else
    match wr with
    | none => s.hostCpl f 0 (le 4 (s.cfg f dw))
    | some (w, be) => ((s.cfgWrite f dw w be).cfgEffect f dw w be).hostCpl f 0 []

/-! Completions (R357, R363). -/

/-- A completion that arrives, recorded for its partition (R643 KIND 2). -/
def State.cplArrive (s : State) (tag : Nat) (k : CplKind) : State :=
  let share : Option Nat := (s.host.tags.find? (fun t => t.tag == tag)).bind (fun t =>
    (s.host.reads.find? (fun r => r.who = t.who)).map HostRd.share)
  let s := match k, share with
    | .ok d, some p => if p < 16 then s.recItem p 2 0 (le 2 tag ++ d) else s
    | _, _ => s
  s.hostCompletion tag k

/-! Power states (R367, R368). -/

/-- D3HOT_ENTRY: once storage commands have completed the buffer is written and the cartridge put into its lowest power
state; put off by an Eclipse (R594). -/
def State.d3Enter (s : State) : State :=
  if s.live && s.cfg 0 17 % 4 == 3 && s.fld Reg.EP_STATUS Fld.EP_STATUS_DSTATE == 0 && !s.wrDrops && s.stg.cmds.isEmpty then
    let s := (s.setFld Reg.EP_STATUS Fld.EP_STATUS_DSTATE 3).stgDrain
    if s.cartState == 2 then
      { s with out := s.out ++ [Out.cart s.stg.nextId .lowPower], stg := { s.stg with nextId := s.stg.nextId + 1 } }
    else s
  else s

/-- PME_TURN_OFF: the buffer written, PME_TO_Ack sent, L2/L3 Ready. -/
def State.pmeTurnOff (s : State) : State :=
  if s.linkLive then
    let s := s.stgDrain
    { s with host := { s.host with l23 := true }, out := s.out ++ [Out.hostMsg 0] }
  else s

/-! The sideband port (R391, R392). -/

/-- What the next private read returns. -/
def State.i3cAnswer (s : State) (b : Bytes) : State := { s with i3c := { s.i3c with answer := some b }, out := s.out ++ [Out.i3c b] }

/-- A private write of 9 bytes; any other form, or an offset outside the registers, is discarded. -/
def State.i3cWrite (s : State) (b : Bytes) : State :=
  let k := leAt b 1 4
  if s.pwr.on && b.length == 9 && byteAt b 0 == 1 && k % 4 == 0 && decide (k < 0x04000000) then
    s.writeReg .i3c k (BitVec.ofNat 32 (leAt b 5 4))
  else s

/-- A private write of 5 bytes, and the private read that follows. -/
def State.i3cRead (s : State) (b : Bytes) : State :=
  let k := leAt b 1 4
  if !s.pwr.on || b.length != 5 || byteAt b 0 != 2 then s
  else if k % 4 ≠ 0 ∨ 0x04000000 ≤ k then s.i3cAnswer (zeros 4 ++ [2])
  else
    let (s, w) := s.readReg k
    s.i3cAnswer (le 4 w.toNat ++ [0])

/-- A dynamic address taken by a target that has none. -/
def State.i3cAddress (s : State) (a : Nat) : State :=
  if s.pwr.on && s.i3c.dyn.isNone then { s with i3c := { s.i3c with dyn := some a } } else s

/-! The commands. -/

/-- PCIE_CONFIG_REQUEST (R357). -/
def execPcieConfigRequest (f : Fn) (off : BitVec 12) (wr : Option (Word × BitVec 4)) (s : State) :
    Host.Outcome State Fault Refusal :=
  s.answer (s.cfgRequest (fnIdx f) off.toNat wr)

/-- BAR0_ACCESS (R352); a virtual function's offset past its BAR matches none. -/
def execBar0Access (f : Fn) (off : BitVec 26) (len : Nat) (wr : Option Bytes) (s : State) : Host.Outcome State Fault Refusal :=
  s.answer (if fnIdx f ≠ 0 ∧ 0x10000 ≤ off.toNat then (if s.linkLive then s.urAnswer (fnIdx f) wr.isSome else s)
    else s.memRequest (fnIdx f) (.bar0 off.toNat len wr))

/-- BAR2_READ (R354, R355). -/
def execBar2Read (v : Fin 64) (off : BitVec 36) (len : Nat) (s : State) : Host.Outcome State Fault Refusal :=
  s.answer (s.memRequest (v + 1) (.read off.toNat len))

/-- BAR2_WRITE (R354, R355). -/
def execBar2Write (v : Fin 64) (off : BitVec 36) (data : Bytes) (s : State) : Host.Outcome State Fault Refusal :=
  s.answer (s.memRequest (v + 1) (.write off.toNat data))

/-- UNSUPPORTED_REQUEST (R357). -/
def execUnsupportedRequest (_k : UrKind) (posted : Bool) (vf : Option (Fin 64)) (s : State) : Host.Outcome State Fault Refusal :=
  s.answer (if s.linkLive then s.urAnswer ((vf.map (fun v => v.val + 1)).getD 0) posted else s)

/-- POISONED_MEMORY_WRITE (R357, R365). -/
def execPoisonedMemoryWrite (f : Fn) (s : State) : Host.Outcome State Fault Refusal :=
  s.answer (if s.linkLive then (s.setFld Reg.EP_EVENT Fld.EP_EVENT_POISON_RX 1).aer (fnIdx f) 12 else s)

/-- SET_SLOT_POWER_LIMIT (R357): the limit's value and scale in Device Capabilities. -/
def execSetSlotPowerLimit (v : BitVec 10) (s : State) : Host.Outcome State Fault Refusal :=
  s.answer (if s.linkLive then s.setCfg 0 29 ((s.cfg 0 29 &&& 0xF003FFFF) ||| v.toNat * 2 ^ 18) else s)

/-- VENDOR_DEFINED_MESSAGE (R357). -/
def execVendorDefinedMessage (type1 : Bool) (s : State) : Host.Outcome State Fault Refusal :=
  s.answer (if s.linkLive && !type1 then s.urAnswer 0 true else s)

/-- HOST_COMPLETION (R357). -/
def execHostCompletion (tag : BitVec 14) (k : CplKind) (s : State) : Host.Outcome State Fault Refusal :=
  s.answer (if s.linkLive then s.cplArrive tag.toNat k else s)

/-- RXQ_ADMIT (R360). -/
def execRxqAdmit (f : Fn) (s : State) : Host.Outcome State Fault Refusal := s.answer (s.rxAdmit (fnIdx f))

/-- COMPLETION_TIMEOUT (R364). -/
def execCompletionTimeout (tag : BitVec 14) (s : State) : Host.Outcome State Fault Refusal := s.answer (s.cplTimeout tag.toNat)

/-- TAG_HOLD_EXPIRY (R364). -/
def execTagHoldExpiry (tag : BitVec 14) (s : State) : Host.Outcome State Fault Refusal := s.answer (s.tagFree tag.toNat)

/-- MSIX_UNMASK (R366). -/
def execMsixUnmask (f : Fn) (vec : Byte) (s : State) : Host.Outcome State Fault Refusal :=
  s.answer (s.unitAct (fun s => if f = .pf ∨ vec.toNat < 64 then s.msixUnmask (fnIdx f) vec.toNat else s))

/-- D3HOT_ENTRY (R367). -/
def execD3hotEntry (s : State) : Host.Outcome State Fault Refusal := s.answer s.d3Enter

/-- D3HOT_EXIT (R367): work that waited goes on. -/
def execD3hotExit (s : State) : Host.Outcome State Fault Refusal := s.answer (if s.live then s.d3Exit.ckAll else s)

/-- PME_TURN_OFF (R368). -/
def execPmeTurnOff (s : State) : Host.Outcome State Fault Refusal := s.answer s.pmeTurnOff

/-- WAKE_CAUSE (R369). -/
def execWakeCause (k : WakeCause) (s : State) : Host.Outcome State Fault Refusal := s.answer (s.wakeCause (!s.pwr.on) k)

/-- I3C_REGISTER_WRITE (R392). -/
def execI3cRegisterWrite (data : Bytes) (s : State) : Host.Outcome State Fault Refusal := s.answer (s.i3cWrite data)

/-- I3C_REGISTER_READ (R392). -/
def execI3cRegisterRead (data : Bytes) (s : State) : Host.Outcome State Fault Refusal := s.answer (s.i3cRead data)

/-- I3C_WAKE (R369, R392). -/
def execI3cWake (s : State) : Host.Outcome State Fault Refusal := s.answer (s.wakeCause (!s.pwr.on) .i3c)

/-- SETDASA (R391). -/
def execSetdasa (a : BitVec 7) (s : State) : Host.Outcome State Fault Refusal := s.answer (s.i3cAddress a.toNat)

/-- ENTDAA (R391). -/
def execEntdaa (a : BitVec 7) (s : State) : Host.Outcome State Fault Refusal := s.answer (s.i3cAddress a.toNat)

/-- RSTDAA (R391). -/
def execRstdaa (s : State) : Host.Outcome State Fault Refusal :=
  s.answer (if s.pwr.on then { s with i3c := { s.i3c with dyn := none } } else s)

/-- GETPID (R391). -/
def execGetpid (s : State) : Host.Outcome State Fault Refusal :=
  s.answer (if s.pwr.on then s.i3cAnswer (fixLen 6 Config.provisionedId) else s)

/-- GETSTATUS (R391): the status is a free value. -/
def execGetstatus (s : State) : Host.Outcome State Fault Refusal :=
  s.answer (if s.pwr.on then ({ s with draws := s.draws + 1 }).i3cAnswer (fixLen 2 (Config.targetStatus s.draws)) else s)

/-- REPLAY_INJECT (R645). -/
def execReplayInject (p : Fin 16) (s : State) : Host.Outcome State Fault Refusal := s.answer (s.replayInject State.hostInject p)

end Machine

end Sys2Proof
end

