-- ==== Sys2Proof/Machine/PxAnswer.lean ====
section
/-! DEFINITION. What ends a core's stalls: answers of partition memory, of the control window and of the command port,
posted stores that complete, and deferred traps (R229, R230, R239, R240, R248, R249, R252); line writes at their
controller (R92). -/

namespace Sys2Proof.Machine

/-! A bundle that waits to issue (R229). -/

/-- A bundle that waited for a fence or a bank issues once it can; a HALT that awaited it is carried out. -/
def State.bundleRetry (s : State) (x : Nat) : State :=
  let c := s.core x
  if c.stall = .bundle ∧ s.coreRuns x ∧ !s.bundleWaits x c.bundle then
    let s := (s.countStall x (s.now - c.since)).issue x
    let c := s.core x
    if c.halting && decide (c.stall = .none) then s.coreHalt x else s
  else s

/-! Answers (R230, R239, R248, R249). -/

/-- A stalled access ends: its stalled cycles are counted. -/
def State.accessEnd (s : State) (x : Nat) : State := (s.countStall x (s.now - (s.core x).since)).unstall x

/-- The result of a load from partition memory or the control window, five advancing cycles after the answer. -/
def State.loadReply (s : State) (x : Nat) (a : Access) (d : Bytes) : State :=
  match a.kind with
  | .load sg dst => s.pendWrite x 2 5 dst (loadValue sg d)
  | _ => s

/-- The status of an enqueue: to a predicate for ENQ, and counted where the queue was full (R249). -/
def State.enqAnswer (s : State) (x : Nat) (a : Access) (ok : Bool) : State :=
  let s := match a.kind with
    | .enq _ pd => s.pendWrite x 2 1 (.p pd) (if ok then 1 else 0)
    | _ => s
  if ok then s else s.bump (Reg.PX_CNT_CMDQ_FULL (pxc x) (pxi x)) Fld.PX_CNT_CMDQ_FULL_COUNT

/-- A control-window access of a prep core, or a register access of a service core, carried out. -/
def State.windowAnswer (s : State) (x off : Nat) (a : Access) : State :=
  match a.kind with
  | .load _ _ =>
    let (s, w) := if x < 32 then s.winRead x off else s.readReg off
    s.loadReply x a (le 4 w.toNat)
  | .store d =>
    match engCmdAt off with
    | some e =>
      if x < 32 ∧ d.length = 64 then
        let (s, ok) := s.engWindow (4 * pxc x + e) d
        s.enqAnswer x a ok
      else if x < 32 then s.winWrite x off (BitVec.ofNat 32 (leVal d))
      else s.writeReg (.sv (Fin.ofNat 8 x)) off (BitVec.ofNat 32 (leVal d))
    | none =>
      if x < 32 then s.winWrite x off (BitVec.ofNat 32 (leVal d))
      else s.writeReg (.sv (Fin.ofNat 8 x)) off (BitVec.ofNat 32 (leVal d))
  | .enq d _ =>
    let (s, ok) := s.engWindow (4 * pxc x + (engCmdAt off).getD 0) d
    s.enqAnswer x a ok
  | .atom _ _ _ _ => s

/-- The memory a core reaches: its owner's, or the service region for a service core (R239, R557). -/
def State.coreSpace (s : State) (x : Nat) : Option Space :=
  if x < 32 then (s.coreOwner x).map Space.part else some .svc

/-- Whether a load must wait for a posted store of the same core to its line (R229). -/
def CoreSt.lineBusy (c : CoreSt) (u : Nat) : Bool := c.posted.any (fun w => w.1 / 64 == u / 64)

/-- The data of a load from memory, or the status of its failure. -/
def State.loadMem (s : State) (x u size : Nat) : State × MemStatus × Bytes :=
  match s.coreSpace x with
  | some sp => s.readBytes sp (uOff u) size
  | none => (s, .outOfRange, [])

/-- A stalled access answered (R230): its result, or the deferred trap MEMORY_ERROR. Nothing is answered during an Eclipse
or a global stop. -/
def State.accessAnswer (s : State) (x : Nat) (a : Access) (tfpc : Nat) : State :=
  let c := s.core x
  let u := c.unified a
  if s.wrDrops then s
  else if uReg u = 8 then (s.accessEnd x).windowAnswer x (uOff u) a
  else if c.lineBusy u then s
  else
    let (s, st, d) := s.loadMem x u a.size
    if st.good then (s.accessEnd x).loadReply x a d
    else (s.countStall x (s.now - c.since)).coreTrap x ⟨0x0A, st.code, u⟩ 2 true tfpc

/-- PX_ACCESS_ANSWER: a stalled access is answered, or a bundle that waited issues. -/
def State.coreAnswer (s : State) (x : Nat) : State :=
  match (s.core x).stall with
  | .access a tfpc => s.accessAnswer x a tfpc
  | .bundle => s.bundleRetry x
  | _ => s

/-- Whether the answer of a stalled load from memory fails. -/
def State.answerFails (s : State) (x : Nat) : Bool :=
  let c := s.core x
  match c.stall with
  | .access a _ =>
    let u := c.unified a
    uReg u != 8 && !c.lineBusy u && !(s.loadMem x u a.size).2.1.good
  | _ => false

/-- DEFERRED_TRAP (R252): a failing scratch answer noted at issue, or a failing memory answer. -/
def State.deferred (s : State) (x : Nat) : State :=
  let c := s.core x
  if s.wrDrops then s
  else
    match c.late with
    | f :: t => (s.setCore x { c with late := t }).coreTrap x f.fault f.slot true f.tfpc
    | [] => if s.answerFails x then s.coreAnswer x else s

/-! Posted stores (R240). -/

/-- The oldest posted store of a core completes at its controller; a failure is counted and kept for the next fence. -/
def State.postedDone (s : State) (x : Nat) : State :=
  let c := s.core x
  match c.posted with
  | [] => s
  | (u, d) :: t =>
    if s.wrDrops then s
    else
      let s := s.setCore x { c with posted := t }
      let (s, st) : State × MemStatus := match s.coreSpace x with
        | some (.part p) => if s.spaceSize (.part p) < uOff u + d.length then (s, .outOfRange) else s.partWrite p (uOff u) d
        | some .svc => s.writeLine .svc (uOff u) d
        | none => (s, .outOfRange)
      let s := if st.good then s
        else
          let c := s.core x
          let s := s.setCore x { c with storeErr := some (c.storeErr.getD (u, st.code)) }
          if x < 32 then s.bump (Reg.PX_CNT_STORE_ERR (pxc x) (pxi x)) Fld.PX_CNT_STORE_ERR_COUNT else s
      s.bundleRetry x

/-! Line writes (R92). -/

/-- A line write at its controller: a partition's with all that a completed write causes. -/
def State.lineWrite (s : State) (rq : LineReq) (r : Resolved) (data : Bytes) : State × MemStatus × Bytes :=
  let (s, st) := match rq.addr with
    | .pra p a => s.partWrite p a.toNat data
    | .svc a => s.writeLine .svc a.toNat data
    | .dpa _ _ _ =>
      if data.length = 64 ∧ lineOff rq.addr = 0 then s.writePlace r.place r.owner r.epoch data
      else s.mergePlace r.place r.owner r.epoch (lineOff rq.addr) data
  (s, st, [])

/-! The commands. -/

/-- MEM_LINE_WRITE (R92): 64 bytes at a line's first byte. -/
def execMemLineWrite (rq : LineReq) (data : Bytes) (s : State) : Host.Outcome State Fault Refusal :=
  s.answer (if data.length = 64 ∧ lineOff rq.addr = 0 then s.withEntry rq (fun t r => t.lineWrite rq r data) else s)

/-- MEM_PARTIAL_WRITE (R92): fewer than 64 bytes within one line. -/
def execMemPartialWrite (rq : LineReq) (data : Bytes) (s : State) : Host.Outcome State Fault Refusal :=
  s.answer (if 0 < data.length ∧ data.length < 64 ∧ lineOff rq.addr + data.length ≤ 64 then
    s.withEntry rq (fun t r => t.lineWrite rq r data) else s)

/-- PX_ACCESS_ANSWER (R230). -/
def execPxAccessAnswer (core : Fin 40) (s : State) : Host.Outcome State Fault Refusal := s.answer (s.coreAnswer core)

/-- DEFERRED_TRAP (R252). -/
def execDeferredTrap (core : Fin 40) (s : State) : Host.Outcome State Fault Refusal := s.answer (s.deferred core)

/-- POSTED_STORE_COMPLETE (R240). -/
def execPostedStoreComplete (core : Fin 40) (s : State) : Host.Outcome State Fault Refusal := s.answer (s.postedDone core)

end Sys2Proof.Machine
end

