-- ==== Sys2Proof/Machine/Mark.lean ====
section
/-! DEFINITION. The orbit mark (R48), the slot boundary (R56), and the core-clock tick of an idle block. An action of R48
that has a row of its own is that row's command; the mark performs the others. -/

namespace Sys2Proof

namespace Machine

/-! The actions of a mark. -/

/-- Time moved to a cycle of this orbit (R45, R47). -/
def State.toCycle (s : State) (c : Nat) : State :=
  let t := s.devAdvance (c - s.tm.cycle)
  { t with tm := { t.tm with cycle := c } }

/-- The orbit counter advanced, in cycle 0 (R45). -/
def State.nextOrbit (s : State) : State :=
  let t := s.devAdvance (orbitCycles - s.tm.cycle)
  { t with tm := { t.tm with orbit := s.tm.orbit + 1, cycle := 0 } }

/-- Effects whose mark has come and that no command of their own has performed; a stop put off by an Eclipse follows its
exit (R594). -/
def State.flushDue (s : State) : State :=
  let s := s.globalStop.eclEntry.eclExit.globalStop
  let s := s.mapEffect.ephCommitEffect.ephModeApply
  let s := (List.range 16).foldl (fun (t : State) p =>
    ((((t.resetEffect p).epochEffect p).freezeEffect p).thawEffect p).recordChange p) s
  let s := (List.range 4).foldl State.gbStep s.clSubstitute
  s.unitAct (fun s => (List.range 16).foldl State.ckCut s)

/-- The drops of an orbit in one class (R636). -/
def dropsOf (l : List ((Nat × Nat) × Nat)) (cls : Nat) : Nat :=
  (l.map (fun e => if e.1.1 = cls then e.2 else 0)).sum

/-- The drops of an orbit of one source, over the classes. -/
def dropsBy (l : List ((Nat × Nat) × Nat)) (key : Nat) : Nat :=
  (l.map (fun e => if e.1.2 = key then e.2 else 0)).sum

/-- The source with the most drops, the lower value of a tie. -/
def topSource (l : List ((Nat × Nat) × Nat)) : Nat :=
  (l.map (fun e => e.1.2)).foldl (fun m k =>
    if dropsBy l m < dropsBy l k || (dropsBy l m == dropsBy l k && decide (k < m)) then k else m) ((l.map (fun e => e.1.2)).headD 0)

/-- The summary of an orbit's drops (R636), and the counts of a new orbit (R635). -/
def State.dropSummary (s : State) : State :=
  let l := s.log.drops
  let s := { s with log := { s.log with counts := [], drops := [] } }
  if l.isEmpty then s
  else
    let r := (([1, 2, 3, 4] : List Nat).map (fun c => le 4 (dropsOf l c))).flatten ++ le 2 (topSource l) ++ le 4 (dropsBy l (topSource l))
    s.logWrite ⟨0, 5, 11, s.orbitN, r⟩

/-- The Ephemeris begins to serve at the first mark after the table's load, and BAD_CODE is evaluated (R64, R665). -/
def State.serveMark (s : State) : State :=
  if s.tm.mapped && !s.tm.serving then ({ s with tm := { s.tm with serving := true } }).evalBadCode else s

/-- Replays of thawed partitions begin (R645). -/
def State.replayMark (s : State) : State :=
  { s with dbg := { s.dbg with replay := s.dbg.replay.map (fun e =>
    if e.2.start.isNone && s.ownerThawed (some e.1) then (e.1, { e.2 with start := some s.orbitN }) else e) } }

/-- The actions of R48 at a mark, with the slew that applies from it (R619). -/
def State.markActions (s : State) : State :=
  let s := { s with tm := { s.tm with slew := s.slewNow } }
  let s := (s.eng.map Prod.fst).foldl State.engMark s.serveMark
  let s := (List.range 16).foldl State.dmaMark s
  let s := (List.range 512).foldl State.shpRefill s
  let s := s.ethSample.recomputeC0.dropSummary.removeBegin.pairMark.occupancyMark.wdogMark
  ((List.range 16).foldl State.ckHeldMark s).replayMark

/-- ORBIT_MARK: nothing without power; of a mark at which a stop takes effect, or during a stop, only time (R46, R638). -/
def State.orbitMark (s : State) : State :=
  if !s.pwr.on then s
  else
    let s := s.flushDue
    let stops := s.flag Reg.DBG_STATUS Fld.DBG_STATUS_STOPPED || s.stopAt (s.orbitN + 1)
    if stops then s.nextOrbit
    else ((s.toCycle (orbitCycles - 1)).takeSample).nextOrbit.markActions

/-! The slot boundary. -/

/-- Whether a partition has eligible work on a row of rows 0 to 4 (R56). -/
def State.rowWork (s : State) (row p : Nat) : Bool :=
  match row with
  | 0 => s.egrWork p
  | 1 => s.hostWork p
  | 2 => s.ciphWork p
  | 4 => s.pairWork p
  | _ => false

/-- Whether the housekeeping queue of a row has work (R57, R58). -/
def State.rowHousework (s : State) (row : Nat) : Bool :=
  match row with
  | 0 => s.egrWork 16
  | 1 => s.hostWork 16
  | 2 => s.cph.jobs.any (fun j => j.share == 16)
  | _ => false

/-- What the HOST slot's holder sends; PF0's completions go in housekeeping and Free slots (R59). -/
def State.hostTurn (s : State) : State :=
  match s.holderOf 1 with
  | .owner p => s.hostSlot p.val
  | .borrower p => s.hostSlot p.val
  | .housekeeping => s.hostSlot 16
  | .idle => s

/-- What the PAIR slot's holder sends. -/
def State.pairTurn (s : State) : State :=
  match s.holderOf 4 with
  | .owner p => s.pairSlot p.val
  | .borrower p => s.pairSlot p.val
  | _ => s

/-- What a Tether port's owner sends in its slot. -/
def State.tethTurn (s : State) (n : Nat) : State :=
  match s.holderOf (8 + n) with
  | .owner _ => s.portSlot n
  | _ => s

/-- SLOT_BOUNDARY: the time is cycle 0 of the slot; queue depths are sampled (R82), every row's slot is given, and what
its holder sends by itself goes out. A slot of this orbit that has passed, a global stop and a die without power give
nothing. -/
def State.slotBoundary (s : State) (slot : Nat) : State :=
  if !s.pwr.on || decide (256 * slot < s.tm.cycle) then s
  else
    let s := s.toCycle (256 * slot)
    if s.flag Reg.DBG_STATUS Fld.DBG_STATUS_STOPPED then s
    else
      let s := s.sampleDepths
      if !s.tm.serving then s
      else
        let was := s.holderOf 0
        let s := s.giveSlots State.rowWork State.rowHousework slot
        let s := if s.holderOf 0 = was then s else { s with eth := { s.eth with served := [] } }
        (List.range 8).foldl State.tethTurn s.hostTurn.pairTurn

/-! The commands. -/

/-- ORBIT_MARK (R48). -/
def execOrbitMark (s : State) : Host.Outcome State Fault Refusal :=
  if s.pwr.on then s.answerAt s.orbitMark (s.tm.orbit + 1) 0 else s.answer s

/-- SLOT_BOUNDARY (R56). -/
def execSlotBoundary (slot : Fin 64) (s : State) : Host.Outcome State Fault Refusal :=
  if s.pwr.on && decide (s.tm.cycle ≤ 256 * slot.val) then s.answerAt (s.slotBoundary slot.val) s.tm.orbit (256 * slot.val)
  else s.answer s

/-! An idle block's tick. -/

/-- What the mark brings beside ORBIT_MARK: the effects due, Function Level Resets that have drained, ports that change
owner, Skim slices, Cures that may start, checkpoint timers, window commands, the end of a script's DELAY, the export of
samples, an entry of D3hot. -/
def State.markEffects (s : State) : State :=
  let s := s.flushDue
  let s := s.unitAct (fun s => (List.range 64).foldl State.flrDone s)
  let s := (List.range 8).foldl State.ownerSwitch s
  let s := s.unitAct (fun s => (List.range 16).foldl (fun (t : State) p => ((t.skimSlice p).cureStart p).ckTimer p) s)
  let s := s.unitAct (fun s => (List.range 64).foldl (fun (t : State) v => (t.winEffect v true).winEffect v false) s)
  (s.delayEnd.unitAct State.sampleExport).d3Enter

/-- What a slot's start brings: recorded items injected, the slots given, receive queues, the heartbeat of slot 63. -/
def State.slotStart (s : State) (slot : Nat) : State :=
  let s := (List.range 16).foldl (fun (t : State) p => t.replayInject State.hostInject p) s
  let s := s.slotBoundary slot
  let s := (s.host.rxq.map Prod.fst).foldl State.rxAdmit s
  if slot = 63 && !s.wrDrops then s.heartbeatSend else s

/-- A step without a command (DESIGN CHOICE): the core clock advances by a cycle, with what the cycle that begins an orbit
or a slot brings, and the watchdogs that have run out in cycle 0. -/
def State.tick (s : State) : Host.Outcome State Fault Refusal :=
  if !s.pwr.on then s.answer s
  else if orbitCycles - 1 ≤ s.tm.cycle then s.answerAt (s.orbitMark.markEffects.slotStart 0) (s.tm.orbit + 1) 0
  else
    let t := s.toCycle (s.tm.cycle + 1)
    let u :=
      if s.tm.cycle = 0 then t.unitAct (fun t => (List.range 8).foldl State.wdogExpiry t)
      else if t.tm.cycle % 256 = 0 then t.slotStart (t.tm.cycle / 256)
      else t
    s.answerAt u s.tm.orbit (s.tm.cycle + 1)

end Machine

end Sys2Proof
end

