-- ==== Sys2Proof/Machine/Lanes.lean ====
section
/-! DEFINITION. What the vector and conversion operations of the prep cores compute (R278–R288): lanes of a vector,
FP32 lane arithmetic, reductions, accept-scans, special functions and conversions. -/

namespace Sys2Proof.Machine

/-! Lanes (R278). -/

/-- Bits of a lane. -/
def laneBits (lw : Nat) : Nat := 8 * 2 ^ lw
/-- Lanes of a vector. -/
def laneCount (lw : Nat) : Nat := 64 / 2 ^ lw
/-- A lane. -/
def lane (lw : Nat) (v : BitVec 512) (i : Nat) : Nat := (v.extractLsb' (laneBits lw * i) (laneBits lw)).toNat
/-- The lanes of a vector. -/
def lanes (lw : Nat) (v : BitVec 512) : List Nat := (List.range (laneCount lw)).map (lane lw v)
/-- A vector of lanes, each cut to its width. -/
def ofLanes (lw : Nat) (l : List Nat) : BitVec 512 :=
  BitVec.ofNat 512 (l.foldr (fun x acc => x % 2 ^ laneBits lw + 2 ^ laneBits lw * acc) 0)
/-- A function of two lanes, lane by lane. -/
def lanes2 (lw : Nat) (f : Nat → Nat → Nat) (a b : BitVec 512) : BitVec 512 := ofLanes lw (List.zipWith f (lanes lw a) (lanes lw b))
/-- All ones or zero (R279). -/
def laneMask (lw : Nat) (b : Bool) : Nat := if b then 2 ^ laneBits lw - 1 else 0

/-- The bytes of a vector. -/
def vecBytes (v : BitVec 512) : Bytes := le 64 v.toNat
/-- A vector from bytes. -/
def vecOf (b : Bytes) : BitVec 512 := BitVec.ofNat 512 (leVal b)

/-! FP32 lanes (R280, R281). -/

/-- The FP32 NaN that every NaN result is written as. -/
def qnan : Word := 0x7FC00000

/-- An FP32 lane. -/
def flane (v : BitVec 512) (i : Nat) : Word := BitVec.ofNat 32 (lane 2 v i)
/-- The sixteen FP32 lanes. -/
def flanes (v : BitVec 512) : List Word := (List.range 16).map (flane v)
/-- A vector of FP32 lanes. -/
def ofFlanes (l : List Word) : BitVec 512 := ofLanes 2 (l.map BitVec.toNat)

def fAdd (a b : Word) : Word := toFp32 ((ofFp32 a).add (ofFp32 b))
def fSub (a b : Word) : Word := toFp32 ((ofFp32 a).add (ofFp32 b).negate)
def fMul (a b : Word) : Word := toFp32 ((ofFp32 a).mul (ofFp32 b))
/-- One rounding of a · b + c. -/
def fMa (a b c : Word) : Word := toFp32 (((ofFp32 a).mul (ofFp32 b)).add (ofFp32 c))
/-- Whether `a` comes below `b`, with −0 below +0. -/
def fBelow (a b : Word) : Bool :=
  (ofFp32 a).lt (ofFp32 b) || ((ofFp32 a).isZero && (ofFp32 b).isZero && (ofFp32 a).neg? && !(ofFp32 b).neg?)
def fMin (a b : Word) : Word :=
  if (ofFp32 a).isNan || (ofFp32 b).isNan then qnan else if fBelow b a then b else a
def fMax (a b : Word) : Word :=
  if (ofFp32 a).isNan || (ofFp32 b).isNan then qnan else if fBelow a b then b else a
def fLt (a b : Word) : Bool := (ofFp32 a).lt (ofFp32 b)
def fLe (a b : Word) : Bool := (ofFp32 a).lt (ofFp32 b) || (ofFp32 a).eqv (ofFp32 b)

/-- An FP32 operation on two vectors. -/
def flanes2 (f : Word → Word → Word) (a b : BitVec 512) : BitVec 512 := ofFlanes (List.zipWith f (flanes a) (flanes b))

/-- One level of the fixed tree of R281. -/
def pairSums : List Word → List Word
  | a :: b :: t => fAdd a b :: pairSums t
  | l => l

/-- The sum of sixteen lanes in the fixed tree (R281). -/
def fRedAdd (l : List Word) : Word := (pairSums (pairSums (pairSums (pairSums l)))).headD qnan

/-- The running sums in lane order, each rounded (R281). -/
def fScan : Word → List Word → List Word
  | _, [] => []
  | acc, x :: t => let y := fAdd acc x; y :: fScan y t

/-- The prefix sums of lanes: lane 0 is itself. -/
def fScanLanes : List Word → List Word
  | [] => []
  | x :: t => let y := toFp32 (ofFp32 x); y :: fScan y t

/-- The maximum of the lanes that are not NaN, with its lowest index (R280). -/
def fArgMax (l : List Word) : Word × Nat :=
  let r := (l.zipIdx).foldl (fun (acc : Option (Word × Nat)) e =>
    if (ofFp32 e.1).isNan then acc
    else match acc with
      | none => some e
      | some m => if fBelow m.1 e.1 then some e else some m) none
  r.getD (qnan, 0)

/-- Whether lane `i` ranks before lane `j` in descending order (R280). -/
def ranksBefore (l : List Word) (i j : Nat) : Bool :=
  let a := ofFp32 (l.getD i 0)
  let b := ofFp32 (l.getD j 0)
  if a.isNan then b.isNan && decide (i < j)
  else if b.isNan then true
  else b.lt a || (a.eqv b && decide (i < j))

/-- The lane indices ranked by descending value (R279, R280). -/
def sortIdx (l : List Word) : List Nat :=
  let n := l.length
  (List.range n).map (fun r => ((List.range n).find? (fun i =>
    (List.range n).countP (fun k => ranksBefore l k i) == r)).getD 0)

/-! Accept-scans (R282). -/

/-- The lanes that pass before the first that fails. -/
def passing (f : Nat → Bool) : Nat → Nat → Nat
  | 0, n => n
  | k + 1, n => if f n then passing f k (n + 1) else n

/-- VACCEPT: the count, and the token after it. -/
def vAccept (a b : BitVec 512) : BitVec 512 :=
  let n := passing (fun i => lane 2 a i == lane 2 b i && lane 2 a i != 0xFFFFFFFF) 16 0
  ofLanes 2 [n, if n < 16 then lane 2 b n else 0xFFFFFFFF]

/-- VACCEPTP: the count of lanes whose draw does not exceed their probability. -/
def vAcceptP (a b : BitVec 512) : BitVec 512 := ofLanes 2 [passing (fun i => fLe (flane b i) (flane a i)) 16 0]

/-! Special functions (R285). -/

/-- 128 and −150 as values. -/
def f128 : FVal := .fin false 128 0
def fm150 : FVal := .fin true 150 0

/-- 2^x (R285). -/
def sfExp2 (w : Word) : Word :=
  match ofFp32 w with
  | .nan => qnan
  | .inf true => 0
  | .inf false => 0x7F800000
  | v => if !v.lt f128 then 0x7F800000 else if v.lt fm150 then 0 else Config.exp2 w

/-- log2 x (R285). -/
def sfLog2 (w : Word) : Word :=
  match ofFp32 w with
  | .nan => qnan
  | .inf true => qnan
  | .inf false => 0x7F800000
  | v => if v.isZero then 0xFF800000 else if v.neg? then qnan else Config.log2 w

/-- 1 / x (R285). -/
def sfRcp (w : Word) : Word :=
  match ofFp32 w with
  | .nan => qnan
  | .inf n => if n then 0x80000000 else 0
  | v => if v.isZero then (if v.neg? then 0xFF800000 else 0x7F800000) else Config.rcp w

/-- 1 / √x (R285). -/
def sfRsqrt (w : Word) : Word :=
  match ofFp32 w with
  | .nan => qnan
  | .inf true => qnan
  | .inf false => 0
  | v => if v.isZero then (if v.neg? then 0xFF800000 else 0x7F800000) else if v.neg? then qnan else Config.rsqrt w

/-! Conversions (R284, R286–R288). -/

/-- A value rounded to an integer, to nearest even. -/
def FVal.toInt : FVal → Int
  | .fin n m e => (if n then -1 else 1) * ((roundMag .rne n 1000000 0 m e).1 : Int)
  | _ => 0

/-- A value saturated to a signed width; a NaN gives 0 (R287). -/
def FVal.satInt (w : Nat) (v : FVal) : Nat :=
  let top : Int := 2 ^ (w - 1) - 1
  let low : Int := -(2 ^ (w - 1))
  match v with
  | .nan => 0
  | .inf n => trunc w (if n then low else top)
  | v => trunc w (max low (min top v.toInt))

/-- The group's element bits and byte length; none where the format or the group is invalid (R286). -/
def cvtGroup (fmt grp : Nat) : Option (EFmt × Nat × Nat) :=
  match efmt fmt with
  | none => none
  | some f =>
    let n := f.bits
    let groups := if n = 16 then 2 else if n = 4 then 8 else 4
    if grp < groups then some (f, 2 * n * grp, 2 * n) else none

/-- Sixteen elements of a group as FP32 lanes (R287). -/
def cvtUp (f : EFmt) (off len : Nat) (v : BitVec 512) : BitVec 512 :=
  let b := slice (vecBytes v) off len
  ofFlanes ((List.range 16).map (fun i => toFp32 (f.value (element f.bits b i))))

/-- One FP32 lane to an element code (R287). -/
def cvtDown (f : EFmt) (w : Word) : Nat :=
  match f with
  | .int n => (ofFp32 w).satInt n
  | .float g _ =>
    if g.kind = .finite then (match ofFp32 w with | .nan => 0 | v => (g.encode .rne .saturate v).1)
    else (convertOut g .rne w).1

/-- Sixteen FP32 lanes packed as a group's bytes, in the low bytes of a vector (R133, R287). -/
def cvtDnGroup (f : EFmt) (v : BitVec 512) : BitVec 512 :=
  BitVec.ofNat 512 ((flanes v).foldr (fun w acc => cvtDown f w % 2 ^ f.bits + 2 ^ f.bits * acc) 0)

/-- Scale bytes as FP32 lanes (R287). -/
def cvtScl (grp : Nat) (v : BitVec 512) : BitVec 512 :=
  ofFlanes ((List.range 16).map (fun i => toFp32 (scaleOf (byteAt (vecBytes v) (16 * grp + i)))))

end Sys2Proof.Machine
end

