-- ==== Sys2Proof/Machine/PxScalar.lean ====
section
/-! DEFINITION. The operations of slots S0 and S1 (R270–R272): each presents its plan to its core. -/

namespace Sys2Proof.Machine

/-- The slot of a scalar operation. -/
def sSlot (h : OpHdr) : Nat := if h.s1 then 1 else 0

/-- A plan that writes one general register. -/
def planG (slot gd lat : Nat) (v : DWord) : Plan := { planNone slot with writes := [(.g gd, lat, v.setWidth 512)] }

/-- A plan that writes one predicate. -/
def planP (slot pd lat : Nat) (b : Bool) : Plan := { planNone slot with writes := [(.p pd, lat, if b then 1 else 0)] }

/-- A plan that traps ILLEGAL_OP (R267). -/
def planIllegal (slot : Nat) : Plan := { planNone slot with fault := some ⟨0x01, 0, 0⟩ }

/-- A three-register operation (R271). -/
def State.aluOp (s : State) (h : OpHdr) (gd ga gb : Fin 64) (lat : Nat) (f : DWord → DWord → DWord) : State :=
  s.present h (sSlot h) (fun c => planG (sSlot h) gd lat (f (c.gr ga) (c.gr gb)))

/-- A compare into a predicate (R271). -/
def State.cmpOp (s : State) (h : OpHdr) (pd : Fin 16) (f : CoreSt → Bool) : State :=
  s.present h (sSlot h) (fun c => planP (sSlot h) pd 1 (f c))

/-- Leading zeros of a register; 64 for zero (R271). -/
def clz64 (x : DWord) : Nat := if x = 0 then 64 else 63 - x.toNat.log2

/-- Bits set in a register (R271). -/
def popc64 (x : DWord) : Nat := (List.range 64).countP (fun i => x.getLsbD i)

/-- Signed comparison of two registers. -/
def sLt (a b : DWord) : Bool := decide (a.toInt < b.toInt)

/-- The condition of CMP (R271). -/
def cmpCond (n : Nat) (a b : DWord) : Bool :=
  match n with
  | 0 => a == b
  | 1 => a != b
  | 2 => sLt a b
  | _ => !sLt b a

/-- The condition of CMPU (R271). -/
def cmpuCond (n : Nat) (a b : DWord) : Bool :=
  match n with
  | 0 => decide (a.toNat < b.toNat)
  | 1 => decide (a.toNat ≤ b.toNat)
  | 2 => (a &&& b) != 0
  | _ => (a &&& b) == 0

/-- The condition of CMPI (R271). -/
def cmpiCond (n : Nat) (a b : DWord) : Bool :=
  match n with
  | 0 => a == b
  | 1 => a != b
  | 2 => sLt a b
  | _ => decide (a.toNat < b.toNat)

/-- The predicate logic of PLOG (R271). -/
def plogFn (n : Nat) (a b : Bool) : Bool :=
  match n with
  | 0 => a && b
  | 1 => a || b
  | 2 => a != b
  | _ => a && !b

/-- A special register as MFS reads it, but for ORBIT, POS and CYCLES (R222, R560). -/
def State.specialReg (s : State) (x : Nat) (c : CoreSt) (n : Nat) : DWord :=
  match n with
  | 0 =>
    if x < 32 then BitVec.ofNat 64 (pxc x + 2 ^ 4 * pxi x + 2 ^ 8 * ((s.coreOwner x).getD 0))
    else BitVec.ofNat 64 (x - 32 + 2 ^ 8)
  | 4 => c.tvec
  | 5 => c.tcause
  | 6 => c.tpc
  | 7 => c.taddr
  | 8 => c.tbr
  | 9 => c.dsLow
  | 10 => c.dsHigh
  | 11 => BitVec.ofNat 64 c.rsBase
  | 12 => BitVec.ofNat 64 c.rsLimit
  | 13 => BitVec.ofNat 64 (c.rstack.length + 2 ^ 16 * c.spilled)
  | 14 => BitVec.ofNat 64 ((if c.compat then 1 else 0) + (if c.inHandler then 2 else 0))
  | _ => c.tfpc

/-- ADD (R271). -/
def execAdd (h : OpHdr) (gd ga gb : Fin 64) (s : State) : Host.Outcome State Fault Refusal :=
  s.answer (s.aluOp h gd ga gb 1 (fun a b => a + b))

/-- SUB (R271). -/
def execSub (h : OpHdr) (gd ga gb : Fin 64) (s : State) : Host.Outcome State Fault Refusal :=
  s.answer (s.aluOp h gd ga gb 1 (fun a b => a - b))

/-- AND (R271). -/
def execAnd (h : OpHdr) (gd ga gb : Fin 64) (s : State) : Host.Outcome State Fault Refusal :=
  s.answer (s.aluOp h gd ga gb 1 (fun a b => a &&& b))

/-- OR (R271). -/
def execOr (h : OpHdr) (gd ga gb : Fin 64) (s : State) : Host.Outcome State Fault Refusal :=
  s.answer (s.aluOp h gd ga gb 1 (fun a b => a ||| b))

/-- XOR (R271). -/
def execXor (h : OpHdr) (gd ga gb : Fin 64) (s : State) : Host.Outcome State Fault Refusal :=
  s.answer (s.aluOp h gd ga gb 1 (fun a b => a ^^^ b))

/-- SHL, count gb[5:0] (R271). -/
def execShl (h : OpHdr) (gd ga gb : Fin 64) (s : State) : Host.Outcome State Fault Refusal :=
  s.answer (s.aluOp h gd ga gb 1 (fun a b => a <<< (b.toNat % 64)))

/-- SHR, count gb[5:0] (R271). -/
def execShr (h : OpHdr) (gd ga gb : Fin 64) (s : State) : Host.Outcome State Fault Refusal :=
  s.answer (s.aluOp h gd ga gb 1 (fun a b => a >>> (b.toNat % 64)))

/-- SAR, count gb[5:0] (R271). -/
def execSar (h : OpHdr) (gd ga gb : Fin 64) (s : State) : Host.Outcome State Fault Refusal :=
  s.answer (s.aluOp h gd ga gb 1 (fun a b => a.sshiftRight (b.toNat % 64)))

/-- ROR, count gb[5:0] (R271). -/
def execRor (h : OpHdr) (gd ga gb : Fin 64) (s : State) : Host.Outcome State Fault Refusal :=
  s.answer (s.aluOp h gd ga gb 1 (fun a b => a.rotateRight (b.toNat % 64)))

/-- MIN, signed (R271). -/
def execMin (h : OpHdr) (gd ga gb : Fin 64) (s : State) : Host.Outcome State Fault Refusal :=
  s.answer (s.aluOp h gd ga gb 1 (fun a b => if sLt b a then b else a))

/-- MAX, signed (R271). -/
def execMax (h : OpHdr) (gd ga gb : Fin 64) (s : State) : Host.Outcome State Fault Refusal :=
  s.answer (s.aluOp h gd ga gb 1 (fun a b => if sLt a b then b else a))

/-- MINU (R271). -/
def execMinu (h : OpHdr) (gd ga gb : Fin 64) (s : State) : Host.Outcome State Fault Refusal :=
  s.answer (s.aluOp h gd ga gb 1 (fun a b => if b.toNat < a.toNat then b else a))

/-- MAXU (R271). -/
def execMaxu (h : OpHdr) (gd ga gb : Fin 64) (s : State) : Host.Outcome State Fault Refusal :=
  s.answer (s.aluOp h gd ga gb 1 (fun a b => if a.toNat < b.toNat then b else a))

/-- MUL, low half, latency 3 (R271). -/
def execMul (h : OpHdr) (gd ga gb : Fin 64) (s : State) : Host.Outcome State Fault Refusal :=
  s.answer (s.aluOp h gd ga gb 3 (fun a b => a * b))

/-- MULHU, latency 3 (R271). -/
def execMulhu (h : OpHdr) (gd ga gb : Fin 64) (s : State) : Host.Outcome State Fault Refusal :=
  s.answer (s.aluOp h gd ga gb 3 (fun a b => BitVec.ofNat 64 (a.toNat * b.toNat / 2 ^ 64)))

/-- MULHS, latency 3 (R271). -/
def execMulhs (h : OpHdr) (gd ga gb : Fin 64) (s : State) : Host.Outcome State Fault Refusal :=
  s.answer (s.aluOp h gd ga gb 3 (fun a b => BitVec.ofInt 64 (a.toInt * b.toInt / 2 ^ 64)))

/-- CLZ (R271). -/
def execClz (h : OpHdr) (gd ga : Fin 64) (s : State) : Host.Outcome State Fault Refusal :=
  s.answer (s.present h (sSlot h) (fun c => planG (sSlot h) gd 1 (BitVec.ofNat 64 (clz64 (c.gr ga)))))

/-- POPC (R271). -/
def execPopc (h : OpHdr) (gd ga : Fin 64) (s : State) : Host.Outcome State Fault Refusal :=
  s.answer (s.present h (sSlot h) (fun c => planG (sSlot h) gd 1 (BitVec.ofNat 64 (popc64 (c.gr ga)))))

/-- CMP (R271). -/
def execCmp (h : OpHdr) (pd : Fin 16) (cond : Fin 4) (ga gb : Fin 64) (s : State) : Host.Outcome State Fault Refusal :=
  s.answer (s.cmpOp h pd (fun c => cmpCond cond (c.gr ga) (c.gr gb)))

/-- CMPU (R271). -/
def execCmpu (h : OpHdr) (pd : Fin 16) (cond : Fin 4) (ga gb : Fin 64) (s : State) : Host.Outcome State Fault Refusal :=
  s.answer (s.cmpOp h pd (fun c => cmpuCond cond (c.gr ga) (c.gr gb)))

/-- CMPI (R271). -/
def execCmpi (h : OpHdr) (pd : Fin 16) (cond : Fin 4) (ga : Fin 64) (imm : BitVec 6) (s : State) : Host.Outcome State Fault Refusal :=
  s.answer (s.cmpOp h pd (fun c => cmpiCond cond (c.gr ga) (imm.signExtend 64)))

/-- PLOG (R271). -/
def execPlog (h : OpHdr) (pd : Fin 16) (fn : Fin 4) (pa pb : Fin 16) (s : State) : Host.Outcome State Fault Refusal :=
  s.answer (s.cmpOp h pd (fun c => plogFn fn (c.pr pa) (c.pr pb)))

/-- ADDI (R271). -/
def execAddi (h : OpHdr) (gd : Fin 64) (imm : BitVec 12) (s : State) : Host.Outcome State Fault Refusal :=
  s.answer (s.present h (sSlot h) (fun c => planG (sSlot h) gd 1 (c.gr gd + imm.signExtend 64)))

/-- LDI (R271). -/
def execLdi (h : OpHdr) (gd : Fin 64) (imm : BitVec 12) (s : State) : Host.Outcome State Fault Refusal :=
  s.answer (s.present h (sSlot h) (fun _ => planG (sSlot h) gd 1 (imm.signExtend 64)))

/-- INSI (R271). -/
def execInsi (h : OpHdr) (gd : Fin 64) (imm : BitVec 12) (s : State) : Host.Outcome State Fault Refusal :=
  s.answer (s.present h (sSlot h) (fun c => planG (sSlot h) gd 1 ((c.gr gd <<< 12) ||| imm.setWidth 64)))

/-- ANDI (R271). -/
def execAndi (h : OpHdr) (gd : Fin 64) (imm : BitVec 12) (s : State) : Host.Outcome State Fault Refusal :=
  s.answer (s.present h (sSlot h) (fun c => planG (sSlot h) gd 1 (c.gr gd &&& imm.signExtend 64)))

/-- MGA (R272). -/
def execMga (h : OpHdr) (g : Fin 64) (x : Fin 16) (s : State) : Host.Outcome State Fault Refusal :=
  s.answer (s.present h (sSlot h) (fun c => { planNone (sSlot h) with writes := [(.a x, 1, (c.gr g).setWidth 512)] }))

/-- MAG (R272). -/
def execMag (h : OpHdr) (g : Fin 64) (x : Fin 16) (s : State) : Host.Outcome State Fault Refusal :=
  s.answer (s.present h (sSlot h) (fun c => planG (sSlot h) g 1 (c.ar x)))

/-- MFS (R272): ORBIT, POS and CYCLES are read in the cycle of issue. -/
def execMfs (h : OpHdr) (g : Fin 64) (x : Fin 16) (s : State) : Host.Outcome State Fault Refusal :=
  s.answer (s.present h (sSlot h) (fun c =>
    if x.val = 1 ∨ x.val = 2 ∨ x.val = 3 then { planNone (sSlot h) with timed := some (g, x) }
    else planG (sSlot h) g 2 (s.specialReg h.core c x)))

/-- MTS (R272). -/
def execMts (h : OpHdr) (g : Fin 64) (x : Fin 16) (s : State) : Host.Outcome State Fault Refusal :=
  s.answer (s.present h (sSlot h) (fun c =>
    if spWritable x then { planNone (sSlot h) with writes := [(.sp x, 2, (c.gr g).setWidth 512)] } else planIllegal (sSlot h)))

/-- The key of a segment register half: s(X[2:0]), X[3] 0 base and 1 limit (R272). -/
def segHalf (x : Fin 16) : Nat := 2 * (x.val % 8) + x.val / 8

/-- MFSEG (R272); not on a service core (R292). -/
def execMfseg (h : OpHdr) (g : Fin 64) (x : Fin 16) (s : State) : Host.Outcome State Fault Refusal :=
  s.answer (s.present h (sSlot h) (fun c =>
    if h.core.val < 32 then planG (sSlot h) g 2 (c.sr (segHalf x)) else planIllegal (sSlot h)))

/-- MTSEG (R272); not on a service core (R292). -/
def execMtseg (h : OpHdr) (g : Fin 64) (x : Fin 16) (s : State) : Host.Outcome State Fault Refusal :=
  s.answer (s.present h (sSlot h) (fun c =>
    if h.core.val < 32 then { planNone (sSlot h) with writes := [(.seg (segHalf x), 2, (c.gr g).setWidth 512)] }
    else planIllegal (sSlot h)))

end Sys2Proof.Machine
end

