-- ==== Sys2Proof/Machine/PxBranch.lean ====
section
/-! DEFINITION. The operations of slot B (R289–R291). -/

namespace Sys2Proof.Machine

/-- A plan of slot B. -/
def planB (a : BAct) : Plan := { planNone 5 with act := a }

/-- A branch's target: words from the offset of the operation itself, modulo 2^17 (R289). -/
def dispTarget (c : CoreSt) (disp : Int) : Nat := trunc 17 ((c.pc + 4 * c.bundle.length : Nat) + 4 * disp)

/-- A register's target: ga[16:2] × 4 (R290). -/
def regTarget (x : DWord) : Nat := x.toNat % 2 ^ 17 / 4 * 4

/-- A wait with its condition formed from gv; the limit is gl[31:0] (R291). -/
def State.waitOp (s : State) (h : OpHdr) (a : WaitArg) (svToo : Bool) (f : Nat → WaitCond) : State :=
  s.present h 5 (fun c =>
    if h.core.val < 32 ∨ svToo then planB (.wait (f (c.gr a.gv).toNat) a.pd ((c.gr a.gl).toNat % 2 ^ 32)) else planIllegal 5)

/-- NOP (R290). -/
def execNop (h : OpHdr) (s : State) : Host.Outcome State Fault Refusal :=
  s.answer (s.present h 5 (fun _ => planB .none))

/-- BR (R290). -/
def execBr (h : OpHdr) (tgt : BitVec 15) (s : State) : Host.Outcome State Fault Refusal :=
  s.answer (s.present h 5 (fun _ => planB (.branch (4 * tgt.toNat))))

/-- BRT (R290): taken when pc reads 1 at issue. -/
def execBrt (h : OpHdr) (pc : Fin 16) (disp : BitVec 14) (s : State) : Host.Outcome State Fault Refusal :=
  s.answer (s.present h 5 (fun c => planB (if c.pr pc then .branch (dispTarget c disp.toInt) else .notTaken)))

/-- BRF (R290): taken when pc reads 0 at issue. -/
def execBrf (h : OpHdr) (pc : Fin 16) (disp : BitVec 14) (s : State) : Host.Outcome State Fault Refusal :=
  s.answer (s.present h 5 (fun c => planB (if c.pr pc then .notTaken else .branch (dispTarget c disp.toInt))))

/-- BRI (R290). -/
def execBri (h : OpHdr) (ga : Fin 64) (s : State) : Host.Outcome State Fault Refusal :=
  s.answer (s.present h 5 (fun c => planB (.branch (regTarget (c.gr ga)))))

/-- CALL (R242, R290). -/
def execCall (h : OpHdr) (tgt : BitVec 15) (s : State) : Host.Outcome State Fault Refusal :=
  s.answer (s.present h 5 (fun _ => planB (.call (4 * tgt.toNat))))

/-- CALLI (R242, R290). -/
def execCalli (h : OpHdr) (ga : Fin 64) (s : State) : Host.Outcome State Fault Refusal :=
  s.answer (s.present h 5 (fun c => planB (.call (regTarget (c.gr ga)))))

/-- RET (R243, R290). -/
def execRet (h : OpHdr) (s : State) : Host.Outcome State Fault Refusal :=
  s.answer (s.present h 5 (fun _ => planB .ret))

/-- BDEC (R290): ga − 1 at latency 1; taken when the result is not zero. -/
def execBdec (h : OpHdr) (ga : Fin 64) (disp : BitVec 12) (s : State) : Host.Outcome State Fault Refusal :=
  s.answer (s.present h 5 (fun c =>
    let n := c.gr ga - 1
    { planNone 5 with
      writes := [(.g ga, 1, n.setWidth 512)]
      act := if n = 0 then .notTaken else .branch (dispTarget c disp.toInt) }))

/-- WAIT on a completion counter (R291); not on a service core (R292). -/
def execWaitCompletionCounter (h : OpHdr) (a : WaitArg) (s : State) : Host.Outcome State Fault Refusal :=
  s.answer (s.waitOp h a false (fun v => .counter (bitsOf v 36 2) (bitsOf v 32 4) (bitsOf v 0 32)))

/-- WAIT on orbit and slot (R291). -/
def execWaitOrbitSlot (h : OpHdr) (a : WaitArg) (s : State) : Host.Outcome State Fault Refusal :=
  s.answer (s.waitOp h a true (fun v => .orbitSlot (bitsOf v 0 48) (bitsOf v 48 6)))

/-- WAIT on a doorbell word (R291); not on a service core (R292). -/
def execWaitDoorbell (h : OpHdr) (a : WaitArg) (s : State) : Host.Outcome State Fault Refusal :=
  s.answer (s.waitOp h a false (fun v => .doorbell (bitsOf v 0 3)))

/-- HALT (R290). -/
def execHalt (h : OpHdr) (s : State) : Host.Outcome State Fault Refusal :=
  s.answer (s.present h 5 (fun _ => planB .halt))

/-- TRAP (R290): SOFTWARE with its immediate as detail. -/
def execTrap (h : OpHdr) (imm : Byte) (s : State) : Host.Outcome State Fault Refusal :=
  s.answer (s.present h 5 (fun _ => { planNone 5 with fault := some ⟨0x13, imm.toNat, 0⟩ }))

/-- TRET (R254). -/
def execTret (h : OpHdr) (s : State) : Host.Outcome State Fault Refusal :=
  s.answer (s.present h 5 (fun _ => planB .tret))

end Sys2Proof.Machine
end

