-- ==== Sys2Proof/Machine/PxLoad.lean ====
section
/-! DEFINITION. The operations of slot L (R273–R277). -/

namespace Sys2Proof.Machine

/-- The address that a load or store forms, and the address register's update (R238, R274). -/
def lsAddr (c : CoreSt) (a : LsArg) (size : Nat) : DWord × Option DWord :=
  let b := c.ar a.aa
  let sz := BitVec.ofNat 64 size
  match a.mode.val with
  | 0 => (b + a.ofs.signExtend 64 * sz, none)
  | 1 => (b, some (b + a.ofs.setWidth 64 * sz))
  | 2 => (b - a.ofs.setWidth 64 * sz, some (b - a.ofs.setWidth 64 * sz))
  | _ => (b + (c.gr (a.ofs.toNat % 64) <<< (if a.ofs.getLsbD 6 then size.log2 else 0)), none)

/-- The plan of an access with its address register's update, of latency 1 (R230). -/
def planAccess (c : CoreSt) (a : LsArg) (size : Nat) (k : AccKind) : Plan :=
  let (addr, upd) := lsAddr c a size
  { planNone 2 with
    access := some ⟨addr.toNat, size, a.aa, k⟩
    writes := match upd with
      | some x => [(.a a.aa, 1, x.setWidth 512)]
      | none => [] }

/-- A scalar load (R275). -/
def State.loadOp (s : State) (h : OpHdr) (a : LsArg) (size : Nat) (signed : Bool) : State :=
  s.present h 2 (fun c => planAccess c a size (.load signed (.g a.d)))

/-- A scalar store (R275). -/
def State.storeOp (s : State) (h : OpHdr) (a : LsArg) (size : Nat) : State :=
  s.present h 2 (fun c => planAccess c a size (.store (le size (c.gr a.d).toNat)))

/-- An atomic: base and offset, no update (R276). -/
def State.atomOp (s : State) (h : OpHdr) (gd : Fin 64) (aa : Fin 16) (ofs : BitVec 7) (wide swap : Bool) : State :=
  let size := if wide then 8 else 4
  s.present h 2 (fun c => { planNone 2 with
    access := some ⟨(c.ar aa + ofs.signExtend 64 * BitVec.ofNat 64 size).toNat, size, aa, .atom wide swap (c.gr gd) gd⟩ })

/-- LD8U (R275). -/
def execLd8u (h : OpHdr) (a : LsArg) (s : State) : Host.Outcome State Fault Refusal :=
  s.answer (s.loadOp h a 1 false)

/-- LD16U (R275). -/
def execLd16u (h : OpHdr) (a : LsArg) (s : State) : Host.Outcome State Fault Refusal :=
  s.answer (s.loadOp h a 2 false)

/-- LD32U (R275). -/
def execLd32u (h : OpHdr) (a : LsArg) (s : State) : Host.Outcome State Fault Refusal :=
  s.answer (s.loadOp h a 4 false)

/-- LD64 (R275). -/
def execLd64 (h : OpHdr) (a : LsArg) (s : State) : Host.Outcome State Fault Refusal :=
  s.answer (s.loadOp h a 8 false)

/-- LD8S (R275). -/
def execLd8s (h : OpHdr) (a : LsArg) (s : State) : Host.Outcome State Fault Refusal :=
  s.answer (s.loadOp h a 1 true)

/-- LD16S (R275). -/
def execLd16s (h : OpHdr) (a : LsArg) (s : State) : Host.Outcome State Fault Refusal :=
  s.answer (s.loadOp h a 2 true)

/-- LD32S (R275). -/
def execLd32s (h : OpHdr) (a : LsArg) (s : State) : Host.Outcome State Fault Refusal :=
  s.answer (s.loadOp h a 4 true)

/-- ST8 (R275). -/
def execSt8 (h : OpHdr) (a : LsArg) (s : State) : Host.Outcome State Fault Refusal :=
  s.answer (s.storeOp h a 1)

/-- ST16 (R275). -/
def execSt16 (h : OpHdr) (a : LsArg) (s : State) : Host.Outcome State Fault Refusal :=
  s.answer (s.storeOp h a 2)

/-- ST32 (R275). -/
def execSt32 (h : OpHdr) (a : LsArg) (s : State) : Host.Outcome State Fault Refusal :=
  s.answer (s.storeOp h a 4)

/-- ST64 (R275). -/
def execSt64 (h : OpHdr) (a : LsArg) (s : State) : Host.Outcome State Fault Refusal :=
  s.answer (s.storeOp h a 8)

/-- VLD (R275): D[5] is zero; not on a service core (R292). -/
def execVld (h : OpHdr) (a : LsArg) (s : State) : Host.Outcome State Fault Refusal :=
  s.answer (s.present h 2 (fun c =>
    if h.core.val < 32 ∧ a.d.val < 32 then planAccess c a 64 (.load false (.v a.d)) else planIllegal 2))

/-- VST (R275): D[5] is zero; not on a service core (R292). -/
def execVst (h : OpHdr) (a : LsArg) (s : State) : Host.Outcome State Fault Refusal :=
  s.answer (s.present h 2 (fun c =>
    if h.core.val < 32 ∧ a.d.val < 32 then planAccess c a 64 (.store (vecBytes (c.vr a.d))) else planIllegal 2))

/-- AtomAdd32 (R276). -/
def execAtomAdd32 (h : OpHdr) (gd : Fin 64) (aa : Fin 16) (ofs : BitVec 7) (s : State) : Host.Outcome State Fault Refusal :=
  s.answer (s.atomOp h gd aa ofs false false)

/-- AtomAdd64 (R276). -/
def execAtomAdd64 (h : OpHdr) (gd : Fin 64) (aa : Fin 16) (ofs : BitVec 7) (s : State) : Host.Outcome State Fault Refusal :=
  s.answer (s.atomOp h gd aa ofs true false)

/-- AtomSwap32 (R276). -/
def execAtomSwap32 (h : OpHdr) (gd : Fin 64) (aa : Fin 16) (ofs : BitVec 7) (s : State) : Host.Outcome State Fault Refusal :=
  s.answer (s.atomOp h gd aa ofs false true)

/-- AtomSwap64 (R276). -/
def execAtomSwap64 (h : OpHdr) (gd : Fin 64) (aa : Fin 16) (ofs : BitVec 7) (s : State) : Host.Outcome State Fault Refusal :=
  s.answer (s.atomOp h gd aa ofs true true)

/-- ENQ (R249, R276); not on a service core (R292). -/
def execEnq (h : OpHdr) (vs : Fin 32) (aa pd : Fin 16) (s : State) : Host.Outcome State Fault Refusal :=
  s.answer (s.present h 2 (fun c =>
    if h.core.val < 32 then
      { planNone 2 with access := some ⟨(c.ar aa).toNat, 64, aa, .enq (vecBytes (c.vr vs)) pd⟩ }
    else planIllegal 2))

/-- FENCE (R240). -/
def execFence (h : OpHdr) (s : State) : Host.Outcome State Fault Refusal :=
  s.answer (s.present h 2 (fun _ => { planNone 2 with fence := true }))

/-- AADDI (R277). -/
def execAaddi (h : OpHdr) (ad aa : Fin 16) (imm : Byte) (s : State) : Host.Outcome State Fault Refusal :=
  s.answer (s.present h 2 (fun c => { planNone 2 with writes := [(.a ad, 1, (c.ar aa + imm.signExtend 64).setWidth 512)] }))

/-- AADD (R277). -/
def execAadd (h : OpHdr) (ad aa : Fin 16) (g : Fin 64) (s : State) : Host.Outcome State Fault Refusal :=
  s.answer (s.present h 2 (fun c => { planNone 2 with writes := [(.a ad, 1, (c.ar aa + c.gr g).setWidth 512)] }))

end Sys2Proof.Machine
end

