-- ==== Sys2Proof/Machine/PxVector.lean ====
section
/-! DEFINITION. The operations of slots V and F (R278–R288). -/

namespace Sys2Proof.Machine

/-- A plan that writes one vector register. -/
def planV (vd lat : Nat) (v : BitVec 512) : Plan := { planNone 3 with writes := [(.v vd, lat, v)] }

/-- A lane operation on va and vb at every lane width (R279). -/
def State.vecOp (s : State) (h : OpHdr) (a : VArg) (lat : Nat) (f : BitVec 512 → BitVec 512 → BitVec 512) : State :=
  s.present h 3 (fun c => planV a.vd lat (f (c.vr a.va) (c.vr a.vb)))

/-- An FP32 operation: LW 2 or ILLEGAL_OP (R279). -/
def State.fvecOp (s : State) (h : OpHdr) (a : VArg) (lat : Nat) (f : CoreSt → BitVec 512) : State :=
  s.present h 3 (fun c => if a.lw.val = 2 then planV a.vd lat (f c) else planIllegal 3)

/-- A single-source operation: vb is zero (R279). -/
def State.redOp (s : State) (h : OpHdr) (a : VArg) (f : BitVec 512 → BitVec 512) : State :=
  s.present h 3 (fun c => if a.vb.val = 0 then planV a.vd 6 (f (c.vr a.va)) else planIllegal 3)

/-- A single-source FP32 operation (R279). -/
def State.fredOp (s : State) (h : OpHdr) (a : VArg) (f : List Word → BitVec 512) : State :=
  s.present h 3 (fun c => if a.lw.val = 2 ∧ a.vb.val = 0 then planV a.vd 6 (f (flanes (c.vr a.va))) else planIllegal 3)

/-- VADD (R279). -/
def execVadd (h : OpHdr) (a : VArg) (s : State) : Host.Outcome State Fault Refusal :=
  s.answer (s.vecOp h a 2 (lanes2 a.lw (fun x y => x + y)))

/-- VSUB (R279). -/
def execVsub (h : OpHdr) (a : VArg) (s : State) : Host.Outcome State Fault Refusal :=
  s.answer (s.vecOp h a 2 (lanes2 a.lw (fun x y => x + 2 ^ laneBits a.lw - y)))

/-- VMIN (R279). -/
def execVmin (h : OpHdr) (a : VArg) (s : State) : Host.Outcome State Fault Refusal :=
  s.answer (s.vecOp h a 2 (lanes2 a.lw (fun x y => if sext (laneBits a.lw) y < sext (laneBits a.lw) x then y else x)))

/-- VMAX (R279). -/
def execVmax (h : OpHdr) (a : VArg) (s : State) : Host.Outcome State Fault Refusal :=
  s.answer (s.vecOp h a 2 (lanes2 a.lw (fun x y => if sext (laneBits a.lw) x < sext (laneBits a.lw) y then y else x)))

/-- VMINU (R279). -/
def execVminu (h : OpHdr) (a : VArg) (s : State) : Host.Outcome State Fault Refusal :=
  s.answer (s.vecOp h a 2 (lanes2 a.lw (fun x y => Nat.min x y)))

/-- VMAXU (R279). -/
def execVmaxu (h : OpHdr) (a : VArg) (s : State) : Host.Outcome State Fault Refusal :=
  s.answer (s.vecOp h a 2 (lanes2 a.lw (fun x y => Nat.max x y)))

/-- VAND (R279). -/
def execVand (h : OpHdr) (a : VArg) (s : State) : Host.Outcome State Fault Refusal :=
  s.answer (s.vecOp h a 2 (fun x y => x &&& y))

/-- VOR (R279). -/
def execVor (h : OpHdr) (a : VArg) (s : State) : Host.Outcome State Fault Refusal :=
  s.answer (s.vecOp h a 2 (fun x y => x ||| y))

/-- VXOR (R279). -/
def execVxor (h : OpHdr) (a : VArg) (s : State) : Host.Outcome State Fault Refusal :=
  s.answer (s.vecOp h a 2 (fun x y => x ^^^ y))

/-- VSHL (R279). -/
def execVshl (h : OpHdr) (a : VArg) (s : State) : Host.Outcome State Fault Refusal :=
  s.answer (s.vecOp h a 2 (lanes2 a.lw (fun x y => x * 2 ^ (y % laneBits a.lw))))

/-- VSHR (R279). -/
def execVshr (h : OpHdr) (a : VArg) (s : State) : Host.Outcome State Fault Refusal :=
  s.answer (s.vecOp h a 2 (lanes2 a.lw (fun x y => x / 2 ^ (y % laneBits a.lw))))

/-- VSAR (R279). -/
def execVsar (h : OpHdr) (a : VArg) (s : State) : Host.Outcome State Fault Refusal :=
  s.answer (s.vecOp h a 2 (lanes2 a.lw (fun x y => trunc (laneBits a.lw) (sext (laneBits a.lw) x / 2 ^ (y % laneBits a.lw)))))

/-- VCMPEQ (R279). -/
def execVcmpeq (h : OpHdr) (a : VArg) (s : State) : Host.Outcome State Fault Refusal :=
  s.answer (s.vecOp h a 2 (lanes2 a.lw (fun x y => laneMask a.lw (x == y))))

/-- VCMPLT (R279). -/
def execVcmplt (h : OpHdr) (a : VArg) (s : State) : Host.Outcome State Fault Refusal :=
  s.answer (s.vecOp h a 2 (lanes2 a.lw (fun x y => laneMask a.lw (decide (sext (laneBits a.lw) x < sext (laneBits a.lw) y)))))

/-- VCMPLTU (R279). -/
def execVcmpltu (h : OpHdr) (a : VArg) (s : State) : Host.Outcome State Fault Refusal :=
  s.answer (s.vecOp h a 2 (lanes2 a.lw (fun x y => laneMask a.lw (decide (x < y)))))

/-- VSEL (R279): bitwise, vd as read at issue. -/
def execVsel (h : OpHdr) (a : VArg) (s : State) : Host.Outcome State Fault Refusal :=
  s.answer (s.present h 3 (fun c =>
    planV a.vd 2 ((c.vr a.vd &&& c.vr a.va) ||| (~~~(c.vr a.vd) &&& c.vr a.vb))))

/-- VBCAST (R279). -/
def execVbcast (h : OpHdr) (lw : Fin 4) (v : Fin 32) (g : Fin 64) (s : State) : Host.Outcome State Fault Refusal :=
  s.answer (s.present h 3 (fun c =>
    planV v 2 (ofLanes lw (List.replicate (laneCount lw) (c.gr g).toNat))))

/-- VEXT (R279): LANE below the lane count. -/
def execVext (h : OpHdr) (lw : Fin 4) (v : Fin 32) (g : Fin 64) (ln : Fin 16) (s : State) : Host.Outcome State Fault Refusal :=
  s.answer (s.present h 3 (fun c =>
    if ln.val < laneCount lw then planG 3 g 2 (BitVec.ofNat 64 (lane lw (c.vr v) ln)) else planIllegal 3))

/-- VPERM (R279). -/
def execVperm (h : OpHdr) (a : VArg) (s : State) : Host.Outcome State Fault Refusal :=
  s.answer (s.vecOp h a 3 (fun x y => ofLanes a.lw ((lanes a.lw y).map (fun i => lane a.lw x (i % laneCount a.lw)))))

/-- VSLIDE (R279). -/
def execVslide (h : OpHdr) (a : VArg) (s : State) : Host.Outcome State Fault Refusal :=
  s.answer (s.vecOp h a 3 (fun x y =>
    let n := lane a.lw y 0
    ofLanes a.lw ((List.range (laneCount a.lw)).map (fun i => if i + n < laneCount a.lw then lane a.lw x (i + n) else 0))))

/-- VFADD (R279, R280). -/
def execVfadd (h : OpHdr) (a : VArg) (s : State) : Host.Outcome State Fault Refusal :=
  s.answer (s.fvecOp h a 4 (fun c => flanes2 fAdd (c.vr a.va) (c.vr a.vb)))

/-- VFSUB (R279, R280). -/
def execVfsub (h : OpHdr) (a : VArg) (s : State) : Host.Outcome State Fault Refusal :=
  s.answer (s.fvecOp h a 4 (fun c => flanes2 fSub (c.vr a.va) (c.vr a.vb)))

/-- VFMUL (R279, R280). -/
def execVfmul (h : OpHdr) (a : VArg) (s : State) : Host.Outcome State Fault Refusal :=
  s.answer (s.fvecOp h a 4 (fun c => flanes2 fMul (c.vr a.va) (c.vr a.vb)))

/-- VFMIN (R279, R280). -/
def execVfmin (h : OpHdr) (a : VArg) (s : State) : Host.Outcome State Fault Refusal :=
  s.answer (s.fvecOp h a 4 (fun c => flanes2 fMin (c.vr a.va) (c.vr a.vb)))

/-- VFMAX (R279, R280). -/
def execVfmax (h : OpHdr) (a : VArg) (s : State) : Host.Outcome State Fault Refusal :=
  s.answer (s.fvecOp h a 4 (fun c => flanes2 fMax (c.vr a.va) (c.vr a.vb)))

/-- VFMA (R279): va × vb + vd, one rounding. -/
def execVfma (h : OpHdr) (a : VArg) (s : State) : Host.Outcome State Fault Refusal :=
  s.answer (s.fvecOp h a 4 (fun c =>
    ofFlanes ((List.range 16).map (fun i => fMa (flane (c.vr a.va) i) (flane (c.vr a.vb) i) (flane (c.vr a.vd) i)))))

/-- VFCMPLT (R279, R280). -/
def execVfcmplt (h : OpHdr) (a : VArg) (s : State) : Host.Outcome State Fault Refusal :=
  s.answer (s.fvecOp h a 4 (fun c =>
    flanes2 (fun x y => if fLt x y then 0xFFFFFFFF else 0) (c.vr a.va) (c.vr a.vb)))

/-- VFCMPLE (R279, R280). -/
def execVfcmple (h : OpHdr) (a : VArg) (s : State) : Host.Outcome State Fault Refusal :=
  s.answer (s.fvecOp h a 4 (fun c =>
    flanes2 (fun x y => if fLe x y then 0xFFFFFFFF else 0) (c.vr a.va) (c.vr a.vb)))

/-- VREDADD (R279). -/
def execVredadd (h : OpHdr) (a : VArg) (s : State) : Host.Outcome State Fault Refusal :=
  s.answer (s.redOp h a (fun x => ofLanes a.lw [(lanes a.lw x).sum]))

/-- VREDMAX (R279), signed. -/
def execVredmax (h : OpHdr) (a : VArg) (s : State) : Host.Outcome State Fault Refusal :=
  s.answer (s.redOp h a (fun x =>
    ofLanes a.lw [(lanes a.lw x).foldl (fun m y => if sext (laneBits a.lw) m < sext (laneBits a.lw) y then y else m) (lane a.lw x 0)]))

/-- VREDMIN (R279), signed. -/
def execVredmin (h : OpHdr) (a : VArg) (s : State) : Host.Outcome State Fault Refusal :=
  s.answer (s.redOp h a (fun x =>
    ofLanes a.lw [(lanes a.lw x).foldl (fun m y => if sext (laneBits a.lw) y < sext (laneBits a.lw) m then y else m) (lane a.lw x 0)]))

/-- VFREDADD (R281). -/
def execVfredadd (h : OpHdr) (a : VArg) (s : State) : Host.Outcome State Fault Refusal :=
  s.answer (s.fredOp h a (fun l => ofFlanes [fRedAdd l]))

/-- VFREDMAX (R280). -/
def execVfredmax (h : OpHdr) (a : VArg) (s : State) : Host.Outcome State Fault Refusal :=
  s.answer (s.fredOp h a (fun l => ofFlanes [(fArgMax l).1]))

/-- VFARGMAX (R280). -/
def execVfargmax (h : OpHdr) (a : VArg) (s : State) : Host.Outcome State Fault Refusal :=
  s.answer (s.fredOp h a (fun l => ofLanes 2 [(fArgMax l).1.toNat, (fArgMax l).2]))

/-- VFSCAN (R281). -/
def execVfscan (h : OpHdr) (a : VArg) (s : State) : Host.Outcome State Fault Refusal :=
  s.answer (s.fredOp h a (fun l => ofFlanes (fScanLanes l)))

/-- VSORTK (R280). -/
def execVsortk (h : OpHdr) (a : VArg) (s : State) : Host.Outcome State Fault Refusal :=
  s.answer (s.fredOp h a (fun l => ofLanes 2 (sortIdx l)))

/-- VACCEPT (R282): LW 2. -/
def execVaccept (h : OpHdr) (a : VArg) (s : State) : Host.Outcome State Fault Refusal :=
  s.answer (s.fvecOp h a 6 (fun c => vAccept (c.vr a.va) (c.vr a.vb)))

/-- VACCEPTP (R282). -/
def execVacceptp (h : OpHdr) (a : VArg) (s : State) : Host.Outcome State Fault Refusal :=
  s.answer (s.fvecOp h a 6 (fun c => vAcceptP (c.vr a.va) (c.vr a.vb)))

/-! Slot F (R283, R284). -/

/-- A plan of slot F that writes a vector register. -/
def planFv (vd lat : Nat) (v : BitVec 512) : Plan := { planNone 4 with writes := [(.v vd, lat, v)] }

/-- A function of FP32 values in both forms: GRP and FMT are zero in the vector form (R284). -/
def State.sfOp (s : State) (h : OpHdr) (a : FArg) (f : Word → Word) : State :=
  s.present h 4 (fun c =>
    match a with
    | .fv vd va grp fmt =>
      if grp = 0 ∧ fmt = 0 then planFv vd 8 (ofFlanes ((flanes (c.vr va)).map f)) else planIllegal 4
    | .fs gd ga => planG 4 gd 8 ((f ((c.gr ga).setWidth 32)).setWidth 64))

/-- A conversion of the vector form only (R284). -/
def State.cvtOp (s : State) (h : OpHdr) (a : FArg) (f : CoreSt → Nat → Nat → Nat → Nat → Plan) : State :=
  s.present h 4 (fun c =>
    match a with
    | .fv vd va grp fmt => f c vd va grp.toNat fmt.toNat
    | .fs _ _ => planIllegal 4)

/-- FEXP2 (R284, R285). -/
def execFexp2 (h : OpHdr) (a : FArg) (s : State) : Host.Outcome State Fault Refusal :=
  s.answer (s.sfOp h a sfExp2)

/-- FLOG2 (R284, R285). -/
def execFlog2 (h : OpHdr) (a : FArg) (s : State) : Host.Outcome State Fault Refusal :=
  s.answer (s.sfOp h a sfLog2)

/-- FRCP (R284, R285). -/
def execFrcp (h : OpHdr) (a : FArg) (s : State) : Host.Outcome State Fault Refusal :=
  s.answer (s.sfOp h a sfRcp)

/-- FRSQRT (R284, R285). -/
def execFrsqrt (h : OpHdr) (a : FArg) (s : State) : Host.Outcome State Fault Refusal :=
  s.answer (s.sfOp h a sfRsqrt)

/-- CVTUP (R284, R286, R287). -/
def execCvtup (h : OpHdr) (a : FArg) (s : State) : Host.Outcome State Fault Refusal :=
  s.answer (s.cvtOp h a (fun c vd va grp fmt =>
    match cvtGroup fmt grp with
    | some (f, off, len) => planFv vd 4 (cvtUp f off len (c.vr va))
    | none => planIllegal 4))

/-- CVTDN (R284, R286–R288): only the group's bytes of vd are written. -/
def execCvtdn (h : OpHdr) (a : FArg) (s : State) : Host.Outcome State Fault Refusal :=
  s.answer (s.cvtOp h a (fun c vd va grp fmt =>
    match cvtGroup fmt grp with
    | some (f, off, len) => { planNone 4 with writes := [(.vpart vd off len, 4, cvtDnGroup f (c.vr va))] }
    | none => planIllegal 4))

/-- CVTSCL (R284, R287): GRP 0–3. -/
def execCvtscl (h : OpHdr) (a : FArg) (s : State) : Host.Outcome State Fault Refusal :=
  s.answer (s.cvtOp h a (fun c vd va grp _ =>
    if grp < 4 then planFv vd 4 (cvtScl grp (c.vr va)) else planIllegal 4))

/-- CVTI2F (R284): INT32 lanes, or a signed 64-bit register, to FP32. -/
def execCvti2f (h : OpHdr) (a : FArg) (s : State) : Host.Outcome State Fault Refusal :=
  s.answer (s.present h 4 (fun c =>
    match a with
    | .fv vd va grp fmt =>
      if grp = 0 ∧ fmt = 0 then
        planFv vd 4 (ofFlanes ((flanes (c.vr va)).map (fun w => toFp32 (FVal.ofInt w.toInt 0 false))))
      else planIllegal 4
    | .fs gd ga => planG 4 gd 4 ((toFp32 (FVal.ofInt (c.gr ga).toInt 0 false)).setWidth 64)))

/-- CVTF2I (R284, R287): FP32 to saturated INT32 lanes, or to a signed 64-bit register. -/
def execCvtf2i (h : OpHdr) (a : FArg) (s : State) : Host.Outcome State Fault Refusal :=
  s.answer (s.present h 4 (fun c =>
    match a with
    | .fv vd va grp fmt =>
      if grp = 0 ∧ fmt = 0 then planFv vd 4 (ofLanes 2 ((flanes (c.vr va)).map (fun w => (ofFp32 w).satInt 32)))
      else planIllegal 4
    | .fs gd ga => planG 4 gd 4 (BitVec.ofNat 64 ((ofFp32 ((c.gr ga).setWidth 32)).satInt 64))))

end Sys2Proof.Machine
end

