-- ==== Sys2Proof/Machine/Dispatch.lean ====
section
/-! DEFINITION. The meaning of every command: one arm per constructor of Instr. -/

namespace Sys2Proof.Machine

def exec (i : Instr) (s : State) : Host.Outcome State Fault Refusal :=
  match i with
  | .regWrite src a v => Sys2Proof.Machine.execRegWrite src a v s
  | .orbCountLoRead src => Sys2Proof.Machine.execOrbCountLoRead src s
  | .orbitMark => Sys2Proof.Machine.execOrbitMark s
  | .slotBoundary slot => Sys2Proof.Machine.execSlotBoundary slot s
  | .ephCommit src v => Sys2Proof.Machine.execEphCommit src v s
  | .ephCommitEffect => Sys2Proof.Machine.execEphCommitEffect s
  | .ephSlotWrite src n v => Sys2Proof.Machine.execEphSlotWrite src n v s
  | .ephModeWrite src v => Sys2Proof.Machine.execEphModeWrite src v s
  | .ephModeApply => Sys2Proof.Machine.execEphModeApply s
  | .lineRequestAdmit rq => Sys2Proof.Machine.execLineRequestAdmit rq s
  | .memLineRead rq xfer => Sys2Proof.Machine.execMemLineRead rq xfer s
  | .memLineWrite rq data => Sys2Proof.Machine.execMemLineWrite rq data s
  | .memPartialWrite rq data => Sys2Proof.Machine.execMemPartialWrite rq data s
  | .remapSwapStart p c => Sys2Proof.Machine.execRemapSwapStart p c s
  | .swapGroupCopy p ix => Sys2Proof.Machine.execSwapGroupCopy p ix s
  | .scrubGroup ch => Sys2Proof.Machine.execScrubGroup ch s
  | .mfSpareCmd src v => Sys2Proof.Machine.execMfSpareCmd src v s
  | .spareCopyPage => Sys2Proof.Machine.execSpareCopyPage s
  | .spareSwitch => Sys2Proof.Machine.execSpareSwitch s
  | .mfHashKeyWrite src n v => Sys2Proof.Machine.execMfHashKeyWrite src n v s
  | .mfInitCmd src v => Sys2Proof.Machine.execMfInitCmd src v s
  | .packageInitDone pkg => Sys2Proof.Machine.execPackageInitDone pkg s
  | .scrRead c port a len => Sys2Proof.Machine.execScrRead c port a len s
  | .scrFullWrite c port a data => Sys2Proof.Machine.execScrFullWrite c port a data s
  | .scrPartialWrite c port a data => Sys2Proof.Machine.execScrPartialWrite c port a data s
  | .scrAtomicAdd c port wide a x => Sys2Proof.Machine.execScrAtomicAdd c port wide a x s
  | .scrAtomicSwap c port wide a x => Sys2Proof.Machine.execScrAtomicSwap c port wide a x s
  | .scrCorrectionWriteback c b => Sys2Proof.Machine.execScrCorrectionWriteback c b s
  | .scrOwnWrite w c b v => Sys2Proof.Machine.execScrOwnWrite w c b v s
  | .scrHandoverComplete c b => Sys2Proof.Machine.execScrHandoverComplete c b s
  | .scrInitCmd src v => Sys2Proof.Machine.execScrInitCmd src v s
  | .scratchInitDone c => Sys2Proof.Machine.execScratchInitDone c s
  | .engEnqueue e w => Sys2Proof.Machine.execEngEnqueue e w s
  | .engNop e => Sys2Proof.Machine.execEngNop e s
  | .engMma e => Sys2Proof.Machine.execEngMma e s
  | .engDrain e => Sys2Proof.Machine.execEngDrain e s
  | .engClear e => Sys2Proof.Machine.execEngClear e s
  | .engSeed e => Sys2Proof.Machine.execEngSeed e s
  | .engCommandComplete e => Sys2Proof.Machine.execEngCommandComplete e s
  | .engHeadCompleteDeferred e => Sys2Proof.Machine.execEngHeadCompleteDeferred e s
  | .engFlush src e => Sys2Proof.Machine.execEngFlush src e s
  | .engCplPop src e => Sys2Proof.Machine.execEngCplPop src e s
  | .engCcWrite src e ix v inc => Sys2Proof.Machine.execEngCcWrite src e ix v inc s
  | .trowelFetchStart e => Sys2Proof.Machine.execTrowelFetchStart e s
  | .trowelLineReturn e => Sys2Proof.Machine.execTrowelLineReturn e s
  | .trowelBlockDecode e => Sys2Proof.Machine.execTrowelBlockDecode e s
  | .trwTableCommit w c t v => Sys2Proof.Machine.execTrwTableCommit w c t v s
  | .clusterSubstitution => Sys2Proof.Machine.execClusterSubstitution s
  | .sprClCmd src v => Sys2Proof.Machine.execSprClCmd src v s
  | .add h gd ga gb => Sys2Proof.Machine.execAdd h gd ga gb s
  | .sub h gd ga gb => Sys2Proof.Machine.execSub h gd ga gb s
  | .and h gd ga gb => Sys2Proof.Machine.execAnd h gd ga gb s
  | .or h gd ga gb => Sys2Proof.Machine.execOr h gd ga gb s
  | .xor h gd ga gb => Sys2Proof.Machine.execXor h gd ga gb s
  | .shl h gd ga gb => Sys2Proof.Machine.execShl h gd ga gb s
  | .shr h gd ga gb => Sys2Proof.Machine.execShr h gd ga gb s
  | .sar h gd ga gb => Sys2Proof.Machine.execSar h gd ga gb s
  | .ror h gd ga gb => Sys2Proof.Machine.execRor h gd ga gb s
  | .min h gd ga gb => Sys2Proof.Machine.execMin h gd ga gb s
  | .max h gd ga gb => Sys2Proof.Machine.execMax h gd ga gb s
  | .minu h gd ga gb => Sys2Proof.Machine.execMinu h gd ga gb s
  | .maxu h gd ga gb => Sys2Proof.Machine.execMaxu h gd ga gb s
  | .clz h gd ga => Sys2Proof.Machine.execClz h gd ga s
  | .popc h gd ga => Sys2Proof.Machine.execPopc h gd ga s
  | .mul h gd ga gb => Sys2Proof.Machine.execMul h gd ga gb s
  | .mulhu h gd ga gb => Sys2Proof.Machine.execMulhu h gd ga gb s
  | .mulhs h gd ga gb => Sys2Proof.Machine.execMulhs h gd ga gb s
  | .cmp h pd cond ga gb => Sys2Proof.Machine.execCmp h pd cond ga gb s
  | .cmpu h pd cond ga gb => Sys2Proof.Machine.execCmpu h pd cond ga gb s
  | .addi h gd imm => Sys2Proof.Machine.execAddi h gd imm s
  | .ldi h gd imm => Sys2Proof.Machine.execLdi h gd imm s
  | .insi h gd imm => Sys2Proof.Machine.execInsi h gd imm s
  | .andi h gd imm => Sys2Proof.Machine.execAndi h gd imm s
  | .cmpi h pd cond ga imm => Sys2Proof.Machine.execCmpi h pd cond ga imm s
  | .plog h pd fn pa pb => Sys2Proof.Machine.execPlog h pd fn pa pb s
  | .mga h g x => Sys2Proof.Machine.execMga h g x s
  | .mag h g x => Sys2Proof.Machine.execMag h g x s
  | .mfs h g x => Sys2Proof.Machine.execMfs h g x s
  | .mts h g x => Sys2Proof.Machine.execMts h g x s
  | .mfseg h g x => Sys2Proof.Machine.execMfseg h g x s
  | .mtseg h g x => Sys2Proof.Machine.execMtseg h g x s
  | .ld8u h a => Sys2Proof.Machine.execLd8u h a s
  | .ld16u h a => Sys2Proof.Machine.execLd16u h a s
  | .ld32u h a => Sys2Proof.Machine.execLd32u h a s
  | .ld64 h a => Sys2Proof.Machine.execLd64 h a s
  | .ld8s h a => Sys2Proof.Machine.execLd8s h a s
  | .ld16s h a => Sys2Proof.Machine.execLd16s h a s
  | .ld32s h a => Sys2Proof.Machine.execLd32s h a s
  | .st8 h a => Sys2Proof.Machine.execSt8 h a s
  | .st16 h a => Sys2Proof.Machine.execSt16 h a s
  | .st32 h a => Sys2Proof.Machine.execSt32 h a s
  | .st64 h a => Sys2Proof.Machine.execSt64 h a s
  | .vld h a => Sys2Proof.Machine.execVld h a s
  | .vst h a => Sys2Proof.Machine.execVst h a s
  | .atomAdd32 h gd aa ofs => Sys2Proof.Machine.execAtomAdd32 h gd aa ofs s
  | .atomAdd64 h gd aa ofs => Sys2Proof.Machine.execAtomAdd64 h gd aa ofs s
  | .atomSwap32 h gd aa ofs => Sys2Proof.Machine.execAtomSwap32 h gd aa ofs s
  | .atomSwap64 h gd aa ofs => Sys2Proof.Machine.execAtomSwap64 h gd aa ofs s
  | .enq h vs aa pd => Sys2Proof.Machine.execEnq h vs aa pd s
  | .fence h => Sys2Proof.Machine.execFence h s
  | .aaddi h ad aa imm => Sys2Proof.Machine.execAaddi h ad aa imm s
  | .aadd h ad aa g => Sys2Proof.Machine.execAadd h ad aa g s
  | .vadd h a => Sys2Proof.Machine.execVadd h a s
  | .vsub h a => Sys2Proof.Machine.execVsub h a s
  | .vmin h a => Sys2Proof.Machine.execVmin h a s
  | .vmax h a => Sys2Proof.Machine.execVmax h a s
  | .vminu h a => Sys2Proof.Machine.execVminu h a s
  | .vmaxu h a => Sys2Proof.Machine.execVmaxu h a s
  | .vand h a => Sys2Proof.Machine.execVand h a s
  | .vor h a => Sys2Proof.Machine.execVor h a s
  | .vxor h a => Sys2Proof.Machine.execVxor h a s
  | .vsel h a => Sys2Proof.Machine.execVsel h a s
  | .vshl h a => Sys2Proof.Machine.execVshl h a s
  | .vshr h a => Sys2Proof.Machine.execVshr h a s
  | .vsar h a => Sys2Proof.Machine.execVsar h a s
  | .vcmpeq h a => Sys2Proof.Machine.execVcmpeq h a s
  | .vcmplt h a => Sys2Proof.Machine.execVcmplt h a s
  | .vcmpltu h a => Sys2Proof.Machine.execVcmpltu h a s
  | .vbcast h lw v g => Sys2Proof.Machine.execVbcast h lw v g s
  | .vext h lw v g lane => Sys2Proof.Machine.execVext h lw v g lane s
  | .vperm h a => Sys2Proof.Machine.execVperm h a s
  | .vslide h a => Sys2Proof.Machine.execVslide h a s
  | .vfadd h a => Sys2Proof.Machine.execVfadd h a s
  | .vfsub h a => Sys2Proof.Machine.execVfsub h a s
  | .vfmul h a => Sys2Proof.Machine.execVfmul h a s
  | .vfma h a => Sys2Proof.Machine.execVfma h a s
  | .vfmin h a => Sys2Proof.Machine.execVfmin h a s
  | .vfmax h a => Sys2Proof.Machine.execVfmax h a s
  | .vfcmplt h a => Sys2Proof.Machine.execVfcmplt h a s
  | .vfcmple h a => Sys2Proof.Machine.execVfcmple h a s
  | .vredadd h a => Sys2Proof.Machine.execVredadd h a s
  | .vredmax h a => Sys2Proof.Machine.execVredmax h a s
  | .vredmin h a => Sys2Proof.Machine.execVredmin h a s
  | .vfredadd h a => Sys2Proof.Machine.execVfredadd h a s
  | .vfredmax h a => Sys2Proof.Machine.execVfredmax h a s
  | .vfargmax h a => Sys2Proof.Machine.execVfargmax h a s
  | .vfscan h a => Sys2Proof.Machine.execVfscan h a s
  | .vsortk h a => Sys2Proof.Machine.execVsortk h a s
  | .vaccept h a => Sys2Proof.Machine.execVaccept h a s
  | .vacceptp h a => Sys2Proof.Machine.execVacceptp h a s
  | .fexp2 h a => Sys2Proof.Machine.execFexp2 h a s
  | .flog2 h a => Sys2Proof.Machine.execFlog2 h a s
  | .frcp h a => Sys2Proof.Machine.execFrcp h a s
  | .frsqrt h a => Sys2Proof.Machine.execFrsqrt h a s
  | .cvtup h a => Sys2Proof.Machine.execCvtup h a s
  | .cvtdn h a => Sys2Proof.Machine.execCvtdn h a s
  | .cvtscl h a => Sys2Proof.Machine.execCvtscl h a s
  | .cvti2f h a => Sys2Proof.Machine.execCvti2f h a s
  | .cvtf2i h a => Sys2Proof.Machine.execCvtf2i h a s
  | .nop h => Sys2Proof.Machine.execNop h s
  | .br h tgt => Sys2Proof.Machine.execBr h tgt s
  | .brt h pc disp => Sys2Proof.Machine.execBrt h pc disp s
  | .brf h pc disp => Sys2Proof.Machine.execBrf h pc disp s
  | .bri h ga => Sys2Proof.Machine.execBri h ga s
  | .call h tgt => Sys2Proof.Machine.execCall h tgt s
  | .calli h ga => Sys2Proof.Machine.execCalli h ga s
  | .ret h => Sys2Proof.Machine.execRet h s
  | .bdec h ga disp => Sys2Proof.Machine.execBdec h ga disp s
  | .waitCompletionCounter h a => Sys2Proof.Machine.execWaitCompletionCounter h a s
  | .waitOrbitSlot h a => Sys2Proof.Machine.execWaitOrbitSlot h a s
  | .waitDoorbell h a => Sys2Proof.Machine.execWaitDoorbell h a s
  | .waitEnd core expired => Sys2Proof.Machine.execWaitEnd core expired s
  | .halt h => Sys2Proof.Machine.execHalt h s
  | .trap h imm => Sys2Proof.Machine.execTrap h imm s
  | .tret h => Sys2Proof.Machine.execTret h s
  | .pxAccessAnswer core => Sys2Proof.Machine.execPxAccessAnswer core s
  | .deferredTrap core => Sys2Proof.Machine.execDeferredTrap core s
  | .pxLoad w x v => Sys2Proof.Machine.execPxLoad w x v s
  | .pxStart w x v => Sys2Proof.Machine.execPxStart w x v s
  | .pxRestart w x v => Sys2Proof.Machine.execPxRestart w x v s
  | .pxHalt w x v => Sys2Proof.Machine.execPxHalt w x v s
  | .pxLoadDone x => Sys2Proof.Machine.execPxLoadDone x s
  | .pxDbellWrite w x ix v => Sys2Proof.Machine.execPxDbellWrite w x ix v s
  | .flitReceive n f => Sys2Proof.Machine.execFlitReceive n f s
  | .nakReceive n ack => Sys2Proof.Machine.execNakReceive n ack s
  | .retryTimeout n => Sys2Proof.Machine.execRetryTimeout n s
  | .tetherRead n m => Sys2Proof.Machine.execTetherRead n m s
  | .tetherWrite n m data => Sys2Proof.Machine.execTetherWrite n m data s
  | .writeMasked n m mask data => Sys2Proof.Machine.execWriteMasked n m mask data s
  | .doorbell n m => Sys2Proof.Machine.execDoorbell n m s
  | .stepMark n m => Sys2Proof.Machine.execStepMark n m s
  | .readData n m data => Sys2Proof.Machine.execReadData n m data s
  | .writeAck n m => Sys2Proof.Machine.execWriteAck n m s
  | .param n u => Sys2Proof.Machine.execParam n u s
  | .timeReq n => Sys2Proof.Machine.execTimeReq n s
  | .timeRsp n u => Sys2Proof.Machine.execTimeRsp n u s
  | .paramSendTimer n => Sys2Proof.Machine.execParamSendTimer n s
  | .signalDetect n => Sys2Proof.Machine.execSignalDetect n s
  | .phyTrainDone n => Sys2Proof.Machine.execPhyTrainDone n s
  | .trainTimeout n => Sys2Proof.Machine.execTrainTimeout n s
  | .lossOfLock n => Sys2Proof.Machine.execLossOfLock n s
  | .noGoodFlitTimeout n => Sys2Proof.Machine.execNoGoodFlitTimeout n s
  | .tlRetrain src n => Sys2Proof.Machine.execTlRetrain src n s
  | .eclipseLongTimeout n => Sys2Proof.Machine.execEclipseLongTimeout n s
  | .tetherOwnerSwitch n => Sys2Proof.Machine.execTetherOwnerSwitch n s
  | .pcieConfigRequest f off wr => Sys2Proof.Machine.execPcieConfigRequest f off wr s
  | .bar0Access f off len wr => Sys2Proof.Machine.execBar0Access f off len wr s
  | .bar2Read v off len => Sys2Proof.Machine.execBar2Read v off len s
  | .bar2Write v off data => Sys2Proof.Machine.execBar2Write v off data s
  | .unsupportedRequest k posted vf => Sys2Proof.Machine.execUnsupportedRequest k posted vf s
  | .poisonedMemoryWrite f => Sys2Proof.Machine.execPoisonedMemoryWrite f s
  | .setSlotPowerLimit v => Sys2Proof.Machine.execSetSlotPowerLimit v s
  | .vendorDefinedMessage type1 => Sys2Proof.Machine.execVendorDefinedMessage type1 s
  | .hostCompletion tag k => Sys2Proof.Machine.execHostCompletion tag k s
  | .rxqAdmit f => Sys2Proof.Machine.execRxqAdmit f s
  | .completionTimeout tag => Sys2Proof.Machine.execCompletionTimeout tag s
  | .tagHoldExpiry tag => Sys2Proof.Machine.execTagHoldExpiry tag s
  | .msixUnmask f vec => Sys2Proof.Machine.execMsixUnmask f vec s
  | .d3hotEntry => Sys2Proof.Machine.execD3hotEntry s
  | .d3hotExit => Sys2Proof.Machine.execD3hotExit s
  | .pmeTurnOff => Sys2Proof.Machine.execPmeTurnOff s
  | .wakeCause k => Sys2Proof.Machine.execWakeCause k s
  | .vfDoorbellWrite v x ix w => Sys2Proof.Machine.execVfDoorbellWrite v x ix w s
  | .hawkSubmit f v => Sys2Proof.Machine.execHawkSubmit f v s
  | .flrInitiate v => Sys2Proof.Machine.execFlrInitiate v s
  | .flrComplete v => Sys2Proof.Machine.execFlrComplete v s
  | .ptMapCommit src v => Sys2Proof.Machine.execPtMapCommit src v s
  | .ptMapCommitEffect => Sys2Proof.Machine.execPtMapCommitEffect s
  | .epochAdvance src p v => Sys2Proof.Machine.execEpochAdvance src p v s
  | .epochAdvanceEffect p => Sys2Proof.Machine.execEpochAdvanceEffect p s
  | .ptReset src v => Sys2Proof.Machine.execPtReset src v s
  | .partitionReset p => Sys2Proof.Machine.execPartitionReset p s
  | .partitionResetDone p => Sys2Proof.Machine.execPartitionResetDone p s
  | .ptFreeze src v => Sys2Proof.Machine.execPtFreeze src v s
  | .freezeEffect p => Sys2Proof.Machine.execFreezeEffect p s
  | .partitionAtRest p => Sys2Proof.Machine.execPartitionAtRest p s
  | .ptThaw src v => Sys2Proof.Machine.execPtThaw src v s
  | .thawEffect p => Sys2Proof.Machine.execThawEffect p s
  | .partitionSave src v => Sys2Proof.Machine.execPartitionSave src v s
  | .partitionRestore src v => Sys2Proof.Machine.execPartitionRestore src v s
  | .saveRestoreEnd => Sys2Proof.Machine.execSaveRestoreEnd s
  | .i3cRegisterWrite data => Sys2Proof.Machine.execI3cRegisterWrite data s
  | .i3cRegisterRead data => Sys2Proof.Machine.execI3cRegisterRead data s
  | .i3cWake => Sys2Proof.Machine.execI3cWake s
  | .setdasa a => Sys2Proof.Machine.execSetdasa a s
  | .entdaa a => Sys2Proof.Machine.execEntdaa a s
  | .rstdaa => Sys2Proof.Machine.execRstdaa s
  | .getpid => Sys2Proof.Machine.execGetpid s
  | .getstatus => Sys2Proof.Machine.execGetstatus s
  | .ethFrameReceive n f => Sys2Proof.Machine.execEthFrameReceive n f s
  | .ethApply src v => Sys2Proof.Machine.execEthApply src v s
  | .ethLinkChange n up => Sys2Proof.Machine.execEthLinkChange n up s
  | .ethRuleCtrlWrite src r v => Sys2Proof.Machine.execEthRuleCtrlWrite src r v s
  | .egressFrameStart n => Sys2Proof.Machine.execEgressFrameStart n s
  | .slowPathFrame share act => Sys2Proof.Machine.execSlowPathFrame share act s
  | .reinject share f => Sys2Proof.Machine.execReinject share f s
  | .fragmentTimeout share => Sys2Proof.Machine.execFragmentTimeout share s
  | .srmtSendPacket k => Sys2Proof.Machine.execSrmtSendPacket k s
  | .srmtWritePacket k => Sys2Proof.Machine.execSrmtWritePacket k s
  | .readReq k => Sys2Proof.Machine.execReadReq k s
  | .readResp k => Sys2Proof.Machine.execReadResp k s
  | .ack k => Sys2Proof.Machine.execAck k s
  | .connect k => Sys2Proof.Machine.execConnect k s
  | .accept k => Sys2Proof.Machine.execAccept k s
  | .close k => Sys2Proof.Machine.execClose k s
  | .closeAck k => Sys2Proof.Machine.execCloseAck k s
  | .contextFetchComplete p ix => Sys2Proof.Machine.execContextFetchComplete p ix s
  | .missWaitTimeout p ix => Sys2Proof.Machine.execMissWaitTimeout p ix s
  | .srmtSqDb q v => Sys2Proof.Machine.execSrmtSqDb q v s
  | .srmtRqDb q v => Sys2Proof.Machine.execSrmtRqDb q v s
  | .srmtCqDb q v => Sys2Proof.Machine.execSrmtCqDb q v s
  | .srmtAqDb v w => Sys2Proof.Machine.execSrmtAqDb v w s
  | .sqNop q => Sys2Proof.Machine.execSqNop q s
  | .sqSend q => Sys2Proof.Machine.execSqSend q s
  | .sqWrite q => Sys2Proof.Machine.execSqWrite q s
  | .sqRead q => Sys2Proof.Machine.execSqRead q s
  | .sqEntryComplete q => Sys2Proof.Machine.execSqEntryComplete q s
  | .createCq v => Sys2Proof.Machine.execCreateCq v s
  | .createSq v => Sys2Proof.Machine.execCreateSq v s
  | .createRq v => Sys2Proof.Machine.execCreateRq v s
  | .destroy v => Sys2Proof.Machine.execDestroy v s
  | .openConn v => Sys2Proof.Machine.execOpenConn v s
  | .closeConn v => Sys2Proof.Machine.execCloseConn v s
  | .openWindow v => Sys2Proof.Machine.execOpenWindow v s
  | .revokeWindow v => Sys2Proof.Machine.execRevokeWindow v s
  | .windowOpenEffect v => Sys2Proof.Machine.execWindowOpenEffect v s
  | .revokeComplete v => Sys2Proof.Machine.execRevokeComplete v s
  | .rtoExpiry p ix => Sys2Proof.Machine.execRtoExpiry p ix s
  | .ackTimer p ix => Sys2Proof.Machine.execAckTimer p ix s
  | .dmaChCfgWrite src e k v => Sys2Proof.Machine.execDmaChCfgWrite src e k v s
  | .dmaPoll src e k => Sys2Proof.Machine.execDmaPoll src e k s
  | .dmaResume src e k => Sys2Proof.Machine.execDmaResume src e k s
  | .dmaNop e => Sys2Proof.Machine.execDmaNop e s
  | .copy e => Sys2Proof.Machine.execCopy e s
  | .enqCmd e => Sys2Proof.Machine.execEnqCmd e s
  | .dmaHalfEvent e => Sys2Proof.Machine.execDmaHalfEvent e s
  | .dmaDescriptorComplete e => Sys2Proof.Machine.execDmaDescriptorComplete e s
  | .ciphJobAdmit kmac unit => Sys2Proof.Machine.execCiphJobAdmit kmac unit s
  | .ciphJobComplete kmac unit => Sys2Proof.Machine.execCiphJobComplete kmac unit s
  | .drbgReseed healthy => Sys2Proof.Machine.execDrbgReseed healthy s
  | .attestGo src v => Sys2Proof.Machine.execAttestGo src v s
  | .attestDone => Sys2Proof.Machine.execAttestDone s
  | .stgSqDb q v => Sys2Proof.Machine.execStgSqDb q v s
  | .stgCqDb q v => Sys2Proof.Machine.execStgCqDb q v s
  | .deleteIoSq v => Sys2Proof.Machine.execDeleteIoSq v s
  | .createIoSq v => Sys2Proof.Machine.execCreateIoSq v s
  | .deleteIoCq v => Sys2Proof.Machine.execDeleteIoCq v s
  | .createIoCq v => Sys2Proof.Machine.execCreateIoCq v s
  | .identify v => Sys2Proof.Machine.execIdentify v s
  | .getLogPage v => Sys2Proof.Machine.execGetLogPage v s
  | .deviceSelfTest v => Sys2Proof.Machine.execDeviceSelfTest v s
  | .flush q => Sys2Proof.Machine.execFlush q s
  | .nvmeWrite q => Sys2Proof.Machine.execNvmeWrite q s
  | .nvmeRead q => Sys2Proof.Machine.execNvmeRead q s
  | .writeZeroes q => Sys2Proof.Machine.execWriteZeroes q s
  | .datasetManagement q => Sys2Proof.Machine.execDatasetManagement q s
  | .rangeLockRelease p => Sys2Proof.Machine.execRangeLockRelease p s
  | .bufferFlushWrite => Sys2Proof.Machine.execBufferFlushWrite s
  | .cartridgeCompletion id r => Sys2Proof.Machine.execCartridgeCompletion id r s
  | .stgNsFormat src n v => Sys2Proof.Machine.execStgNsFormat src n v s
  | .ejectRequest src => Sys2Proof.Machine.execEjectRequest src s
  | .shutdownTimeout => Sys2Proof.Machine.execShutdownTimeout s
  | .cartridgeInsert ok => Sys2Proof.Machine.execCartridgeInsert ok s
  | .mountTimeout => Sys2Proof.Machine.execMountTimeout s
  | .surpriseRemoval => Sys2Proof.Machine.execSurpriseRemoval s
  | .holdupLow joules => Sys2Proof.Machine.execHoldupLow joules s
  | .holdupRecover joules => Sys2Proof.Machine.execHoldupRecover joules s
  | .checkpointTimer p => Sys2Proof.Machine.execCheckpointTimer p s
  | .ckNow src p v => Sys2Proof.Machine.execCkNow src p v s
  | .ckAbort src p v => Sys2Proof.Machine.execCkAbort src p v s
  | .ckForceBase src p v => Sys2Proof.Machine.execCkForceBase src p v s
  | .cut p => Sys2Proof.Machine.execCut p s
  | .skimSlice p => Sys2Proof.Machine.execSkimSlice p s
  | .cowForcedCopy p g => Sys2Proof.Machine.execCowForcedCopy p g s
  | .granuleCopyComplete p g => Sys2Proof.Machine.execGranuleCopyComplete p g s
  | .cureStart p => Sys2Proof.Machine.execCureStart p s
  | .cureDone p => Sys2Proof.Machine.execCureDone p s
  | .restoreCartridge src p v => Sys2Proof.Machine.execRestoreCartridge src p v s
  | .restoreRemote src p v => Sys2Proof.Machine.execRestoreRemote src p v s
  | .restoreEnd p => Sys2Proof.Machine.execRestoreEnd p s
  | .watchdogExpiry ix => Sys2Proof.Machine.execWatchdogExpiry ix s
  | .svWdogKick src ix v => Sys2Proof.Machine.execSvWdogKick src ix v s
  | .svCtrlRestart src ix v => Sys2Proof.Machine.execSvCtrlRestart src ix v s
  | .svRestartComplete ix => Sys2Proof.Machine.execSvRestartComplete ix s
  | .hawkTake f => Sys2Proof.Machine.execHawkTake f s
  | .getInfo f => Sys2Proof.Machine.execGetInfo f s
  | .pxLoadRequest f => Sys2Proof.Machine.execPxLoadRequest f s
  | .pxControl f => Sys2Proof.Machine.execPxControl f s
  | .dmaChannel f => Sys2Proof.Machine.execDmaChannel f s
  | .ruleInstall f => Sys2Proof.Machine.execRuleInstall f s
  | .ruleRemove f => Sys2Proof.Machine.execRuleRemove f s
  | .checkpointNow f => Sys2Proof.Machine.execCheckpointNow f s
  | .checkpointStatus f => Sys2Proof.Machine.execCheckpointStatus f s
  | .attest f => Sys2Proof.Machine.execAttest f s
  | .hawkResponseWrite f => Sys2Proof.Machine.execHawkResponseWrite f s
  | .hawkEvent ev => Sys2Proof.Machine.execHawkEvent ev s
  | .logDataLatchRead src => Sys2Proof.Machine.execLogDataLatchRead src s
  | .logDataAdvanceRead src => Sys2Proof.Machine.execLogDataAdvanceRead src s
  | .powerOn => Sys2Proof.Machine.execPowerOn s
  | .perstEdge => Sys2Proof.Machine.execPerstEdge s
  | .hotReset => Sys2Proof.Machine.execHotReset s
  | .bootReboot src v => Sys2Proof.Machine.execBootReboot src v s
  | .bootTest src v => Sys2Proof.Machine.execBootTest src v s
  | .bootStageComplete => Sys2Proof.Machine.execBootStageComplete s
  | .bootStageNext src v => Sys2Proof.Machine.execBootStageNext src v s
  | .bootScriptDelayExpiry => Sys2Proof.Machine.execBootScriptDelayExpiry s
  | .fuseAdvanceFwSvn src v => Sys2Proof.Machine.execFuseAdvanceFwSvn src v s
  | .fuseAdvanceImgSvn src v => Sys2Proof.Machine.execFuseAdvanceImgSvn src v s
  | .fuseProgramOwner src v => Sys2Proof.Machine.execFuseProgramOwner src v s
  | .fuseRevokeOwner src v => Sys2Proof.Machine.execFuseRevokeOwner src v s
  | .flashRead src v => Sys2Proof.Machine.execFlashRead src v s
  | .flashProgram src v => Sys2Proof.Machine.execFlashProgram src v s
  | .flashErase src v => Sys2Proof.Machine.execFlashErase src v s
  | .flashCmdDone => Sys2Proof.Machine.execFlashCmdDone s
  | .eclGo src v => Sys2Proof.Machine.execEclGo src v s
  | .eclipseEntry => Sys2Proof.Machine.execEclipseEntry s
  | .eclipseResetRelease => Sys2Proof.Machine.execEclipseResetRelease s
  | .eclipseRetuneDone => Sys2Proof.Machine.execEclipseRetuneDone s
  | .eclipseExit => Sys2Proof.Machine.execEclipseExit s
  | .p48vLow => Sys2Proof.Machine.execP48vLow s
  | .powerLossSequence => Sys2Proof.Machine.execPowerLossSequence s
  | .powerOff => Sys2Proof.Machine.execPowerOff s
  | .thermalAlarm => Sys2Proof.Machine.execThermalAlarm s
  | .thermalTrip => Sys2Proof.Machine.execThermalTrip s
  | .heartbeat b => Sys2Proof.Machine.execHeartbeat b s
  | .heartbeatSend => Sys2Proof.Machine.execHeartbeatSend s
  | .mirrorWrite m data => Sys2Proof.Machine.execMirrorWrite m data s
  | .storageMirrorWrite m data => Sys2Proof.Machine.execStorageMirrorWrite m data s
  | .resyncWrite m data => Sys2Proof.Machine.execResyncWrite m data s
  | .mirrorDesc u => Sys2Proof.Machine.execMirrorDesc u s
  | .mirrorDescTimeout => Sys2Proof.Machine.execMirrorDescTimeout s
  | .mirrorQueueTimeout p => Sys2Proof.Machine.execMirrorQueueTimeout p s
  | .resyncComplete p => Sys2Proof.Machine.execResyncComplete p s
  | .pairAliveLow => Sys2Proof.Machine.execPairAliveLow s
  | .pairLoss => Sys2Proof.Machine.execPairLoss s
  | .pairHandover src v => Sys2Proof.Machine.execPairHandover src v s
  | .handoverQueueDrained p => Sys2Proof.Machine.execHandoverQueueDrained p s
  | .returnHoldExpiry => Sys2Proof.Machine.execReturnHoldExpiry s
  | .sampleExport => Sys2Proof.Machine.execSampleExport s
  | .dbgTimeStep src v => Sys2Proof.Machine.execDbgTimeStep src v s
  | .tailResume src v => Sys2Proof.Machine.execTailResume src v s
  | .stopGo src v => Sys2Proof.Machine.execStopGo src v s
  | .globalStop => Sys2Proof.Machine.execGlobalStop s
  | .dumpDone => Sys2Proof.Machine.execDumpDone s
  | .debugDecrypt src v => Sys2Proof.Machine.execDebugDecrypt src v s
  | .recordChange p => Sys2Proof.Machine.execRecordChange p s
  | .replayGo src p v => Sys2Proof.Machine.execReplayGo src p v s
  | .replayInject p => Sys2Proof.Machine.execReplayInject p s
  | .shortTouch => Sys2Proof.Machine.execShortTouch s
  | .longTouch => Sys2Proof.Machine.execLongTouch s
  | .ejectPress => Sys2Proof.Machine.execEjectPress s
  | .cageChange k present powerOk => Sys2Proof.Machine.execCageChange k present powerOk s
  | .identifyTimeout => Sys2Proof.Machine.execIdentifyTimeout s
  | .panelIdentifyWrite src v => Sys2Proof.Machine.execPanelIdentifyWrite src v s
  | .panelRemove src v => Sys2Proof.Machine.execPanelRemove src v s
  | .panelCancel src v => Sys2Proof.Machine.execPanelCancel src v s
  | .removalDrainExpiry => Sys2Proof.Machine.execRemovalDrainExpiry s
  | .removalReady => Sys2Proof.Machine.execRemovalReady s
  | .columnReplace c b => Sys2Proof.Machine.execColumnReplace c b s
  | .columnCopyDone c b => Sys2Proof.Machine.execColumnCopyDone c b s
  | .ageingPeriod => Sys2Proof.Machine.execAgeingPeriod s
  | .ageingReadDone pd eye => Sys2Proof.Machine.execAgeingReadDone pd eye s
  | .guardbandStep d => Sys2Proof.Machine.execGuardbandStep d s
  | .eyeReadapt l mv => Sys2Proof.Machine.execEyeReadapt l mv s
  | .p3v3AuxLoss => Sys2Proof.Machine.execP3v3AuxLoss s
  | .perstDeassert => Sys2Proof.Machine.execPerstDeassert s
  | .pcieLinkTrained speed width flit => Sys2Proof.Machine.execPcieLinkTrained speed width flit s
  | .postedStoreComplete core => Sys2Proof.Machine.execPostedStoreComplete core s
  | .fuseProgDone => Sys2Proof.Machine.execFuseProgDone s
  | .debugDecryptDone => Sys2Proof.Machine.execDebugDecryptDone s

end Sys2Proof.Machine
end

