-- ==== Sys2Proof/WellFormed.lean ====
section
/-! DEFINITION. Which commands have the shape that the manual gives them: byte strings of the length of their format,
requests within a line or a word. A command of another shape is none that a sender of the manual can make; its meaning is
total all the same. -/

namespace Sys2Proof

/-- Exactly `n` bytes. -/
def sized (b : Bytes) (n : Nat) : Bool := decide (b.length = n)

/-- Between `lo` and `hi` bytes. -/
def between (b : Bytes) (lo hi : Nat) : Bool := decide (lo ≤ b.length) && decide (b.length ≤ hi)

/-- The byte offset of an address in its 64-byte line. -/
def lineByte : LineAddr → Nat
  | .pra _ x => x.toNat % 64
  | .dpa _ _ x => x.toNat % 64
  | .svc x => x.toNat % 64

/-- A whole line's address (R92). -/
def lineStart (a : LineAddr) : Bool := decide (lineByte a = 0)

/-- A partial write: 1 to 63 bytes within one line (R93). -/
def partOfLine (a : LineAddr) (b : Bytes) : Bool := between b 1 63 && decide (lineByte a + b.length ≤ 64)

/-- Only prep cores and the fill port issue atomics (R122). -/
def atomicPort : ScrPort → Bool
  | .px _ => true
  | .fill => true
  | .drain _ => false
  | .bRead _ => false
  | .aRead _ => false

/-- What is put into an engine's command port: at least one byte (R140, R142). -/
def engBytes : EngWrite → Bool
  | .mgmt _ _ => true
  | .px _ b => between b 1 64
  | .dma b => between b 1 64

/-- A flit: fifteen units of 16 bytes (R320, R321). -/
def flitShape (f : Flit) : Bool := decide (f.units.length = 15) && f.units.all (fun u => sized u 16)

/-- Data of as many lines as the header's LEN says (R326, R327). -/
def lineData (m : MsgHdr) (b : Bytes) : Bool := sized b (64 * m.len.toNat)

/-- A completion's data: 1 to 4,096 bytes (R357). -/
def cplShape : CplKind → Bool
  | .ok d => between d 1 4096
  | .poisoned => true

/-- A packet of SRMT: at least its header's type byte (R431). -/
def packetShape (k : SrmtPkt) : Bool := decide (0 < k.bytes.length)

/-- The shape that the manual gives a command. -/
def Instr.wellFormed : Instr → Bool
  | .memLineRead _ xfer => decide (xfer.length ≤ 68)
  | .memLineWrite rq data => lineStart rq.addr && sized data 64
  | .memPartialWrite rq data => partOfLine rq.addr data
  | .scrRead _ _ a len => decide (0 < len.val) && decide (a.toNat % 64 + len.val ≤ 64)
  | .scrFullWrite _ _ a data => decide (a.toNat % 64 = 0) && sized data 64
  | .scrPartialWrite _ _ a data => between data 1 63 && decide (a.toNat % 64 + data.length ≤ 64)
  | .scrAtomicAdd _ port _ _ _ => atomicPort port
  | .scrAtomicSwap _ port _ _ _ => atomicPort port
  | .engEnqueue _ w => engBytes w
  | .flitReceive _ f => flitShape f
  | .tetherWrite _ m data => lineData m data
  | .writeMasked _ _ _ data => sized data 64
  | .readData _ m data => lineData m data
  | .param _ u => sized u 16
  | .timeRsp _ u => sized u 16
  | .bar0Access _ _ len wr => decide (0 < len) && (match wr with | some d => sized d len | none => true)
  | .bar2Read _ _ len => decide (0 < len) && decide (len ≤ 4096)
  | .bar2Write _ _ data => between data 1 4096
  | .hostCompletion _ k => cplShape k
  | .srmtSendPacket k => packetShape k
  | .srmtWritePacket k => packetShape k
  | .readReq k => packetShape k
  | .readResp k => packetShape k
  | .ack k => packetShape k
  | .connect k => packetShape k
  | .accept k => packetShape k
  | .close k => packetShape k
  | .closeAck k => packetShape k
  | .hawkEvent ev => between ev.detail 0 52
  | .mirrorWrite _ data => decide (data.length % 64 = 0)
  | .storageMirrorWrite _ data => decide (data.length % 64 = 0)
  | .resyncWrite _ data => decide (data.length % 64 = 0)
  | .mirrorDesc u => sized u 16
  | .ageingReadDone pd eye => decide (pd.length = 20) && decide (eye.length = 76)
  | .regWrite .. | .orbCountLoRead .. | .orbitMark | .slotBoundary .. | .ephCommit .. | .ephCommitEffect
  | .ephSlotWrite .. | .ephModeWrite .. | .ephModeApply | .lineRequestAdmit .. | .remapSwapStart ..
  | .swapGroupCopy .. | .scrubGroup .. | .mfSpareCmd .. | .spareCopyPage | .spareSwitch | .mfHashKeyWrite ..
  | .mfInitCmd .. | .packageInitDone .. | .scrCorrectionWriteback .. => true
  | .scrOwnWrite .. | .scrHandoverComplete .. | .scrInitCmd .. | .scratchInitDone .. | .engNop .. | .engMma ..
  | .engDrain .. | .engClear .. | .engSeed .. | .engCommandComplete .. | .engHeadCompleteDeferred ..
  | .engFlush .. | .engCplPop .. | .engCcWrite .. | .trowelFetchStart .. | .trowelLineReturn ..
  | .trowelBlockDecode .. | .trwTableCommit .. | .clusterSubstitution | .sprClCmd .. => true
  | .add .. | .sub .. | .and .. | .or .. | .xor .. | .shl .. | .shr .. | .sar .. | .ror .. | .min .. | .max ..
  | .minu .. | .maxu .. | .clz .. | .popc .. | .mul .. | .mulhu .. | .mulhs .. | .cmp .. | .cmpu .. => true
  | .addi .. | .ldi .. | .insi .. | .andi .. | .cmpi .. | .plog .. | .mga .. | .mag .. | .mfs .. | .mts ..
  | .mfseg .. | .mtseg .. | .ld8u .. | .ld16u .. | .ld32u .. | .ld64 .. | .ld8s .. | .ld16s .. | .ld32s ..
  | .st8 .. => true
  | .st16 .. | .st32 .. | .st64 .. | .vld .. | .vst .. | .atomAdd32 .. | .atomAdd64 .. | .atomSwap32 ..
  | .atomSwap64 .. | .enq .. | .fence .. | .aaddi .. | .aadd .. | .vadd .. | .vsub .. | .vmin .. | .vmax ..
  | .vminu .. | .vmaxu .. | .vand .. => true
  | .vor .. | .vxor .. | .vsel .. | .vshl .. | .vshr .. | .vsar .. | .vcmpeq .. | .vcmplt .. | .vcmpltu ..
  | .vbcast .. | .vext .. | .vperm .. | .vslide .. | .vfadd .. | .vfsub .. | .vfmul .. | .vfma .. | .vfmin ..
  | .vfmax .. | .vfcmplt .. => true
  | .vfcmple .. | .vredadd .. | .vredmax .. | .vredmin .. | .vfredadd .. | .vfredmax .. | .vfargmax ..
  | .vfscan .. | .vsortk .. | .vaccept .. | .vacceptp .. | .fexp2 .. | .flog2 .. | .frcp .. | .frsqrt ..
  | .cvtup .. | .cvtdn .. | .cvtscl .. | .cvti2f .. | .cvtf2i .. => true
  | .nop .. | .br .. | .brt .. | .brf .. | .bri .. | .call .. | .calli .. | .ret .. | .bdec ..
  | .waitCompletionCounter .. | .waitOrbitSlot .. | .waitDoorbell .. | .waitEnd .. | .halt .. | .trap ..
  | .tret .. | .pxAccessAnswer .. | .deferredTrap .. | .pxLoad .. | .pxStart .. => true
  | .pxRestart .. | .pxHalt .. | .pxLoadDone .. | .pxDbellWrite .. | .nakReceive .. | .retryTimeout ..
  | .tetherRead .. | .doorbell .. | .stepMark .. | .writeAck .. | .timeReq .. | .paramSendTimer ..
  | .signalDetect .. | .phyTrainDone .. | .trainTimeout .. | .lossOfLock .. | .noGoodFlitTimeout ..
  | .tlRetrain .. | .eclipseLongTimeout .. | .tetherOwnerSwitch .. => true
  | .pcieConfigRequest .. | .unsupportedRequest .. | .poisonedMemoryWrite .. | .setSlotPowerLimit ..
  | .vendorDefinedMessage .. | .rxqAdmit .. | .completionTimeout .. | .tagHoldExpiry .. | .msixUnmask ..
  | .d3hotEntry | .d3hotExit | .pmeTurnOff | .wakeCause .. | .vfDoorbellWrite .. | .hawkSubmit ..
  | .flrInitiate .. | .flrComplete .. | .ptMapCommit .. | .ptMapCommitEffect | .epochAdvance .. => true
  | .epochAdvanceEffect .. | .ptReset .. | .partitionReset .. | .partitionResetDone .. | .ptFreeze ..
  | .freezeEffect .. | .partitionAtRest .. | .ptThaw .. | .thawEffect .. | .partitionSave ..
  | .partitionRestore .. | .saveRestoreEnd | .i3cRegisterWrite .. | .i3cRegisterRead .. | .i3cWake
  | .setdasa .. | .entdaa .. | .rstdaa | .getpid | .getstatus => true
  | .ethFrameReceive .. | .ethApply .. | .ethLinkChange .. | .ethRuleCtrlWrite .. | .egressFrameStart ..
  | .slowPathFrame .. | .reinject .. | .fragmentTimeout .. | .contextFetchComplete .. | .missWaitTimeout ..
  | .srmtSqDb .. | .srmtRqDb .. | .srmtCqDb .. | .srmtAqDb .. | .sqNop .. | .sqSend .. | .sqWrite ..
  | .sqRead .. | .sqEntryComplete .. | .createCq .. => true
  | .createSq .. | .createRq .. | .destroy .. | .openConn .. | .closeConn .. | .openWindow ..
  | .revokeWindow .. | .windowOpenEffect .. | .revokeComplete .. | .rtoExpiry .. | .ackTimer ..
  | .dmaChCfgWrite .. | .dmaPoll .. | .dmaResume .. | .dmaNop .. | .copy .. | .enqCmd .. | .dmaHalfEvent ..
  | .dmaDescriptorComplete .. | .ciphJobAdmit .. => true
  | .ciphJobComplete .. | .drbgReseed .. | .attestGo .. | .attestDone | .stgSqDb .. | .stgCqDb ..
  | .deleteIoSq .. | .createIoSq .. | .deleteIoCq .. | .createIoCq .. | .identify .. | .getLogPage ..
  | .deviceSelfTest .. | .flush .. | .nvmeWrite .. | .nvmeRead .. | .writeZeroes .. | .datasetManagement ..
  | .rangeLockRelease .. | .bufferFlushWrite => true
  | .cartridgeCompletion .. | .stgNsFormat .. | .ejectRequest .. | .shutdownTimeout | .cartridgeInsert ..
  | .mountTimeout | .surpriseRemoval | .holdupLow .. | .holdupRecover .. | .checkpointTimer .. | .ckNow ..
  | .ckAbort .. | .ckForceBase .. | .cut .. | .skimSlice .. | .cowForcedCopy .. | .granuleCopyComplete ..
  | .cureStart .. | .cureDone .. | .restoreCartridge .. => true
  | .restoreRemote .. | .restoreEnd .. | .watchdogExpiry .. | .svWdogKick .. | .svCtrlRestart ..
  | .svRestartComplete .. | .hawkTake .. | .getInfo .. | .pxLoadRequest .. | .pxControl .. | .dmaChannel ..
  | .ruleInstall .. | .ruleRemove .. | .checkpointNow .. | .checkpointStatus .. | .attest ..
  | .hawkResponseWrite .. | .logDataLatchRead .. | .logDataAdvanceRead .. | .powerOn => true
  | .perstEdge | .hotReset | .bootReboot .. | .bootTest .. | .bootStageComplete | .bootStageNext ..
  | .bootScriptDelayExpiry | .fuseAdvanceFwSvn .. | .fuseAdvanceImgSvn .. | .fuseProgramOwner ..
  | .fuseRevokeOwner .. | .flashRead .. | .flashProgram .. | .flashErase .. | .flashCmdDone | .eclGo ..
  | .eclipseEntry | .eclipseResetRelease | .eclipseRetuneDone | .eclipseExit => true
  | .p48vLow | .powerLossSequence | .powerOff | .thermalAlarm | .thermalTrip | .heartbeat .. | .heartbeatSend
  | .mirrorDescTimeout | .mirrorQueueTimeout .. | .resyncComplete .. | .pairAliveLow | .pairLoss
  | .pairHandover .. | .handoverQueueDrained .. | .returnHoldExpiry | .sampleExport | .dbgTimeStep ..
  | .tailResume .. | .stopGo .. | .globalStop => true
  | .dumpDone | .debugDecrypt .. | .recordChange .. | .replayGo .. | .replayInject .. | .shortTouch
  | .longTouch | .ejectPress | .cageChange .. | .identifyTimeout | .panelIdentifyWrite .. | .panelRemove ..
  | .panelCancel .. | .removalDrainExpiry | .removalReady | .columnReplace .. | .columnCopyDone ..
  | .ageingPeriod | .guardbandStep .. | .eyeReadapt .. => true
  | .p3v3AuxLoss | .perstDeassert | .pcieLinkTrained .. | .postedStoreComplete .. | .fuseProgDone
  | .debugDecryptDone => true

end Sys2Proof
end

