-- ==== Sys2Proof/Safety.lean ====
section
/-! DEFINITION. What counts as a sound state and a safe step, and the terms that claims about the cores and the registers
use. -/

namespace Sys2Proof.Machine

/-- The state stands at a cycle of its orbit (R7, R8), and every waiting command has the shape that the manual gives it. -/
def State.Sound (s : State) : Prop := s.tm.cycle < 16384 ∧ ∀ c ∈ s.pending, c.wellFormed = true

/-- The canonical form of the sled's byte stores: DRAM (R75), scratch (R109) and the SRAM of the service cores (R557). -/
def Memory.wf (s : State) : Bool :=
  Tab.wf (memDefault s.fab.fill) s.fab.cells && Tab.wf (scrDefault s.scr.fill) s.scr.cells
    && Tab.wf (fun _ => 0) s.fw.sram && Tab.wf (fun _ => 0) s.fw.local_

/-- A step that neither faults nor is refused. -/
def State.Safe (s : State) : Prop := ∃ t, step s = .next t

/-- A command that completes in a state with an effect. -/
def Completes (i : Instr) (s : State) (P : State → Prop) : Prop := ∃ t, exec i s = .next t ∧ P t

/-- A core that takes an operation presented alone: it runs (R256, R563), it is not stalled and has nothing in flight, the
operation is a bundle of its own, its guard holds (R226), the code covers it (R235), and the core has the slot and may
fetch there (R292, R558). -/
structure Lone (s : State) (h : OpHdr) (slot : Nat) : Prop where
  runs : s.coreRuns h.core = true
  free : (s.core h.core).stall = .none
  empty : (s.core h.core).bundle = []
  flight : (s.core h.core).pend = []
  straight : (s.core h.core).branch = none
  stop : h.stop = true
  guard : (s.core h.core).guardOk h = true
  code : (s.core h.core).pc + 4 ≤ s.codeLen h.core
  slots : h.core.val < 32 ∨
    ((slot = 0 ∨ slot = 2 ∨ slot = 5) ∧ s.mpuAllows (h.core.val - 32) (3 * 2 ^ 60 + (s.core h.core).pc) 4 4 = true)

/-- The die takes writes and its units act: it has power, no Eclipse discards writes (R593), and no stop holds it (R638). -/
structure State.Live (s : State) : Prop where
  powered : s.pwr.on = true
  open_ : s.wrDrops = false
  going : s.flag Reg.DBG_STATUS Fld.DBG_STATUS_STOPPED = false

/-- The registers in which the journal (R394), the debug block and the log ring keep account of what happens. -/
def bookKey (k : Nat) : Bool :=
  (decide (0x2004C0 ≤ k) && decide (k < 0x2004CC)) || (decide (0x3D00000 ≤ k) && decide (k < 0x3D10000))
    || (decide (0x3E0A008 ≤ k) && decide (k < 0x3E0A010))

/-- The state `t` is `u` but for what the log ring, the journal, the Tail rings and the alarms keep account of. -/
structure Logged (u t : State) : Prop where
  regs : ∀ k, bookKey k = false → t.reg k = u.reg k
  rest : { t with rf := [], log := u.log, dbg := u.dbg } = { u with rf := [] }

/-- A command that completes and leaves a given state, but for what is kept account of. -/
def Leaves (i : Instr) (s u : State) : Prop := Completes i s (Logged u)

/-- A scratch bank serves a port at an address (R111, R113, R114, R116, R128): the address exists, the cluster is not being
initialised, no handover is pending, and the bank's owner is the port's. -/
structure ScrServes (s : State) (c : Nat) (port : ScrPort) (a : Nat) : Prop where
  inside : a < 12582912
  ready : s.scr.initBusy.contains c = false
  settled : s.flag (Reg.SCR_OWN c (a / 2 ^ 19)) Fld.SCR_OWN_PENDING = false
  owned : portOwned port (s.fld (Reg.SCR_OWN c (a / 2 ^ 19)) Fld.SCR_OWN_OWNER) = true

/-- The data bytes and the check symbols stored of a scratch word, and whether they decode without an error (R88, R124). -/
def State.scrData (s : State) (c w : Nat) : Bytes := s.scr.bytes (scrKey c w 0) 64
def State.scrCheck (s : State) (c w : Nat) : Bytes := s.scr.bytes (scrKey c w 64) 4
def State.scrClean (s : State) (c w : Nat) : Prop :=
  (lineDecode (s.scrCheck c w) (s.scrData c w) (s.scrTag c).1 (s.scrTag c).2).1 = .clean

/-- Everything of a state beside its cores and its registers. -/
def State.beside (s : State) : State := { s with cores := [], rf := [] }

/-- The state `t` is `s` but for one core, which is now `c`, its program counter register and its bundle counter. -/
structure OneCore (s t : State) (x : Nat) (c : CoreSt) : Prop where
  core : t.core x = c
  others : ∀ y, y ≠ x → t.core y = s.core y
  regs : ∀ k, k ≠ Reg.PX_PC (pxc x) (pxi x) → k ≠ Reg.PX_CNT_BUNDLES (pxc x) (pxi x) → t.reg k = s.reg k
  rest : t.beside = s.beside

/-- A core after a bundle of one operation without a branch: the next offset, one advancing cycle later. -/
def CoreSt.stepped (c : CoreSt) : CoreSt := { c with pc := c.pc + 4, adv := c.adv + 1 }

/-- A stepped core with a register written at latency 1. -/
def CoreSt.wrote (c : CoreSt) (d : Dst) (v : BitVec 512) : CoreSt := c.stepped.put d v

/-- A stepped core with a write of a longer latency in flight (R228). -/
def CoreSt.flying (c : CoreSt) (slot lat : Nat) (d : Dst) (v : BitVec 512) : CoreSt :=
  { c.stepped with pend := [⟨c.adv + lat, slot, d, v⟩] }

/-- An operation presented alone leaves its core as `f` says, and everything else as it was. -/
def Does (i : Instr) (h : OpHdr) (slot : Nat) (f : State → CoreSt → CoreSt) : Prop :=
  ∀ s, Lone s h slot → Completes i s (fun t => OneCore s t h.core (f s (s.core h.core)))

end Sys2Proof.Machine
end

