-- ==== Sys2Proof/Certificates/Slice0/Obligations.lean ====
section
/-! DEFINITION. What is claimed of the sled, each statement from the rules of the spec that its docstring names. A
statement about a command says, under hypotheses on the state and the operands alone, that the command answers a next
state and what that state holds. -/

open Sys2Proof Sys2Proof.Machine

/-! The prep and service cores. -/

/-- The register files (R220): a register reads back what was written into it, another register does not see it, p0 reads
1 whatever is written to it, and a vector write of a group of bytes keeps the other bytes. -/
def Obligations.RegisterFilesReadBack : Prop :=
  ∀ (c : CoreSt) (n m : Nat) (v : BitVec 512),
    ((c.put (.g n) v).gr m = if m = n then v.setWidth 64 else c.gr m)
    ∧ ((c.put (.a n) v).ar m = if m = n then v.setWidth 64 else c.ar m)
    ∧ ((c.put (.v n) v).vr m = if m = n then v else c.vr m)
    ∧ ((c.put (.seg n) v).sr m = if m = n then v.setWidth 64 else c.sr m)
    ∧ ((c.put (.p n) v).pr m = if m = 0 then true else if m = n then v.getLsbD 0 else c.pr m)
    ∧ ((c.put (.g n) v).vr m = c.vr m ∧ (c.put (.v n) v).gr m = c.gr m ∧ (c.put (.p n) v).gr m = c.gr m)

/-- Scalar arithmetic of slots S0 and S1 (R271): each operation, alone in its bundle, completes at latency 1 with its result
in gd, and changes no other register, core, memory or device. -/
def Obligations.ScalarArithmetic : Prop :=
  ∀ (h : OpHdr) (gd ga gb : Fin 64),
    let W (i : Instr) (f : DWord → DWord → DWord) : Prop :=
      Does i h (sSlot h) (fun _ c => c.wrote (.g gd) ((f (c.gr ga) (c.gr gb)).setWidth 512))
    W (.add h gd ga gb) (fun a b => a + b)
    ∧ W (.sub h gd ga gb) (fun a b => a - b)
    ∧ W (.and h gd ga gb) (fun a b => a &&& b)
    ∧ W (.or h gd ga gb) (fun a b => a ||| b)
    ∧ W (.xor h gd ga gb) (fun a b => a ^^^ b)
    ∧ W (.shl h gd ga gb) (fun a b => a <<< (b.toNat % 64))
    ∧ W (.shr h gd ga gb) (fun a b => a >>> (b.toNat % 64))
    ∧ W (.sar h gd ga gb) (fun a b => a.sshiftRight (b.toNat % 64))
    ∧ W (.ror h gd ga gb) (fun a b => a.rotateRight (b.toNat % 64))
    ∧ W (.min h gd ga gb) (fun a b => if b.toInt < a.toInt then b else a)
    ∧ W (.max h gd ga gb) (fun a b => if a.toInt < b.toInt then b else a)
    ∧ W (.minu h gd ga gb) (fun a b => if b.toNat < a.toNat then b else a)
    ∧ W (.maxu h gd ga gb) (fun a b => if a.toNat < b.toNat then b else a)
    ∧ W (.clz h gd ga) (fun a _ => BitVec.ofNat 64 (if a = 0 then 64 else 63 - a.toNat.log2))
    ∧ W (.popc h gd ga) (fun a _ => BitVec.ofNat 64 ((List.range 64).countP (fun i => a.getLsbD i)))

/-- Products (R228, R271): MUL, MULHU and MULHS are in flight for three advancing cycles, with the low half, the high half
of the unsigned and the high half of the signed product. -/
def Obligations.Products : Prop :=
  ∀ (h : OpHdr) (gd ga gb : Fin 64),
    let F (i : Instr) (f : DWord → DWord → DWord) : Prop :=
      Does i h (sSlot h) (fun _ c => c.flying (sSlot h) 3 (.g gd) ((f (c.gr ga) (c.gr gb)).setWidth 512))
    F (.mul h gd ga gb) (fun a b => a * b)
    ∧ F (.mulhu h gd ga gb) (fun a b => BitVec.ofNat 64 (a.toNat * b.toNat / 2 ^ 64))
    ∧ F (.mulhs h gd ga gb) (fun a b => BitVec.ofInt 64 (a.toInt * b.toInt / 2 ^ 64))

/-- Immediates, compares and predicate logic (R271): ADDI, LDI, INSI and ANDI write gd; CMP, CMPU, CMPI and PLOG write
pd, by their condition codes. -/
def Obligations.ImmediatesAndCompares : Prop :=
  ∀ (h : OpHdr) (gd ga gb : Fin 64) (pd pa pb : Fin 16) (k : Fin 4) (imm : BitVec 12) (im6 : BitVec 6),
    let W (i : Instr) (f : CoreSt → DWord) : Prop :=
      Does i h (sSlot h) (fun _ c => c.wrote (.g gd) ((f c).setWidth 512))
    let P (i : Instr) (f : CoreSt → Bool) : Prop :=
      Does i h (sSlot h) (fun _ c => c.wrote (.p pd) (if f c then 1 else 0))
    W (.addi h gd imm) (fun c => c.gr gd + imm.signExtend 64)
    ∧ W (.ldi h gd imm) (fun _ => imm.signExtend 64)
    ∧ W (.insi h gd imm) (fun c => (c.gr gd <<< 12) ||| imm.setWidth 64)
    ∧ W (.andi h gd imm) (fun c => c.gr gd &&& imm.signExtend 64)
    ∧ P (.cmp h pd k ga gb) (fun c =>
        match k with
        | 0 => c.gr ga == c.gr gb
        | 1 => c.gr ga != c.gr gb
        | 2 => decide ((c.gr ga).toInt < (c.gr gb).toInt)
        | 3 => decide ((c.gr ga).toInt ≤ (c.gr gb).toInt))
    ∧ P (.cmpu h pd k ga gb) (fun c =>
        match k with
        | 0 => decide ((c.gr ga).toNat < (c.gr gb).toNat)
        | 1 => decide ((c.gr ga).toNat ≤ (c.gr gb).toNat)
        | 2 => (c.gr ga &&& c.gr gb) != 0
        | 3 => (c.gr ga &&& c.gr gb) == 0)
    ∧ P (.cmpi h pd k ga im6) (fun c =>
        match k with
        | 0 => c.gr ga == im6.signExtend 64
        | 1 => c.gr ga != im6.signExtend 64
        | 2 => decide ((c.gr ga).toInt < (im6.signExtend 64).toInt)
        | 3 => decide ((c.gr ga).toNat < (im6.signExtend 64).toNat))
    ∧ P (.plog h pd k pa pb) (fun c =>
        match k with
        | 0 => c.pr pa && c.pr pb
        | 1 => c.pr pa || c.pr pb
        | 2 => c.pr pa != c.pr pb
        | 3 => c.pr pa && !c.pr pb)

/-- Moves (R222, R272, R277): general and address registers move at latency 1; special and segment registers at latency 2,
MFS of ORBIT, POS and CYCLES taking the value of the cycle of issue; MTS of a register that software may write; AADDI and
AADD add to an address register. A service core has no segment registers (R292). -/
def Obligations.Moves : Prop :=
  ∀ (h : OpHdr) (g : Fin 64) (x y : Fin 16) (imm : Byte),
    Does (.mga h g x) h (sSlot h) (fun _ c => c.wrote (.a x) ((c.gr g).setWidth 512))
    ∧ Does (.mag h g x) h (sSlot h) (fun _ c => c.wrote (.g g) ((c.ar x).setWidth 512))
    ∧ (x.val ≠ 1 → x.val ≠ 2 → x.val ≠ 3 →
        Does (.mfs h g x) h (sSlot h) (fun s c => c.flying (sSlot h) 2 (.g g) ((s.specialReg h.core c x).setWidth 512)))
    ∧ (x.val = 1 ∨ x.val = 2 ∨ x.val = 3 →
        Does (.mfs h g x) h (sSlot h) (fun s c =>
          c.flying (sSlot h) 2 (.g g) (BitVec.ofNat 512 (
            if x.val = 1 then s.obsOrbit (s.coreOwner h.core)
            else if x.val = 2 then s.tm.cycle
            else s.coreCycles h.core))))
    ∧ (x.val = 4 ∨ x.val = 6 ∨ x.val = 8 ∨ x.val = 9 ∨ x.val = 10 →
        Does (.mts h g x) h (sSlot h) (fun _ c => c.flying (sSlot h) 2 (.sp x) ((c.gr g).setWidth 512)))
    ∧ (h.core.val < 32 →
        Does (.mfseg h g x) h (sSlot h) (fun _ c =>
          c.flying (sSlot h) 2 (.g g) ((c.sr (2 * (x.val % 8) + x.val / 8)).setWidth 512))
        ∧ Does (.mtseg h g x) h (sSlot h) (fun _ c =>
          c.flying (sSlot h) 2 (.seg (2 * (x.val % 8) + x.val / 8)) ((c.gr g).setWidth 512)))
    ∧ Does (.aaddi h x y imm) h 2 (fun _ c => c.wrote (.a x) ((c.ar y + imm.signExtend 64).setWidth 512))
    ∧ Does (.aadd h x y g) h 2 (fun _ c => c.wrote (.a x) ((c.ar y + c.gr g).setWidth 512))

/-- Lanes (R278): a vector made of lanes reads back each lane cut to its width, and an operation of two vectors acts lane by
lane. -/
def Obligations.LanesReadBack : Prop :=
  ∀ (lw : Fin 4) (i : Nat), i < laneCount lw →
    (∀ l : List Nat, lane lw (ofLanes lw l) i = l.getD i 0 % 2 ^ laneBits lw)
    ∧ (∀ (f : Nat → Nat → Nat) (x y : BitVec 512),
        lane lw (lanes2 lw f x y) i = f (lane lw x i) (lane lw y i) % 2 ^ laneBits lw)

/-- Integer lanes (R278, R279): each operation of slot V, alone in its bundle, completes with its result in flight for vd
at its latency; sums, differences and left shifts are cut to the lane (see LanesReadBack), compares give all ones or zero. -/
def Obligations.VectorIntegers : Prop :=
  ∀ (h : OpHdr) (a : VArg) (v : Fin 32) (g : Fin 64) (ln : Fin 16),
    let lw : Nat := a.lw
    let F (i : Instr) (lat : Nat) (f : BitVec 512 → BitVec 512 → BitVec 512) : Prop :=
      Does i h 3 (fun _ c => c.flying 3 lat (.v a.vd) (f (c.vr a.va) (c.vr a.vb)))
    let s2 (n : Nat) : Int := sext (laneBits lw) n
    let mask (b : Bool) : Nat := if b then 2 ^ laneBits lw - 1 else 0
    F (.vadd h a) 2 (lanes2 lw (fun x y => x + y))
    ∧ F (.vsub h a) 2 (lanes2 lw (fun x y => x + 2 ^ laneBits lw - y))
    ∧ F (.vmin h a) 2 (lanes2 lw (fun x y => if s2 y < s2 x then y else x))
    ∧ F (.vmax h a) 2 (lanes2 lw (fun x y => if s2 x < s2 y then y else x))
    ∧ F (.vminu h a) 2 (lanes2 lw (fun x y => Nat.min x y))
    ∧ F (.vmaxu h a) 2 (lanes2 lw (fun x y => Nat.max x y))
    ∧ F (.vand h a) 2 (fun x y => x &&& y)
    ∧ F (.vor h a) 2 (fun x y => x ||| y)
    ∧ F (.vxor h a) 2 (fun x y => x ^^^ y)
    ∧ F (.vshl h a) 2 (lanes2 lw (fun x y => x * 2 ^ (y % laneBits lw)))
    ∧ F (.vshr h a) 2 (lanes2 lw (fun x y => x / 2 ^ (y % laneBits lw)))
    ∧ F (.vsar h a) 2 (lanes2 lw (fun x y => trunc (laneBits lw) (s2 x / 2 ^ (y % laneBits lw))))
    ∧ F (.vcmpeq h a) 2 (lanes2 lw (fun x y => mask (x == y)))
    ∧ F (.vcmplt h a) 2 (lanes2 lw (fun x y => mask (decide (s2 x < s2 y))))
    ∧ F (.vcmpltu h a) 2 (lanes2 lw (fun x y => mask (decide (x < y))))
    ∧ F (.vperm h a) 3 (fun x y => ofLanes lw ((lanes lw y).map (fun i => lane lw x (i % laneCount lw))))
    ∧ F (.vslide h a) 3 (fun x y => ofLanes lw ((List.range (laneCount lw)).map (fun i =>
        if i + lane lw y 0 < laneCount lw then lane lw x (i + lane lw y 0) else 0)))
    ∧ Does (.vsel h a) h 3 (fun _ c => c.flying 3 2 (.v a.vd)
        ((c.vr a.vd &&& c.vr a.va) ||| (~~~(c.vr a.vd) &&& c.vr a.vb)))
    ∧ Does (.vbcast h a.lw v g) h 3 (fun _ c => c.flying 3 2 (.v v)
        (ofLanes lw (List.replicate (laneCount lw) (c.gr g).toNat)))
    ∧ (ln.val < laneCount lw →
        Does (.vext h a.lw v g ln) h 3 (fun _ c => c.flying 3 2 (.g g)
          ((BitVec.ofNat 64 (lane lw (c.vr v) ln)).setWidth 512)))

/-- FP32 lanes (R279, R280): with LW 2 each operation completes with its lanes in flight for vd at latency 4; each lane is
rounded once, VFMA after the product and the sum, and the compares give all ones or zero. -/
def Obligations.VectorFp32 : Prop :=
  ∀ (h : OpHdr) (a : VArg), a.lw.val = 2 →
    let F (i : Instr) (f : BitVec 512 → BitVec 512 → BitVec 512) : Prop :=
      Does i h 3 (fun _ c => c.flying 3 4 (.v a.vd) (f (c.vr a.va) (c.vr a.vb)))
    let mask (b : Bool) : Word := if b then 0xFFFFFFFF else 0
    F (.vfadd h a) (flanes2 (fun x y => toFp32 ((ofFp32 x).add (ofFp32 y))))
    ∧ F (.vfsub h a) (flanes2 (fun x y => toFp32 ((ofFp32 x).add (ofFp32 y).negate)))
    ∧ F (.vfmul h a) (flanes2 (fun x y => toFp32 ((ofFp32 x).mul (ofFp32 y))))
    ∧ F (.vfmin h a) (flanes2 (fun x y =>
        if (ofFp32 x).isNan || (ofFp32 y).isNan then 0x7FC00000 else if fBelow y x then y else x))
    ∧ F (.vfmax h a) (flanes2 (fun x y =>
        if (ofFp32 x).isNan || (ofFp32 y).isNan then 0x7FC00000 else if fBelow x y then y else x))
    ∧ F (.vfcmplt h a) (flanes2 (fun x y => mask ((ofFp32 x).lt (ofFp32 y))))
    ∧ F (.vfcmple h a) (flanes2 (fun x y => mask ((ofFp32 x).lt (ofFp32 y) || (ofFp32 x).eqv (ofFp32 y))))
    ∧ Does (.vfma h a) h 3 (fun _ c => c.flying 3 4 (.v a.vd) (ofFlanes ((List.range 16).map (fun i =>
        toFp32 (((ofFp32 (flane (c.vr a.va) i)).mul (ofFp32 (flane (c.vr a.vb) i))).add (ofFp32 (flane (c.vr a.vd) i)))))))

/-- Reductions, scans, ranks and accept-scans (R279–R282): with a zero vb where one is required, and LW 2 for FP32, each
completes with its result in flight for vd at latency 6. -/
def Obligations.Reductions : Prop :=
  ∀ (h : OpHdr) (a : VArg),
    let lw : Nat := a.lw
    let s2 (n : Nat) : Int := sext (laneBits lw) n
    let F (i : Instr) (f : BitVec 512 → BitVec 512) : Prop :=
      Does i h 3 (fun _ c => c.flying 3 6 (.v a.vd) (f (c.vr a.va)))
    (a.vb.val = 0 →
      F (.vredadd h a) (fun x => ofLanes lw [(lanes lw x).sum])
      ∧ F (.vredmax h a) (fun x => ofLanes lw
          [(lanes lw x).foldl (fun m y => if s2 m < s2 y then y else m) (lane lw x 0)])
      ∧ F (.vredmin h a) (fun x => ofLanes lw
          [(lanes lw x).foldl (fun m y => if s2 y < s2 m then y else m) (lane lw x 0)]))
    ∧ (a.lw.val = 2 → a.vb.val = 0 →
      F (.vfredadd h a) (fun x => ofFlanes [fRedAdd (flanes x)])
      ∧ F (.vfredmax h a) (fun x => ofFlanes [(fArgMax (flanes x)).1])
      ∧ F (.vfargmax h a) (fun x => ofLanes 2 [(fArgMax (flanes x)).1.toNat, (fArgMax (flanes x)).2])
      ∧ F (.vfscan h a) (fun x => ofFlanes (fScanLanes (flanes x)))
      ∧ F (.vsortk h a) (fun x => ofLanes 2 (sortIdx (flanes x))))
    ∧ (a.lw.val = 2 →
      Does (.vaccept h a) h 3 (fun _ c => c.flying 3 6 (.v a.vd) (vAccept (c.vr a.va) (c.vr a.vb)))
      ∧ Does (.vacceptp h a) h 3 (fun _ c => c.flying 3 6 (.v a.vd) (vAcceptP (c.vr a.va) (c.vr a.vb))))

/-- Slot F (R283–R288): the special functions at latency 8 in both forms, the conversions at latency 4; CVTDN writes only
the bytes of its group. The special functions are free functions outside the inputs that R285 fixes (log entry 15). -/
def Obligations.SlotF : Prop :=
  ∀ (h : OpHdr) (vd va : Fin 32) (gd ga : Fin 64) (grp : BitVec 3) (fmt : BitVec 4),
    let V (i : Instr) (lat : Nat) (f : BitVec 512 → BitVec 512) : Prop :=
      Does i h 4 (fun _ c => c.flying 4 lat (.v vd) (f (c.vr va)))
    let G (i : Instr) (lat : Nat) (f : DWord → DWord) : Prop :=
      Does i h 4 (fun _ c => c.flying 4 lat (.g gd) ((f (c.gr ga)).setWidth 512))
    let each (f : Word → Word) (x : BitVec 512) : BitVec 512 := ofFlanes ((flanes x).map f)
    let low (f : Word → Word) (x : DWord) : DWord := (f (x.setWidth 32)).setWidth 64
    (V (.fexp2 h (.fv vd va 0 0)) 8 (each sfExp2) ∧ G (.fexp2 h (.fs gd ga)) 8 (low sfExp2))
    ∧ (V (.flog2 h (.fv vd va 0 0)) 8 (each sfLog2) ∧ G (.flog2 h (.fs gd ga)) 8 (low sfLog2))
    ∧ (V (.frcp h (.fv vd va 0 0)) 8 (each sfRcp) ∧ G (.frcp h (.fs gd ga)) 8 (low sfRcp))
    ∧ (V (.frsqrt h (.fv vd va 0 0)) 8 (each sfRsqrt) ∧ G (.frsqrt h (.fs gd ga)) 8 (low sfRsqrt))
    ∧ (∀ f off len, cvtGroup fmt.toNat grp.toNat = some (f, off, len) →
        V (.cvtup h (.fv vd va grp fmt)) 4 (fun x => cvtUp f off len x)
        ∧ Does (.cvtdn h (.fv vd va grp fmt)) h 4 (fun _ c =>
            c.flying 4 4 (.vpart vd off len) (cvtDnGroup f (c.vr va))))
    ∧ (grp.toNat < 4 → V (.cvtscl h (.fv vd va grp fmt)) 4 (fun x => cvtScl grp.toNat x))
    ∧ (V (.cvti2f h (.fv vd va 0 0)) 4 (each (fun w => toFp32 (FVal.ofInt w.toInt 0 false)))
        ∧ G (.cvti2f h (.fs gd ga)) 4 (fun x => (toFp32 (FVal.ofInt x.toInt 0 false)).setWidth 64))
    ∧ (V (.cvtf2i h (.fv vd va 0 0)) 4 (fun x => ofLanes 2 ((flanes x).map (fun w => (ofFp32 w).satInt 32)))
        ∧ G (.cvtf2i h (.fs gd ga)) 4 (fun x => BitVec.ofNat 64 ((ofFp32 (x.setWidth 32)).satInt 64)))

/-- Branches (R233, R289, R290): NOP steps on; BR, BRI and taken BRT, BRF and BDEC leave the next bundle in line and a
branch to their target pending for two delay bundles; one not taken steps on; BDEC writes ga − 1. -/
def Obligations.Branches : Prop :=
  ∀ (h : OpHdr) (tgt : BitVec 15) (pc : Fin 16) (disp : BitVec 14) (ga : Fin 64) (d12 : BitVec 12),
    let goes (c : CoreSt) (n : Nat) : CoreSt := { c with branch := some (n, 2) }
    let near (c : CoreSt) (n : Int) : Nat := trunc 17 (c.pc + 4 * n)
    Does (.nop h) h 5 (fun _ c => c.stepped)
    ∧ Does (.br h tgt) h 5 (fun _ c => goes c.stepped (4 * tgt.toNat))
    ∧ Does (.brt h pc disp) h 5 (fun _ c => if c.pr pc then goes c.stepped (near c disp.toInt) else c.stepped)
    ∧ Does (.brf h pc disp) h 5 (fun _ c => if c.pr pc then c.stepped else goes c.stepped (near c disp.toInt))
    ∧ Does (.bri h ga) h 5 (fun _ c => goes c.stepped ((c.gr ga).toNat % 2 ^ 17 / 4 * 4))
    ∧ Does (.bdec h ga d12) h 5 (fun _ c =>
        let c1 := c.wrote (.g ga) ((c.gr ga - 1).setWidth 512)
        if c.gr ga = 1 then c1 else goes c1 (near c d12.toInt))

/-- Calls and returns within the hardware return stack (R242, R243): CALL and CALLI push the offset after the two delay
bundles where fewer than 32 offsets are held; RET pops the newest where another is held or none is spilled; each leaves a
branch pending for two delay bundles. A CALL that finds 32 offsets and no room to spill traps RS_OVERFLOW, and a RET that finds
none traps RS_UNDERFLOW: the core enters its handler with TCAUSE naming the cause and slot B (R252, R255). -/
def Obligations.CallsAndReturns : Prop :=
  ∀ (h : OpHdr) (tgt : BitVec 15) (ga : Fin 64) (s : State), Lone s h 5 →
    let x : Nat := h.core
    let c := s.core x
    let link := s.bundleEnd x 64 (s.bundleEnd x 64 (c.pc + 4)) % 2 ^ 17
    let call (n : Nat) : CoreSt := { c.stepped with rstack := link :: c.rstack, branch := some (n, 2) }
    let trap (t : State) (cause : Nat) : Prop :=
      t.core x = { c with
        stall := .none, bundle := [], branch := none, inHandler := true, pc := c.tvec.toNat / 4 * 4 % 2 ^ 17,
        tcause := BitVec.ofNat 64 (cause + 5 * 2 ^ 16), tpc := BitVec.ofNat 64 c.pc, tfpc := BitVec.ofNat 64 c.pc,
        taddr := 0, tbr := 0 }
    (c.rstack.length < 32 →
      Completes (.call h tgt) s (fun t => OneCore s t x (call (4 * tgt.toNat)))
      ∧ Completes (.calli h ga) s (fun t => OneCore s t x (call ((c.gr ga).toNat % 2 ^ 17 / 4 * 4))))
    ∧ (∀ r rest, c.rstack = r :: rest → rest ≠ [] ∨ c.spilled = 0 →
      Completes (.ret h) s (fun t => OneCore s t x { c.stepped with rstack := rest, branch := some (r, 2) }))
    ∧ (c.inHandler = false → c.tvec.getLsbD 0 = true →
      (32 ≤ c.rstack.length → c.rsLimit ≤ c.rsBase + 64 * c.spilled →
        Completes (.call h tgt) s (fun t => trap t 0x0F) ∧ Completes (.calli h ga) s (fun t => trap t 0x0F))
      ∧ (c.rstack = [] → Completes (.ret h) s (fun t => trap t 0x10)))

/-- Waits, traps, returns from them, HALT and FENCE (R240, R250, R252–R255, R258, R290, R291): a wait stalls its core
with its condition from gv and its limit from gl[31:0]; TRAP enters the handler with cause SOFTWARE and its immediate as
detail, or, with no handler, leaves a prep core FAULTED; TRET leaves the handler for the bundle at TPC or the pending branch
that TBR holds; HALT leaves the core HALTED after its writes; FENCE steps on once no store is outstanding. -/
def Obligations.WaitsAndTraps : Prop :=
  ∀ (h : OpHdr) (a : WaitArg) (imm : Byte) (s : State), Lone s h 5 →
    let x : Nat := h.core
    let c := s.core x
    let v := (c.gr a.gv).toNat
    let waits (t : State) (w : WaitCond) : Prop :=
      OneCore s t x { c.stepped with stall := .wait w a.pd ((c.gr a.gl).toNat % 2 ^ 32), since := s.now }
    let trapped : CoreSt := { c with
      stall := .none, bundle := [], branch := none,
      tcause := BitVec.ofNat 64 (0x13 + 2 ^ 8 * imm.toNat + 5 * 2 ^ 16), tpc := BitVec.ofNat 64 c.pc,
      tfpc := BitVec.ofNat 64 c.pc, taddr := 0, tbr := 0 }
    (x < 32 → Completes (.waitCompletionCounter h a) s
      (fun t => waits t (.counter (v / 2 ^ 36 % 4) (v / 2 ^ 32 % 16) (v % 2 ^ 32))))
    ∧ Completes (.waitOrbitSlot h a) s (fun t => waits t (.orbitSlot (v % 2 ^ 48) (v / 2 ^ 48 % 64)))
    ∧ (x < 32 → Completes (.waitDoorbell h a) s (fun t => waits t (.doorbell (v % 8))))
    ∧ (c.inHandler = false → c.tvec.getLsbD 0 = true →
        Completes (.trap h imm) s (fun t =>
          t.core x = { trapped with inHandler := true, pc := c.tvec.toNat / 4 * 4 % 2 ^ 17 }
          ∧ ∀ y, y ≠ x → t.core y = s.core y))
    ∧ (x < 32 → c.inHandler = false → c.tvec.getLsbD 0 = false →
        Completes (.trap h imm) s (fun t => t.core x = trapped ∧ t.pxState x = 5))
    ∧ Completes (.tret h) s (fun t => OneCore s t x { c.trapReturn with adv := c.adv + 1 })
    ∧ Completes (.halt h) s (fun t =>
        t.core x = { c.stepped with halting := false, tbr := if c.inHandler then c.tbr else 0 }
        ∧ (x < 32 → t.pxState x = 4)
        ∧ (32 ≤ x → t.fld (Reg.SV_STATUS (x - 32)) Fld.SV_STATUS_STATE = 2)
        ∧ ∀ y, y ≠ x → t.core y = s.core y)

/-- FENCE (R240): it steps on where no posted store is outstanding and none has failed; it stalls its core while one is
outstanding; it traps STORE_ERROR with the first failed store's address and status. -/
def Obligations.Fences : Prop :=
  ∀ (h : OpHdr) (s : State), Lone s h 2 →
    let x : Nat := h.core
    let c := s.core x
    (c.posted = [] → c.storeErr = none → Completes (.fence h) s (fun t => OneCore s t x c.stepped))
    ∧ (c.posted ≠ [] → Completes (.fence h) s (fun t =>
        (t.core x).stall = .bundle ∧ (t.core x).pc = c.pc ∧ (t.core x).posted = c.posted))
    ∧ (c.posted = [] → ∀ u code, c.storeErr = some (u, code) → c.inHandler = false → c.tvec.getLsbD 0 = true →
        Completes (.fence h) s (fun t =>
          (t.core x).inHandler = true ∧ (t.core x).pc = c.tvec.toNat / 4 * 4 % 2 ^ 17
          ∧ (t.core x).storeErr = none ∧ (t.core x).taddr = BitVec.ofNat 64 u
          ∧ (t.core x).tcause = BitVec.ofNat 64 (0x0B + 2 ^ 8 * (code % 256) + 2 * 2 ^ 16)))

/-- Loads and stores of memory (R229, R238, R240, R274, R275): an access that breaks no address rule, to partition memory from a
prep core or to the service region from a service core. Each mode forms its address and updates its address register as R274
says; a load stalls its core until it is answered; a store is posted and the core steps on. -/
def Obligations.LoadsAndStores : Prop :=
  ∀ (h : OpHdr) (a : LsArg) (s : State), Lone s h 2 →
    let x : Nat := h.core
    let c := s.core x
    let sz (n : Nat) : DWord := BitVec.ofNat 64 n
    let addr (n : Nat) : DWord :=
      match a.mode with
      | 0 => c.ar a.aa + a.ofs.signExtend 64 * sz n
      | 1 => c.ar a.aa
      | 2 => c.ar a.aa - a.ofs.setWidth 64 * sz n
      | 3 => c.ar a.aa + (c.gr (a.ofs.toNat % 64) <<< (if a.ofs.getLsbD 6 then n.log2 else 0))
    let after (n : Nat) : CoreSt :=
      match a.mode with
      | 1 => c.wrote (.a a.aa) ((c.ar a.aa + a.ofs.setWidth 64 * sz n).setWidth 512)
      | 2 => c.wrote (.a a.aa) ((c.ar a.aa - a.ofs.setWidth 64 * sz n).setWidth 512)
      | 0 => c.stepped
      | 3 => c.stepped
    let acc (n : Nat) (k : AccKind) : Access := ⟨(addr n).toNat, n, a.aa, k⟩
    let legal (n : Nat) (k : AccKind) : Prop :=
      s.accessFault x (acc n k) = none ∧ uReg (c.unified (acc n k)) = (if x < 32 then 0 else 1)
    let L (i : Instr) (n : Nat) (k : AccKind) : Prop :=
      legal n k → Completes i s (fun t => OneCore s t x { after n with stall := .access (acc n k) c.pc, since := s.now })
    let S (i : Instr) (n : Nat) (d : Bytes) : Prop :=
      legal n (.store d) → Completes i s (fun t =>
        OneCore s t x { after n with posted := c.posted ++ [(c.unified (acc n (.store d)), d)] })
    L (.ld8u h a) 1 (.load false (.g a.d)) ∧ L (.ld16u h a) 2 (.load false (.g a.d))
    ∧ L (.ld32u h a) 4 (.load false (.g a.d)) ∧ L (.ld64 h a) 8 (.load false (.g a.d))
    ∧ L (.ld8s h a) 1 (.load true (.g a.d)) ∧ L (.ld16s h a) 2 (.load true (.g a.d))
    ∧ L (.ld32s h a) 4 (.load true (.g a.d))
    ∧ S (.st8 h a) 1 (le 1 (c.gr a.d).toNat) ∧ S (.st16 h a) 2 (le 2 (c.gr a.d).toNat)
    ∧ S (.st32 h a) 4 (le 4 (c.gr a.d).toNat) ∧ S (.st64 h a) 8 (le 8 (c.gr a.d).toNat)
    ∧ (x < 32 → a.d.val < 32 →
        L (.vld h a) 64 (.load false (.v a.d)) ∧ S (.vst h a) 64 (vecBytes (c.vr a.d)))

/-- Atomics of a service core on its shared SRAM (R276, R557), and ENQ of a prep core (R249, R276): an atomic that breaks no
address rule puts the old value in flight for gd at latency 6 and stores the sum modulo the width, or the new value; no other
byte changes. ENQ to a command port stalls its core until it is answered. -/
def Obligations.AtomicsAndEnqueues : Prop :=
  ∀ (h : OpHdr) (gd : Fin 64) (aa pd : Fin 16) (vs : Fin 32) (ofs : BitVec 7) (s : State), Lone s h 2 →
    let x : Nat := h.core
    let c := s.core x
    let A (i : Instr) (n : Nat) (wide swap : Bool) (f : Nat → Nat → Nat) : Prop :=
      let u := (c.ar aa + ofs.signExtend 64 * BitVec.ofNat 64 n).toNat
      32 ≤ x → s.accessFault x ⟨u, n, aa, .atom wide swap (c.gr gd) gd⟩ = none → c.compat = false → uReg u = 2 →
      Completes i s (fun t =>
        let old := sramBytes s.fw.sram (uOff u) n
        t.core x = c.flying 2 6 (.g gd) (BitVec.ofNat 512 (leVal old))
        ∧ t.fw = { s.fw with sram := sramStore s.fw.sram (uOff u) (le n (f (leVal old) (c.gr gd).toNat)) }
        ∧ (∀ y, y ≠ x → t.core y = s.core y) ∧ ∀ k, t.reg k = s.reg k)
    A (.atomAdd32 h gd aa ofs) 4 false false (fun o v => o + v)
    ∧ A (.atomAdd64 h gd aa ofs) 8 true false (fun o v => o + v)
    ∧ A (.atomSwap32 h gd aa ofs) 4 false true (fun _ v => v)
    ∧ A (.atomSwap64 h gd aa ofs) 8 true true (fun _ v => v)
    ∧ (let a : Access := ⟨(c.ar aa).toNat, 64, aa, .enq (vecBytes (c.vr vs)) pd⟩
      x < 32 → s.accessFault x a = none → Completes (.enq h vs aa pd) s (fun t =>
        OneCore s t x { c.stepped with stall := .access a c.pc, since := s.now }))

/-- What ends a core's stalls (R230, R240, R250, R252): an answered load is in flight for five advancing cycles and its core goes
on; a posted store completes in order; a deferred trap enters the handler with TCAUSE[19] set; a wait ends with its predicate 1
where its condition holds, and 0 where only its limit, which is not 0, has run out. -/
def Obligations.StallsEnd : Prop :=
  ∀ (s : State) (x : Fin 40), s.Live →
    let c := s.core x
    (∀ a tfpc sg dst st d s', c.stall = .access a tfpc → a.kind = .load sg dst → uReg (c.unified a) ≠ 8 → c.halting = false →
      c.posted = [] → s.loadMem x (c.unified a) a.size = (s', st, d) → st.good = true →
      Completes (.pxAccessAnswer x) s (fun t =>
        t.core x = { c with stall := .none, pend := c.pend ++ [⟨c.adv + 5, 2, dst, loadValue sg d⟩] }
        ∧ ∀ y, y ≠ x.val → t.core y = s.core y))
    ∧ (∀ u d r, c.posted = (u, d) :: r → c.stall ≠ .bundle →
      Completes (.postedStoreComplete x) s (fun t =>
        (t.core x).posted = r ∧ (t.core x).pc = c.pc ∧ (t.core x).g = c.g
        ∧ ∀ y, y ≠ x.val → t.core y = s.core y))
    ∧ (∀ f r, c.late = f :: r → c.pend = [] → c.inHandler = false → c.tvec.getLsbD 0 = true →
      Completes (.deferredTrap x) s (fun t =>
        t.core x = { c with
          late := r, bundle := [], stall := .none, branch := none, inHandler := true
          pc := c.tvec.toNat / 4 * 4 % 2 ^ 17
          tcause := BitVec.ofNat 64 (f.fault.cause % 256 + 2 ^ 8 * (f.fault.detail % 256) + 2 ^ 16 * (f.slot % 8) + 2 ^ 19)
          tpc := BitVec.ofNat 64 c.pc, tfpc := BitVec.ofNat 64 f.tfpc, taddr := BitVec.ofNat 64 f.fault.addr
          tbr := tbrOf c.branch }))
    ∧ (∀ i pd limit, c.stall = .wait (.doorbell i) pd limit → c.halting = false → s.coreRuns x = true →
      let seen := s.reg (Reg.PX_DBELL (pxc x) (pxi x) i)
      (seen ≠ 0 → ∀ e, Completes (.waitEnd x e) s (fun t => t.core x = { c.put (.p pd) 1 with stall := .none }))
      ∧ (seen = 0 → limit ≠ 0 → Completes (.waitEnd x true) s (fun t => t.core x = { c.put (.p pd) 0 with stall := .none }))
      ∧ (seen = 0 → Completes (.waitEnd x false) s (fun t => t.core = s.core)))

/-- Commands of prep cores (R251, R256–R259, R261), written to PX_CTRL by the management plane: LOAD of a core in EMPTY, READY,
HALTED or FAULTED makes it LOADING; START of a READY core and RESTART of a READY, HALTED or FAULTED one start it afresh at its
image's entry with its registers zero and a15 at DS_HIGH; START of a HALTED core resumes it; HALT of a running core that is not
stalled leaves it HALTED with its pending branch in TBR; a command that is not valid in the core's state sets CMD_REJECTED; a
load that ends leaves the core READY with the image read, or EMPTY without code and with the reason; a doorbell word takes the
word written. -/
def Obligations.CoreCommands : Prop :=
  ∀ (s : State) (src : Src) (w : ClWriter) (x : Fin 32) (i : Fin 8) (v : Word), s.Live →
    let c := s.core x
    let st := s.pxState x
    let runs (t : State) : Prop :=
      t.pxState x = 3 ∧ (∀ m, c.img = some m →
        (t.core x).pc = m.entry ∧ (∀ n, (t.core x).gr n = 0) ∧ (t.core x).ar 15 = m.dsHigh ∧ (t.core x).img = c.img)
    ((st = 0 ∨ st = 2 ∨ st = 4 ∨ st = 5) → Completes (.pxLoad (.mgmt src) x 1) s (fun t => t.pxState x = 1 ∧ t.core x = c))
    ∧ (st = 1 ∨ st = 3 → Completes (.pxLoad (.mgmt src) x 1) s (fun t =>
        t.pxState x = st ∧ t.core x = c ∧ t.flag (Reg.PX_EVENT (pxc x) (pxi x)) Fld.PX_EVENT_CMD_REJECTED = true))
    ∧ (st = 2 → Completes (.pxStart (.mgmt src) x 2) s runs)
    ∧ (st = 4 → Completes (.pxStart (.mgmt src) x 2) s (fun t => t.pxState x = 3 ∧ t.core x = { c with since := s.now }))
    ∧ (st = 2 ∨ st = 4 ∨ st = 5 → Completes (.pxRestart (.mgmt src) x 4) s runs)
    ∧ (st = 3 → c.stall = .none → c.pend = [] → c.inHandler = false → Completes (.pxHalt (.mgmt src) x 8) s (fun t =>
        t.pxState x = 4 ∧ t.core x = { c with halting := false, tbr := tbrOf c.branch }))
    ∧ (st = 1 → Completes (.pxLoadDone x) s (fun t =>
        t.flag (Reg.PX_EVENT (pxc x) (pxi x)) Fld.PX_EVENT_LOAD_DONE = true
        ∧ ((∃ m, (t.core x).img = some m ∧ t.pxState x = 2) ∨ ((t.core x).img = none ∧ t.pxState x = 0))))
    ∧ Leaves (.pxDbellWrite w x i v) s (s.setReg (Reg.PX_DBELL (pxc x) (pxi x) i) v)

/-! The block as a whole. -/

/-- A step takes the command at the front of the queue and runs it on the state with the rest of the queue (the model's
queue, log entry 1). -/
def Obligations.StepRunsFront : Prop :=
  ∀ (c : Instr) (rest : List Instr) (s : State), s.pending = c :: rest → step s = exec c { s with pending := rest }

/-- With an empty queue a step is one cycle of the core clock (the model's choice, log entry 3): at cycle 16,383 the next
orbit begins at cycle 0, and at every other cycle the position in the orbit advances by one (R7, R45); a die without power
stands still. -/
def Obligations.IdleStepIsOneCycle : Prop :=
  ∀ s : State, s.pending = [] → ∃ t, step s = .next t ∧ t.pending = [] ∧
    (s.pwr.on = false → t.tm.orbit = s.tm.orbit ∧ t.tm.cycle = s.tm.cycle)
    ∧ (s.pwr.on = true → s.tm.cycle < 16383 → t.tm.orbit = s.tm.orbit ∧ t.tm.cycle = s.tm.cycle + 1)
    ∧ (s.pwr.on = true → 16383 ≤ s.tm.cycle → t.tm.orbit = s.tm.orbit + 1 ∧ t.tm.cycle = 0)

/-- Every command, in every state, completes in a next state, and none changes the queue of waiting commands. -/
def Obligations.EveryCommandCompletes : Prop :=
  ∀ (c : Instr) (s : State), ∃ t, exec c s = .next t ∧ t.pending = s.pending

/-- The soundness of a state, kept by every step: the position stands below 16,384 cycles (R7, R8) and every waiting command
has the shape that the manual gives it. -/
def Obligations.StepsKeepSound : Prop :=
  ∀ s t : State, s.Sound → step s = .next t → t.Sound

/-- The state after reset is sound. -/
def Obligations.ResetIsSound : Prop := State.reset.Sound

/-- The orbit counter is incremented at the mark and by nothing else while the die keeps its state (R45, R46, R47): a
command other than the clock's rows and the rows of power and removal leaves the orbit and the position as they were;
ORBIT_MARK adds one to the 48-bit counter and puts the position at 0; SLOT_BOUNDARY puts it at cycle 256 · slot of the same
orbit; a row of power or removal leaves both or restarts them at 0. -/
def Obligations.TimeMovesByMarks : Prop :=
  ∀ (c : Instr) (s t : State), exec c s = .next t →
    let same : Prop := t.tm.orbit = s.tm.orbit ∧ t.tm.cycle = s.tm.cycle
    match c with
    | .orbitMark => if s.pwr.on then t.tm.orbit = s.tm.orbit + 1 ∧ t.tm.cycle = 0 else same
    | .slotBoundary n =>
      if s.pwr.on && decide (s.tm.cycle ≤ 256 * n.val) then t.tm.orbit = s.tm.orbit ∧ t.tm.cycle = 256 * n.val else same
    | .powerOn | .p48vLow | .powerOff | .thermalTrip | .removalReady => same ∨ (t.tm.orbit = 0 ∧ t.tm.cycle = 0)
    | _ => same

/-- At power-on every field of every register that a table lists holds the reset value that the table states as a number
(R19, R20). -/
def Obligations.ResetHoldsTableValues : Prop :=
  ∀ (k : Nat) (r : RegRow) (ix : List Nat), regAt k = some (r, ix) → ∀ f ∈ r.flds, f.src = .num →
    State.reset.fld k f = f.rst

/-- The byte stores of the sled: DRAM, scratch and service-core SRAM. Bytes stored at an address read back; bytes of other
addresses read as before; the canonical form of the store (keys rising, no entry equal to what an unlisted byte reads as) is
kept. -/
def Obligations.StoresReadBack : Prop :=
  ∀ (a b n : Nat) (d : Bytes),
    (∀ m : FabSt, (m.store a d).bytes a d.length = d
      ∧ (b + n ≤ a ∨ a + d.length ≤ b → (m.store a d).bytes b n = m.bytes b n)
      ∧ (Tab.wf (memDefault m.fill) m.cells = true → Tab.wf (memDefault m.fill) (m.store a d).cells = true))
    ∧ (∀ m : ScrSt, (m.store a d).bytes a d.length = d
      ∧ (b + n ≤ a ∨ a + d.length ≤ b → (m.store a d).bytes b n = m.bytes b n)
      ∧ (Tab.wf (scrDefault m.fill) m.cells = true → Tab.wf (scrDefault m.fill) (m.store a d).cells = true))
    ∧ (∀ t : List Host.Cell, sramBytes (sramStore t a d) a d.length = d
      ∧ (b + n ≤ a ∨ a + d.length ≤ b → sramBytes (sramStore t a d) b n = sramBytes t b n)
      ∧ (Tab.wf (fun _ => 0) t = true → Tab.wf (fun _ => 0) (sramStore t a d) = true))

/-! The orbit and the Ephemeris. -/

/-- A commit of the Ephemeris (R60, R61): a write of 1 to EPH_CTRL.COMMIT schedules the switch for the next orbit's mark
when the cycle is at most 16,127 and for the mark after that otherwise, and COMMIT_PENDING reads 1; while it is pending a
further commit has no effect, and writes to EPH_SLOT and EPH_MODE are discarded and set WRITE_DROPPED; at its mark the whole
shadow table is copied into the active copy, and COMMIT_PENDING reads 0. Until the mark the active copy stays. -/
def Obligations.EphemerisCommit : Prop :=
  ∀ (s : State) (src : Src) (v : Word) (n : Fin 256), s.Live →
    (v.getLsbD 0 = true → s.tm.commitDue = none →
      Leaves (.ephCommit src v) s
        (({ s with tm := { s.tm with commitDue := some (s.orbitN + if s.tm.cycle ≤ 16127 then 1 else 2) } }).setFld
          Reg.EPH_STATUS Fld.EPH_STATUS_COMMIT_PENDING 1))
    ∧ (s.tm.commitDue ≠ none →
        Leaves (.ephCommit src v) s s
        ∧ (n.val < 80 ∨ 128 ≤ n.val → Leaves (.ephSlotWrite src n v) s (s.setFld Reg.EPH_STATUS Fld.EPH_STATUS_WRITE_DROPPED 1))
        ∧ Leaves (.ephModeWrite src v) s (s.setFld Reg.EPH_STATUS Fld.EPH_STATUS_WRITE_DROPPED 1))
    ∧ (∀ due, s.tm.commitDue = some due →
        (s.orbitN < due → Leaves .ephCommitEffect s s)
        ∧ (due ≤ s.orbitN → Completes .ephCommitEffect s (fun t =>
            t.tm.commitDue = none
            ∧ t.fld Reg.EPH_STATUS Fld.EPH_STATUS_COMMIT_PENDING = 0
            ∧ ∀ m, m < 256 → t.reg (Reg.EPH_ACTIVE m) = ephView m (s.reg (Reg.EPH_SLOT m)))))

/-- Writes of the Ephemeris with no commit pending, and reads of the counter (R51, R62, R63, R69): EPH_SLOT takes its four entries,
but for the entry of slot 63, which stays housekeeping, and the reserved rows, which take none; EPH_MODE shows what was written at once and takes effect at the mark that R60 gives;
at that mark EPH_MODE_ACT takes the value; a read of ORB_COUNT_LO returns its bits and latches ORB_COUNT_HI and ORB_POS of
the same cycle. -/
def Obligations.EphemerisWrites : Prop :=
  ∀ (s : State) (src : Src) (v : Word) (n : Fin 256), s.Live →
    (s.tm.commitDue = none →
      (n.val < 80 ∨ 128 ≤ n.val → Leaves (.ephSlotWrite src n v) s (s.setReg (Reg.EPH_SLOT n) (ephView n v)))
      ∧ Leaves (.ephModeWrite src v) s
          ({ s.setFld Reg.EPH_MODE Fld.EPH_MODE_SEALED v.toNat with
            tm := { s.tm with modeWrites := s.tm.modeWrites ++
              [(s.orbitN + if s.tm.cycle ≤ 16127 then 1 else 2, v.setWidth 16)] } }))
    ∧ (80 ≤ n.val → n.val < 128 → Leaves (.ephSlotWrite src n v) s s)
    ∧ (∀ due (m : BitVec 16), s.tm.modeWrites = [(due, m)] → due ≤ s.orbitN →
        Completes .ephModeApply s (fun t =>
          t.tm.modeWrites = [] ∧ t.fld Reg.EPH_MODE_ACT Fld.EPH_MODE_ACT_SEALED = m.toNat))
    ∧ (s.latch.readHi = [] → s.tm.cycle < 16384 → Completes (.orbCountLoRead src) s (fun t =>
        t.latch.last = some (BitVec.ofNat 32 s.orbitN)
        ∧ t.latch.readHi.find? (fun e => e.1 == Reg.ORB_COUNT_HI) = some (Reg.ORB_COUNT_HI, BitVec.ofNat 32 (s.orbitN / 2 ^ 32))
        ∧ t.latch.readHi.find? (fun e => e.1 == Reg.ORB_POS) = some (Reg.ORB_POS, BitVec.ofNat 32 s.tm.cycle)))

/-! Scratch. -/

/-- Requests that a scratch bank serves (R113, R121–R125): a read returns the bytes asked for; a full write and a partial
write put their bytes into the word, which is encoded anew under the owner and epoch; an atomic returns the old value and
stores the sum modulo its width, or the new value. Other words keep their bytes. -/
def Obligations.ScratchRequests : Prop :=
  ∀ (s : State) (c : Fin 16) (port : ScrPort) (a : BitVec 24) (len : Fin 65) (d : Bytes) (wide : Bool) (x : DWord),
    s.Live → ScrServes s c port a.toNat →
    let w := a.toNat / 64
    let off := a.toNat % 64
    let old := s.scrData c w
    let n := if wide then 8 else 4
    let done (t : State) (op : ScrOp) (r new : Bytes) : Prop :=
      t.scr.cpl = [⟨⟨c, port, a.toNat, op⟩, .ok, r⟩]
      ∧ t.scrData c w = new ∧ t.scrCheck c w = lineCheck new (s.scrTag c).1 (s.scrTag c).2
      ∧ ∀ v, v ≠ w → t.scrData c v = s.scrData c v
    (d.length = 64 → Completes (.scrFullWrite c port a d) s (fun t => done t (.full d) [] d))
    ∧ (s.scrClean c w →
      Completes (.scrRead c port a len) s (fun t =>
        t.scr.cpl = [⟨⟨c, port, a.toNat, .read len⟩, .ok, slice old off len⟩] ∧ t.scr.cells = s.scr.cells)
      ∧ (off + d.length ≤ 64 → Completes (.scrPartialWrite c port a d) s (fun t =>
          done t (.part d) [] (old.take off ++ d ++ old.drop (off + d.length))))
      ∧ (a.toNat % n = 0 →
          Completes (.scrAtomicAdd c port wide a x) s (fun t =>
            done t (.add wide x) (le n (leAt old off n))
              (old.take off ++ le n ((leAt old off n + x.toNat) % 2 ^ (8 * n)) ++ old.drop (off + n)))
          ∧ Completes (.scrAtomicSwap c port wide a x) s (fun t =>
            done t (.swap wide x) (le n (leAt old off n))
              (old.take off ++ le n (x.toNat % 2 ^ (8 * n)) ++ old.drop (off + n)))))

/-- Writes of SCR_OWN (R115): a reserved code is discarded and sets BAD_OWNER; the code that the bank already holds has no
effect; any other code becomes the owner, with PENDING at 1 until the handover completes. -/
def Obligations.ScratchOwnership : Prop :=
  ∀ (s : State) (w : ClWriter) (c : Fin 16) (b : Fin 24) (v : Word), s.Live →
    s.flag (Reg.SCR_OWN c b) Fld.SCR_OWN_PENDING = false →
    let code := v.toNat % 16
    (6 ≤ code → Leaves (.scrOwnWrite w c b v) s (s.setFld (Reg.SCR_STATUS c) Fld.SCR_STATUS_BAD_OWNER 1))
    ∧ (code = s.fld (Reg.SCR_OWN c b) Fld.SCR_OWN_OWNER → code < 6 → Leaves (.scrOwnWrite w c b v) s s)
    ∧ (code ≠ s.fld (Reg.SCR_OWN c b) Fld.SCR_OWN_OWNER → code < 6 →
        Completes (.scrOwnWrite w c b v) s (fun t =>
          t.fld (Reg.SCR_OWN c b) Fld.SCR_OWN_OWNER = code
          ∧ t.flag (Reg.SCR_OWN c b) Fld.SCR_OWN_PENDING = true
          ∧ ∀ k, k ≠ Reg.SCR_OWN c b → t.reg k = s.reg k))

/-- The rest of scratch (R116, R117, R119, R128): while a handover is pending a further write of SCR_OWN is discarded and sets
OWN_COLLIDE; its completion clears PENDING and serves the waiting requests; SCR_INIT_CMD starts the initialisation of each
cluster named, which sets INIT_BUSY; its end leaves every word of the cluster zero and clears INIT_BUSY; a write-back with no
corrected word waiting changes nothing, and one of a waiting word takes it off the list. -/
def Obligations.ScratchControl : Prop :=
  ∀ (s : State) (src : Src) (w : ClWriter) (c : Fin 16) (b : Fin 24) (v : Word), s.Live →
    (s.flag (Reg.SCR_OWN c b) Fld.SCR_OWN_PENDING = true →
      Leaves (.scrOwnWrite w c b v) s (s.setFld (Reg.SCR_STATUS c) Fld.SCR_STATUS_OWN_COLLIDE 1)
      ∧ (Tab.get (fun _ => []) s.scr.waiting (bankKey c b) = [] →
        Completes (.scrHandoverComplete c b) s (fun t =>
          t.flag (Reg.SCR_OWN c b) Fld.SCR_OWN_PENDING = false
          ∧ t.fld (Reg.SCR_OWN c b) Fld.SCR_OWN_OWNER = s.fld (Reg.SCR_OWN c b) Fld.SCR_OWN_OWNER
          ∧ ∀ k, k ≠ Reg.SCR_OWN c b → t.reg k = s.reg k)))
    ∧ (v = BitVec.ofNat 32 (2 ^ c.val) → Completes (.scrInitCmd src v) s (fun t =>
        t.scr.initBusy.contains c.val = true ∧ t.flag (Reg.SCR_STATUS c) Fld.SCR_STATUS_INIT_BUSY = true
        ∧ t.scr.cells = s.scr.cells))
    ∧ (s.scr.initBusy.contains c.val = true → s.pt.eclHalted = [] → Completes (.scratchInitDone c) s (fun t =>
        t.scr.initBusy.contains c.val = false ∧ t.flag (Reg.SCR_STATUS c) Fld.SCR_STATUS_INIT_BUSY = false
        ∧ ∀ u, u < 2 ^ 18 → t.scrData c u = zeros 64))
    ∧ (s.scr.corrected = [] → Leaves (.scrCorrectionWriteback c b) s s)
    ∧ (∀ u, u / 8192 = b.val → u < 2 ^ 18 → s.scr.corrected = [scrWordKey c u] → s.scrClean c u →
        Leaves (.scrCorrectionWriteback c b) s { s with scr := { s.scr with corrected := [] } })

/-! The memory fabric. -/

/-- Requests that name no line (R77): a line request to a device physical address whose bits [47:42] are not zero, whose channel
is above 279 or is a spare not in service completes OUT_OF_RANGE, and one to another address with k = 15 completes
CHECK_LINE_ADDRESS; nothing is read or written. -/
def Obligations.RefusedAddresses : Prop :=
  ∀ (s : State) (port : Port) (o e : Byte) (a : BitVec 48) (d : Bytes) (xs : List (Fin 68 × Byte)), s.Live →
    let rq : LineReq := ⟨port, .dpa o e a⟩
    let ch := a.toNat / 2 ^ 33 % 2 ^ 9
    let bad : Prop := a.toNat / 2 ^ 42 ≠ 0 ∨ 279 < ch ∨
      (264 ≤ ch ∧ s.flag (Reg.MF_SPARE_MAP (ch - 264)) Fld.MF_SPARE_MAP_VALID = false)
    let ends (i : Instr) (st : MemStatus) : Prop := Leaves i s { s with fab := { s.fab with cpl := some ⟨rq, st, []⟩ } }
    let all (st : MemStatus) : Prop :=
      ends (.memLineRead rq xs) st
      ∧ (d.length = 64 → a.toNat % 64 = 0 → ends (.memLineWrite rq d) st)
      ∧ (0 < d.length → d.length < 64 → a.toNat % 64 + d.length ≤ 64 → ends (.memPartialWrite rq d) st)
    (bad → all .outOfRange) ∧ (¬ bad → a.toNat / 64 % 16 = 15 → all .checkLineAddress)

/-- Line requests (R74, R90–R93) to a line of a channel that is in use: a full write leaves the line decoding OK to its data
under the writer's owner and epoch, where the group's check line is not uncorrectable; a read of a line that decodes OK
completes OK with its data; a partial write of such a line leaves it decoding OK to the merged data. A request finds a free
entry of its package's tracker, or waits. -/
def Obligations.LineRequests : Prop :=
  ∀ (s : State) (port : Port) (o e : Byte) (a : BitVec 48), s.Live →
    let rq : LineReq := ⟨port, .dpa o e a⟩
    let p := placeOf a.toNat
    let pkg := s.chanPkg p.ch
    let t0 := s.track pkg
    let off := a.toNat % 64
    s.dpaStatus a.toNat = none →
    (s.chanBusy p.ch = false → p.ch ∉ s.fab.dead → t0.inflight.length < trackCap pkg →
      (∀ d : Bytes, d.length = 64 → off = 0 → (checkDecode (s.fab.checkLine p.ch p.r) o e).1 ≠ .bad →
        Completes (.memLineWrite rq d) s (fun t => t.fab.cpl = some ⟨rq, .ok, []⟩ ∧ t.fab.decode p o e = (.ok, d)))
      ∧ (∀ d : Bytes, s.fab.decode p o e = (.ok, d) → s.isRetired p.dpa = false →
        Completes (.memLineRead rq []) s (fun t =>
          t.fab.cpl = some ⟨rq, .ok, d⟩ ∧ t.fab.cells = s.fab.cells ∧ t.rf = s.rf)
        ∧ ∀ b : Bytes, 0 < b.length → b.length < 64 → off + b.length ≤ 64 →
          Completes (.memPartialWrite rq b) s (fun t =>
            t.fab.cpl = some ⟨rq, .ok, []⟩
            ∧ t.fab.decode p o e = (.ok, d.take off ++ b ++ d.drop (off + b.length)))))
    ∧ (t0.inflight.length < trackCap pkg → Completes (.lineRequestAdmit rq) s (fun t =>
        (t.track pkg).inflight = t0.inflight ++ [rq] ∧ t.fab.cells = s.fab.cells))
    ∧ (trackCap pkg ≤ t0.inflight.length → rq ∉ t0.stalled → Completes (.lineRequestAdmit rq) s (fun t =>
        t.track pkg = { t0 with stalled := t0.stalled ++ [rq] }))

/-- The hash key and initialisation (R80, R107): a key word is taken while MAP_LOCKED reads 0 and discarded while it reads 1;
MF_INIT_CMD puts the named partition's packages under initialisation; at its end every data line of the package's channels
decodes OK to zeros under the partition and its epoch. -/
def Obligations.KeysAndInitialisation : Prop :=
  ∀ (s : State) (src : Src) (n : Fin 4) (v : Word) (p : Fin 16) (k : Fin 32), s.Live →
    (s.flag Reg.MF_STATUS Fld.MF_STATUS_MAP_LOCKED = true → Leaves (.mfHashKeyWrite src n v) s s)
    ∧ (s.flag Reg.MF_STATUS Fld.MF_STATUS_MAP_LOCKED = false → Leaves (.mfHashKeyWrite src n v) s
        (({ s with fab := { s.fab with keyWritten := true } }).setReg (Reg.MF_HASH_KEY n) v))
    ∧ (s.pkgsOf p ≠ [] → Completes (.mfInitCmd src (BitVec.ofNat 32 (2 ^ p.val))) s (fun t =>
        t.flag Reg.MF_STATUS Fld.MF_STATUS_INIT_BUSY = true ∧ ∀ j ∈ s.pkgsOf p, (j, p.val) ∈ t.fab.initBusy))
    ∧ (s.fab.initBusy.find? (fun e => e.1 == k.val) = some (k.val, p.val) → Completes (.packageInitDone k) s (fun t =>
        (∀ e ∈ t.fab.initBusy, e.1 ≠ k.val)
        ∧ ∀ i r j, i < 8 → r < 2 ^ 23 → j < 15 →
          t.fab.decode ⟨s.physChan (8 * k.val + i), r, j⟩ (byte p) (byte (s.epoch p)) = (.ok, zeros 64)))

/-- The remapper, the scrubber and spare service (R83–R85, R98, R103–R105): a hot channel's swap is entered in the remap table;
each pair of groups is exchanged; a scrub that is due moves on to the channel's next group; spare service of a channel starts
its copy, two groups a page, and at its end MF_SPARE_MAP names the channel. -/
def Obligations.FabricUpkeep : Prop :=
  ∀ (s : State) (src : Src) (p : Fin 16) (c : Fin 256) (ch : Fin 280), s.Live →
    let chs := s.physOf p
    let l := s.remapOf (.part p)
    let hot := s.chan (chs.getD c 0)
    (s.flag Reg.MF_CTRL Fld.MF_CTRL_REMAP_EN = false → Leaves (.remapSwapStart p c) s s)
    ∧ (∀ f d, s.flag Reg.MF_CTRL Fld.MF_CTRL_REMAP_EN = true → c.val < chs.length → 64 ≤ hot.hotRun → chanSwapping l c = false →
        (l.filter RemapEntry.inFlight).length < 4 → l.length < 256 →
        hottest (hot.frames.filter (fun e => !frameRecent l s.orbitN c e.1)) = some f → s.targetChan p c = some d →
        Completes (.remapSwapStart p c) s (fun t =>
          ∃ g, t.remapOf (.part p) = l ++ [⟨c, f, d, g, 0, false, s.orbitN, s.orbitN⟩]))
    ∧ (∀ e, l = [e] → e.undoing = false → e.moved < 2048 →
        let at_ (q f : Nat) : Nat := (⟨chs.getD q 0, f * 2048 + e.moved, 0⟩ : Place).dpa
        Completes (.swapGroupCopy p 0) s (fun t =>
          t.remapOf (.part p) = [{ e with moved := e.moved + 1 }]
          ∧ t.fab.bytes (at_ e.cA e.fA) 1024 = s.fab.bytes (at_ e.cB e.fB) 1024
          ∧ t.fab.bytes (at_ e.cB e.fB) 1024 = s.fab.bytes (at_ e.cA e.fA) 1024))
    ∧ (s.flag Reg.MF_CTRL Fld.MF_CTRL_SCRUB_EN = false → Leaves (.scrubGroup ch) s s)
    ∧ (s.flag Reg.MF_CTRL Fld.MF_CTRL_SCRUB_EN = true → s.scrubbable ch = true →
        (s.chan ch).scrubLast + max 1 (s.fld Reg.MF_CTRL Fld.MF_CTRL_SCRUB_PACE) ≤ s.orbitN →
        Completes (.scrubGroup ch) s (fun t =>
          (t.chan ch).scrubPos = ((s.chan ch).scrubPos + 1) % 2 ^ 23 ∧ (t.chan ch).scrubLast = s.orbitN))
    ∧ (∀ v : Word, v.getLsbD 31 = false ∨ s.sparable (v.toNat % 512) = false → Leaves (.mfSpareCmd src v) s s)
    ∧ (∀ (v : Word) (i : Nat), v.getLsbD 31 = true → s.sparable (v.toNat % 512) = true → s.fab.spareCopy = none →
        s.fab.spareReq = [] → s.freeSpare = some i → Completes (.mfSpareCmd src v) s (fun t =>
          t.fab.spareCopy = some ⟨v.toNat % 512, 264 + i, 0, false⟩ ∧ t.flag Reg.MF_STATUS Fld.MF_STATUS_SPARE_BUSY = true))
    ∧ (∀ k, s.fab.spareCopy = some k → k.ended = false → s.chanOwner k.src = none → s.fab.retired = [] →
        Completes .spareCopyPage s (fun t =>
          t.fab.spareCopy = some { k with pos := k.pos + 2, ended := decide (2 ^ 23 ≤ k.pos + 2) }
          ∧ t.fab.bytes ((⟨k.dst, k.pos, 0⟩ : Place).dpa) 1024 = s.fab.bytes ((⟨k.src, k.pos, 0⟩ : Place).dpa) 1024))
    ∧ (∀ k, s.fab.spareCopy = some k → k.ended = true → k.src < 264 → 264 ≤ k.dst → k.dst < 280 → s.fab.spareReq = [] →
        Completes .spareSwitch s (fun t =>
          t.fab.spareCopy = none ∧ t.flag (Reg.MF_SPARE_MAP (k.dst - 264)) Fld.MF_SPARE_MAP_VALID = true
          ∧ t.fld (Reg.MF_SPARE_MAP (k.dst - 264)) Fld.MF_SPARE_MAP_REPLACED = k.src))

/-! The matrix engines and their Trowels. -/

/-- Command queues (R140, R141, R145, R164, R165): 64 bytes from DMA become the newest descriptor of a queue with room; a full
queue discards them and sets CMDQ_OVERFLOW; other lengths are discarded and set CMD_PARTIAL; CPL_POP removes the oldest
record; a flush completes every queued command with FLUSHED where the completion FIFO has room; a rejected head that waited
for an entry completes when one is free. -/
def Obligations.EngineQueues : Prop :=
  ∀ (s : State) (e : Fin 64) (w : ClWriter) (b : Bytes), s.Live →
    let g := s.engine e
    let k := Reg.ENG_STATUS (e.val / 4) (e.val % 4)
    (b.length = 64 → g.queue.length < 32 → Completes (.engEnqueue e (.dma b)) s (fun t =>
        t.engine e = { g with queue := g.queue ++ [wordsOf b], headAt := if g.queue.isEmpty then s.now else g.headAt }))
    ∧ (b.length = 64 → 32 ≤ g.queue.length →
        Leaves (.engEnqueue e (.dma b)) s (s.setFld k Fld.ENG_STATUS_CMDQ_OVERFLOW 1))
    ∧ (b.length ≠ 64 → Leaves (.engEnqueue e (.dma b)) s (s.setFld k Fld.ENG_STATUS_CMD_PARTIAL 1))
    ∧ Completes (.engCplPop w e) s (fun t => t.engine e = { g with cpl := g.cpl.tail })
    ∧ (g.queue.length ≤ 32 → g.cpl.length + g.reserved + g.queue.length ≤ 64 → Completes (.engFlush w e) s (fun t =>
        (t.engine e).queue = []
        ∧ ∃ rs, rs.length = g.queue.length ∧ (t.engine e).cpl = g.cpl ++ rs ∧ ∀ r ∈ rs, dw r 0 % 256 = 0x0A))
    ∧ (∀ d rest st det, g.queue = d :: rest → g.deferred = some (st, det) → g.flushing = 0 → g.fifoFree = true → st % 256 ≠ 0 →
        Completes (.engHeadCompleteDeferred e) s (fun t =>
          (t.engine e).queue = rest ∧ (t.engine e).deferred = none
          ∧ ∃ r, (t.engine e).cpl = g.cpl ++ [r] ∧ dw r 0 % 256 = st % 256))

/-- A write to a completion counter (R144): the counter takes the written value, and that value plus 1 where a completion
increment reaches it in the same cycle. -/
def Obligations.CompletionCounterWrites : Prop :=
  ∀ (s : State) (w : ClWriter) (e : Fin 64) (i : Fin 16) (v : Word), s.Live →
    let k := Reg.ENG_CC (e.val / 4) (e.val % 4) i
    Leaves (.engCcWrite w e i v false) s (s.setReg k v) ∧ Leaves (.engCcWrite w e i v true) s (s.setReg k (v + 1))

/-- Starts of commands (R136, R145, R147–R149): the head of an idle engine's queue, untimed and with no wait, whose descriptor
passes every check, whose regions the engine owns, and whose bank is not invalid where it reads it, starts in this cycle: it
runs, the next command is the head, and a completion entry is reserved. -/
def Obligations.EngineStarts : Prop :=
  ∀ (s : State) (e : Fin 64) (d : List Word) (rest : List (List Word)),
    let g := s.engine e
    g.queue = d :: rest → s.engineRuns e = true → g.run = none → g.drain = none → g.deferred = none → g.flushing = 0 →
    s.flag (Reg.ENG_STATUS (e.val / 4) (e.val % 4)) Fld.ENG_STATUS_ENABLED = true → descFail d = none → dTimed d = false →
    dWaitEn d = false → g.fifoFree = true → s.unowned e d = none →
    let starts (i : Instr) : Prop := Completes i s (fun t =>
      let u := t.engine e
      (∃ r, u.run = some r ∧ r.desc = d ∧ r.start = s.now) ∧ u.queue = rest ∧ u.reserved = g.reserved + 1 ∧ u.cpl = g.cpl)
    (dOp d = 0 → starts (.engNop e))
    ∧ (dOp d = 1 → (dInit d = true ∨ g.bank (dBank d) ≠ .invalid) → starts (.engMma e))
    ∧ (dOp d = 2 → g.bank (dBank d) ≠ .invalid → starts (.engDrain e))
    ∧ (dOp d = 3 → starts (.engClear e))
    ∧ (dOp d = 4 → starts (.engSeed e))

/-- Ends of commands (R143, R147, R162, R173, R191): a NOP, CLEAR, SEED or MMA that runs completes: the engine is idle, its reserved
entry is released, its completion counter advances; CLEAR leaves the bank VALID and zero, SEED loads the register with its
operand, or with 1 for 0, and an MMA of scratch operands without a drain leaves the bank VALID with the sums of its operands. -/
def Obligations.EngineCompletes : Prop :=
  ∀ (s : State) (e : Fin 64) (r : EngRun), s.Live →
    let g := s.engine e
    let d := r.desc
    g.run = some r → g.drain = none →
    let k := Reg.ENG_CC (e.val / 4) (e.val % 4) (dCc d)
    let ends (P : State → Prop) : Prop := Completes (.engCommandComplete e) s (fun t =>
      (t.engine e).run = none ∧ (t.engine e).reserved = g.reserved - 1 ∧ (t.engine e).queue = g.queue
      ∧ t.reg k = s.reg k + 1 ∧ P t)
    (dOp d = 0 → ends (fun t => (t.engine e).st0 = g.st0 ∧ (t.engine e).st1 = g.st1))
    ∧ (dOp d = 3 → ends (fun t => (t.engine e).bank (dBank d) = .valid ∧ ∀ n, (t.engine e).elem (dBank d) n = 0))
    ∧ (dOp d = 4 → ends (fun t =>
        let seed := dw d 2 + 2 ^ 32 * dw d 3
        t.lfsr e = BitVec.ofNat 64 (if seed = 0 then 1 else seed)))
    ∧ (∀ u x, dOp d = 1 → dTrowel d = false → dDrainAfter d = false → s.handoverWait e d = false →
        s.mmaOperands e d [] = (u, .ok, x) → ends (fun t =>
          (t.engine e).bank (dBank d) = .valid ∧ (t.engine e).acc (dBank d) = mmaResult (u.engine e) d x))

/-- The Trowel (R153, R206, R208–R211): a stream's fetch starts for the head whose wait is met, from its table set's active copy; a line
that the fetch wants is read from the owner's memory and taken; a block whose bytes have arrived is decoded; a commit of a
valid shadow makes it the active copy and sets VALID, and one of a shadow that is not valid sets REJECTED and leaves the active
copy. -/
def Obligations.TrowelStreams : Prop :=
  ∀ (s : State) (e : Fin 64) (w : ClWriter) (c t0 : Fin 16) (v : Word), s.Live →
    let g := s.engine e
    let k := Reg.TRW_TCTL c t0
    (∀ d rest, g.run = none → g.fetch = none → g.queue = d :: rest → dOp d = 1 → dTrowel d = true → descFail d = none →
        s.engWaitMet e d = true → Completes (.trowelFetchStart e) s (fun t =>
          ∃ f, (t.engine e).fetch = some f ∧ f.pra = dBPra d ∧ f.need = dK d / 32 ∧ f.received = 0 ∧ f.began = s.now))
    ∧ (∀ f p u st b, g.run = none → g.fetch = some f → f.wantsLine = true → s.clOwner (e.val / 4) = some p →
        s.readLine (.part p) (f.pra + 64 * f.received) = (u, st, b) → st.good = true →
        Completes (.trowelLineReturn e) s (fun t => t.engine e = { g with fetch := some (f.take b) }))
    ∧ (∀ f, g.run = none → g.fetch = some f →
        Completes (.trowelBlockDecode e) s (fun t => t.engine e = { g with fetch := some f.decode.1 }))
    ∧ (v.getLsbD 1 = true → tableValid (s.trwShadow c t0).lens = true → Completes (.trwTableCommit w c t0 v) s (fun t =>
        Tab.get (fun _ => none) t.trw (16 * c + t0) = some (s.trwShadow c t0)
        ∧ t.flag k Fld.TRW_TCTL_VALID = true ∧ t.flag k Fld.TRW_TCTL_REJECTED = false))
    ∧ (v.getLsbD 1 = true → tableValid (s.trwShadow c t0).lens = false → Completes (.trwTableCommit w c t0 v) s (fun t =>
        t.trw = s.trw ∧ t.flag k Fld.TRW_TCTL_REJECTED = true))

/-! The Tether ports and the pair link. -/

/-- Training and loss (R339, R342, R344, R382): from DOWN an enabled port trains once the boot has reached LINKS, then checks
flits, then PARAM and TIME; a port that is not UP in time, and a port that is UP and loses its link, goes DOWN with LINK_DOWN and
keeps nothing that it received; a port that is not UP has nothing to lose. An ECLIPSE that stays sets ECLIPSE_LONG. A port that
switches serves the owner that the active map names. -/
def Obligations.PortStates : Prop :=
  ∀ (s : State) (src : Src) (n : Fin 9) (m : Fin 8), s.Live →
    let st := s.portState n
    let down (i : Instr) : Prop := Completes i s (fun t =>
      t.portState n = 0 ∧ t.flag (Reg.TL_EVENT n) Fld.TL_EVENT_LINK_DOWN = true
      ∧ (t.port n).rxq = [] ∧ (t.port n).stream = [] ∧ (t.port n).replay = [] ∧ (t.port n).txq = []
      ∧ ∀ r ∈ (t.port n).req, r.status ≠ none)
    (st = 0 → 7 ≤ s.fld Reg.BOOT_STAGE Fld.BOOT_STAGE_STAGE → s.pwr.seq = false →
        s.flag (Reg.TL_CTRL n) Fld.TL_CTRL_ENABLE = true → Completes (.signalDetect n) s (fun t => t.portState n = 1))
    ∧ (st = 1 → Completes (.phyTrainDone n) s (fun t => t.portState n = 2 ∧ (t.port n).good = 0))
    ∧ (0 < st → st < 5 → down (.trainTimeout n))
    ∧ (st = 5 → down (.lossOfLock n) ∧ down (.noGoodFlitTimeout n) ∧ down (.tlRetrain src n))
    ∧ (st ≠ 5 → Leaves (.lossOfLock n) s s ∧ Leaves (.noGoodFlitTimeout n) s s ∧ Leaves (.tlRetrain src n) s s)
    ∧ (s.flag (Reg.TL_STATUS n) Fld.TL_STATUS_PEER_ECLIPSE = true →
        Leaves (.eclipseLongTimeout n) s (s.setFld (Reg.TL_EVENT n) Fld.TL_EVENT_ECLIPSE_LONG 1))
    ∧ (s.portSwitching m = true →
        Leaves (.tetherOwnerSwitch m) s (s.setFld (Reg.TL_STATUS m) Fld.TL_STATUS_OWNER (s.mapEntry (48 + m.val))))

/-- Flits and control units (R323–R325, R332, R340, R341) of a port that is UP or exchanges parameters: a flit whose CRC fails is
discarded with one NAK until the sequence is restored; the PAYLOAD flit in sequence is accepted; a NAK or 2 µs without an advance
sends every unacknowledged flit again, and the sixteenth time in a row takes the link down; a valid PARAM is kept and another
one sets PROTOCOL; PARAM and TIME_REQ are sent; a TIME_RSP gives the offset and delay of its exchange. -/
def Obligations.FlitsAndControl : Prop :=
  ∀ (s : State) (n : Fin 8) (f : Flit) (u : Bytes) (a : BitVec 12), s.Live →
    let st := s.portState n
    let p := s.port n
    let nine : Fin 9 := ⟨n.val, Nat.lt_succ_of_lt n.isLt⟩
    let sends (t : State) (k : Nat) : Prop := ∃ bs : List Bytes, bs.length = k ∧ t.out = s.out ++ bs.map (fun b => .flit n b)
    let again (i : Instr) : Prop :=
      st = 5 → p.replay ≠ [] →
      (p.resends < 15 → Completes i s (fun t => t.port n = { p with resends := p.resends + 1 } ∧ sends t p.replay.length))
      ∧ (15 ≤ p.resends → Completes i s (fun t =>
          t.portState n = 0 ∧ t.flag (Reg.TL_EVENT n) Fld.TL_EVENT_RETRY_EXHAUSTED = true))
    (st = 5 → f.crcOk = false → p.naked = false → Completes (.flitReceive nine f) s (fun t =>
        t.port n = { p with naked := true } ∧ sends t 1))
    ∧ (st = 5 → f.crcOk = false → p.naked = true → Completes (.flitReceive nine f) s (fun t => (t.port n).rxAck = p.rxAck ∧ sends t 0))
    ∧ (st = 5 → f.crcOk = true → f.ftype = 1 → f.seq.toNat = (p.rxAck + 1) % 4096 → p.stream = [] →
        f.units = List.replicate 15 (zeros 16) → Completes (.flitReceive nine f) s (fun t =>
          (t.port n).rxAck = f.seq.toNat ∧ (t.port n).naked = false ∧ sends t 0))
    ∧ again (.retryTimeout nine)
    ∧ ((∀ e ∈ p.replay, e.1 ≠ a.toNat) → again (.nakReceive nine a))
    ∧ (st = 3 → byteAt u 1 = 1 → byteAt u 2 = 1 → 257 ≤ leAt u 4 2 → leAt u 4 2 ≤ 2048 → leAt u 6 2 ≤ 2048 → 65 ≤ leAt u 8 2 →
        leAt u 8 2 ≤ 2048 → Completes (.param nine u) s (fun t =>
          (t.port n).adv = [leAt u 4 2, leAt u 6 2, leAt u 8 2] ∧ (t.port n).paramSeen = true))
    ∧ (st = 3 → byteAt u 1 ≠ 1 ∨ byteAt u 2 ≠ 1 ∨ leAt u 4 2 < 257 ∨ leAt u 8 2 < 65 →
        Leaves (.param nine u) s (s.setFld (Reg.TL_EVENT n) Fld.TL_EVENT_PROTOCOL 1))
    ∧ (st = 3 → Completes (.paramSendTimer nine) s (fun t => sends t 1))
    ∧ (st = 4 ∨ st = 5 → Completes (.timeReq nine) s (fun t =>
        (t.port n).exch = some ((p.exchNo + 1) % 256, s.devNs) ∧ (t.port n).exchNo = (p.exchNo + 1) % 256 ∧ sends t 1))
    ∧ (∀ no t1, st = 5 → p.exch = some (no, t1) → byteAt u 1 = no → p.kept = [] →
        let t2 := leAt u 2 8
        let t3 := t2 / 2 ^ 48 * 2 ^ 48 + leAt u 10 6 + (if leAt u 10 6 < t2 % 2 ^ 48 then 2 ^ 48 else 0)
        let d1 : Int := Int.ofNat t2 - Int.ofNat t1
        let d2 : Int := Int.ofNat s.devNs - Int.ofNat t3
        let asym : Int := sext 16 (s.fld (Reg.TL_ASYM n) Fld.TL_ASYM_NS)
        Completes (.timeRsp nine u) s (fun t =>
          (t.port n).exch = none
          ∧ t.reg64 (Reg.TL_TIME_OFFSET_LO n) (Reg.TL_TIME_OFFSET_HI n)
              = trunc 64 (Int.fdiv (d1 - d2) 2 - Int.fdiv asym 2)
          ∧ t.fld (Reg.TL_DELAY n) Fld.TL_DELAY_NS = trunc 16 (Int.fdiv (d1 + d2) 2)))

/-- Messages of a Tether port (R327–R330, R333–R337): one that arrives with credit on a port that is UP, holds nothing back and has nothing
waiting is acted on at once. A READ of one line that reads well is answered with its data and LAST; a port that nobody owns
answers a READ and an acknowledged WRITE or WRITE_MASKED with UNOWNED and counts every request; an acknowledged WRITE or
WRITE_MASKED to the owner's memory is answered with a WRITE_ACK; a DOORBELL writes the word of a prep core of the owner's; a STEP_MARK
gives the checkpoint its count; data and acknowledgements end the sled's own requests. -/
def Obligations.TetherMessages : Prop :=
  ∀ (s : State) (n : Fin 8) (m : MsgHdr) (mask : BitVec 64) (d : Bytes), s.Live →
    let p := s.port n
    let k (c u : Nat) : Prop := p.rxUnits.getD c 0 + u ≤ p.freed.getD c 0 + (if c = 1 then 512 else 2048)
    s.portUp n = true → s.portHeld n = false → s.portSwitching n = false → p.rxq = [] →
    let ack (c : Nat) : TlTx := ⟨{ blankHdr mAck with tag := m.tag, status := BitVec.ofNat 8 c }, 0, [], false⟩
    let chunk (c : Nat) (b : Bytes) : TlTx := readChunk m c 0 1 true b
    let adds (i : Instr) (x : TlTx) : Prop := Completes i s (fun t => (t.port n).txq = p.txq ++ [x] ∧ (t.port n).rxq = [])
    (m.mtype = 1 → m.len = 1 → k 1 1 →
      (s.portServes n = none → adds (.tetherRead n m) (chunk 0x10 []))
      ∧ (∀ o u st b, s.portServes n = some o → s.tlRefuse o 1 m false = none → s.readLine (.part o) m.arg.toNat = (u, st, b) →
          st.good = true → s.recording o = false → adds (.tetherRead n m) (chunk st.code b)))
    ∧ (m.mtype = 2 → m.len = 1 → d.length = 64 → m.ackReq = true → k 0 5 →
      (s.portServes n = none → adds (.tetherWrite n m d) (ack 0x10))
      ∧ (∀ o, s.portServes n = some o → s.tlRefuse o 1 m false = none → Completes (.tetherWrite n m d) s (fun t =>
          ∃ c, (t.port n).txq = p.txq ++ [ack c])))
    ∧ (m.mtype = 3 → m.len = 1 → d.length = 64 → m.ackReq = true → k 0 6 →
      (s.portServes n = none → adds (.writeMasked n m mask d) (ack 0x10))
      ∧ (∀ o, s.portServes n = some o → s.tlRefuse o 1 m false = none → Completes (.writeMasked n m mask d) s (fun t =>
          ∃ c, (t.port n).txq = p.txq ++ [ack c])))
    ∧ (∀ o, m.mtype = 4 → k 0 1 → s.portServes n = some o → s.isStandby o = false → s.replaying o = false →
        s.clOwner (m.arg.toNat / 2 ^ 8 % 32 / 2) = some o → Completes (.doorbell n m) s (fun t =>
          let x := m.arg.toNat / 2 ^ 8 % 32
          t.reg (Reg.PX_DBELL (pxc x) (pxi x) (m.arg.toNat % 8)) = BitVec.ofNat 32 (m.arg.toNat / 2 ^ 32)))
    ∧ (∀ o, m.mtype = 5 → k 0 1 → s.portServes n = some o → s.isStandby o = false → s.replaying o = false →
        s.flag (Reg.CK_CTRL o) Fld.CK_CTRL_EN = false → Completes (.stepMark n m) s (fun t =>
          Tab.get (fun _ => 0) (t.ckpt o).steps n = m.arg.toNat))
    ∧ (∀ r, m.mtype = 8 → m.status = 0 → m.len = 1 → m.last = true → k 2 5 → p.req = [r] → r.tag = m.tag.toNat → r.write = false →
        r.status = none → Completes (.readData n m d) s (fun t =>
          (t.port n).req = [{ r with got := r.got ++ [(m.offset.toNat * 64, d)], status := some 0 }]))
    ∧ (∀ r, m.mtype = 9 → k 2 1 → p.req = [r] → r.tag = m.tag.toNat → r.write = true → r.status = none →
        Completes (.writeAck ⟨n.val, Nat.lt_succ_of_lt n.isLt⟩ m) s (fun t =>
          (t.port n).req = [{ r with status := some m.status.toNat }]))
end

