-- ==== Sys2Proof/Laws/Tab.lean ====
section
/-! SUPPORT. What the operations of a sparse table do: reading after writing, and the canonical form that every one of
them keeps. -/

namespace Sys2Proof.Machine

variable {α : Type}

@[simp] theorem Tab.get_nil (d : Nat → α) (k : Nat) : Tab.get d [] k = d k := rfl

theorem Tab.get_filter_same (d : Nat → α) (t : List (Nat × α)) (k : Nat) :
    Tab.get d (t.filter (fun e => e.1 != k)) k = d k := by
  induction t with
  | nil => rfl
  | cons e t ih =>
    obtain ⟨j, x⟩ := e
    by_cases h : j = k <;> simp [h, Tab.get, ih]

@[simp] theorem Tab.get_erase_same (d : Nat → α) (t : List (Nat × α)) (k : Nat) :
    Tab.get d (Tab.erase t k) k = d k := Tab.get_filter_same d t k

theorem Tab.get_erase_ne (d : Nat → α) (t : List (Nat × α)) {k j : Nat} (h : j ≠ k) :
    Tab.get d (Tab.erase t k) j = Tab.get d t j := by
  induction t with
  | nil => rfl
  | cons e t ih =>
    obtain ⟨i, x⟩ := e
    simp only [Tab.erase] at ih ⊢
    by_cases hi : i = k
    · subst hi
      simp [Tab.get, ih, Ne.symm h]
    · rw [List.filter_cons_of_pos (by simpa using hi)]
      simp only [Tab.get, ih]

@[simp] theorem Tab.get_ins_same (d : Nat → α) (t : List (Nat × α)) (k : Nat) (v : α) :
    Tab.get d (Tab.ins t k v) k = v := by
  induction t with
  | nil => simp [Tab.ins, Tab.get]
  | cons e t ih =>
    obtain ⟨i, x⟩ := e
    simp only [Tab.ins]
    split
    · simp [Tab.get]
    · split
      · simp [Tab.get]
      · simp [Tab.get, *]

theorem Tab.get_ins_ne (d : Nat → α) (t : List (Nat × α)) {k j : Nat} (v : α) (h : j ≠ k) :
    Tab.get d (Tab.ins t k v) j = Tab.get d t j := by
  induction t with
  | nil => simp [Tab.ins, Tab.get, Ne.symm h]
  | cons e t ih =>
    obtain ⟨i, x⟩ := e
    simp only [Tab.ins]
    split
    · simp [Tab.get, Ne.symm h]
    · split
      · rename_i hk
        subst hk
        simp [Tab.get, Ne.symm h]
      · simp [Tab.get, ih]

variable [DecidableEq α]

@[simp] theorem Tab.get_set_same (d : Nat → α) (t : List (Nat × α)) (k : Nat) (v : α) :
    Tab.get d (Tab.set d t k v) k = v := by
  unfold Tab.set
  split
  · simp [*]
  · simp

theorem Tab.get_set_ne (d : Nat → α) (t : List (Nat × α)) {k j : Nat} (v : α) (h : j ≠ k) :
    Tab.get d (Tab.set d t k v) j = Tab.get d t j := by
  unfold Tab.set
  split
  · exact Tab.get_erase_ne d t h
  · exact Tab.get_ins_ne d t v h

theorem Tab.get_set (d : Nat → α) (t : List (Nat × α)) (k j : Nat) (v : α) :
    Tab.get d (Tab.set d t k v) j = if j = k then v else Tab.get d t j := by
  split
  · simp [*]
  · exact Tab.get_set_ne d t v (by assumption)

theorem Tab.wfFrom_mono (d : Nat → α) (t : List (Nat × α)) {a b : Nat} (h : a ≤ b) (w : Tab.wfFrom d b t = true) :
    Tab.wfFrom d a t = true := by
  cases t with
  | nil => rfl
  | cons e t =>
    obtain ⟨i, x⟩ := e
    simp only [Tab.wfFrom, Bool.and_eq_true, decide_eq_true_eq] at w ⊢
    exact ⟨⟨h.trans w.1.1, w.1.2⟩, w.2⟩

theorem Tab.wfFrom_filter (d : Nat → α) (p : Nat × α → Bool) (t : List (Nat × α)) (a : Nat)
    (w : Tab.wfFrom d a t = true) : Tab.wfFrom d a (t.filter p) = true := by
  induction t generalizing a with
  | nil => rfl
  | cons e t ih =>
    obtain ⟨i, x⟩ := e
    simp only [Tab.wfFrom, Bool.and_eq_true, decide_eq_true_eq] at w
    rw [List.filter_cons]
    split
    · simp only [Tab.wfFrom, Bool.and_eq_true, decide_eq_true_eq]
      exact ⟨w.1, ih _ w.2⟩
    · exact Tab.wfFrom_mono d _ (w.1.1.trans (Nat.le_succ i)) (ih _ w.2)

theorem Tab.wfFrom_ins (d : Nat → α) (t : List (Nat × α)) (a k : Nat) (v : α) (hv : v ≠ d k) (ha : a ≤ k)
    (w : Tab.wfFrom d a t = true) : Tab.wfFrom d a (Tab.ins t k v) = true := by
  induction t generalizing a with
  | nil => simp [Tab.ins, Tab.wfFrom, hv, ha]
  | cons e t ih =>
    obtain ⟨i, x⟩ := e
    simp only [Tab.wfFrom, Bool.and_eq_true, decide_eq_true_eq] at w
    simp only [Tab.ins]
    split
    · simp only [Tab.wfFrom, Bool.and_eq_true, decide_eq_true_eq]
      exact ⟨⟨ha, hv⟩, ⟨by omega, w.1.2⟩, w.2⟩
    · split
      · rename_i hk
        subst hk
        simp only [Tab.wfFrom, Bool.and_eq_true, decide_eq_true_eq]
        exact ⟨⟨ha, hv⟩, w.2⟩
      · simp only [Tab.wfFrom, Bool.and_eq_true, decide_eq_true_eq]
        exact ⟨w.1, ih _ (by omega) w.2⟩

/-- Erasing an entry keeps the canonical form. -/
theorem Tab.wf_erase (d : Nat → α) (t : List (Nat × α)) (k : Nat) (w : Tab.wf d t = true) :
    Tab.wf d (Tab.erase t k) = true := Tab.wfFrom_filter d _ t 0 w

/-- Dropping entries keeps the canonical form. -/
theorem Tab.wf_drop (d : Nat → α) (p : Nat → Bool) (t : List (Nat × α)) (w : Tab.wf d t = true) :
    Tab.wf d (Tab.drop p t) = true := Tab.wfFrom_filter d _ t 0 w

/-- A write keeps the canonical form. -/
theorem Tab.wf_set (d : Nat → α) (t : List (Nat × α)) (k : Nat) (v : α) (w : Tab.wf d t = true) :
    Tab.wf d (Tab.set d t k v) = true := by
  unfold Tab.set
  split
  · exact Tab.wf_erase d t k w
  · exact Tab.wfFrom_ins d t 0 k v (by assumption) (Nat.zero_le k) w

end Sys2Proof.Machine
end

