-- ==== Sys2Proof/Laws/State.lean ====
section
/-! SUPPORT. What the updates of the state leave as it is: one lemma a field and update, each true by definition, and how
registers and fields read after they are written. -/

namespace Sys2Proof.Machine

/-! Updates of the register file touch nothing else. -/

@[simp] theorem State.setReg_pending (s : State) (k : Nat) (v : Word) : (s.setReg k v).pending = s.pending := rfl
@[simp] theorem State.setReg_latch (s : State) (k : Nat) (v : Word) : (s.setReg k v).latch = s.latch := rfl
@[simp] theorem State.setReg_tm (s : State) (k : Nat) (v : Word) : (s.setReg k v).tm = s.tm := rfl
@[simp] theorem State.setReg_log (s : State) (k : Nat) (v : Word) : (s.setReg k v).log = s.log := rfl
@[simp] theorem State.setReg_dbg (s : State) (k : Nat) (v : Word) : (s.setReg k v).dbg = s.dbg := rfl
@[simp] theorem State.setReg_fab (s : State) (k : Nat) (v : Word) : (s.setReg k v).fab = s.fab := rfl
@[simp] theorem State.setReg_scr (s : State) (k : Nat) (v : Word) : (s.setReg k v).scr = s.scr := rfl
@[simp] theorem State.setReg_eng (s : State) (k : Nat) (v : Word) : (s.setReg k v).eng = s.eng := rfl
@[simp] theorem State.setReg_cores (s : State) (k : Nat) (v : Word) : (s.setReg k v).cores = s.cores := rfl
@[simp] theorem State.setReg_pt (s : State) (k : Nat) (v : Word) : (s.setReg k v).pt = s.pt := rfl
@[simp] theorem State.setReg_fw (s : State) (k : Nat) (v : Word) : (s.setReg k v).fw = s.fw := rfl
@[simp] theorem State.setReg_boot (s : State) (k : Nat) (v : Word) : (s.setReg k v).boot = s.boot := rfl
@[simp] theorem State.setReg_pwr (s : State) (k : Nat) (v : Word) : (s.setReg k v).pwr = s.pwr := rfl
@[simp] theorem State.setReg_ecl (s : State) (k : Nat) (v : Word) : (s.setReg k v).ecl = s.ecl := rfl
@[simp] theorem State.setReg_panel (s : State) (k : Nat) (v : Word) : (s.setReg k v).panel = s.panel := rfl
@[simp] theorem State.setReg_i3c (s : State) (k : Nat) (v : Word) : (s.setReg k v).i3c = s.i3c := rfl
@[simp] theorem State.setReg_cph (s : State) (k : Nat) (v : Word) : (s.setReg k v).cph = s.cph := rfl
@[simp] theorem State.setReg_ck (s : State) (k : Nat) (v : Word) : (s.setReg k v).ck = s.ck := rfl
@[simp] theorem State.setReg_pair (s : State) (k : Nat) (v : Word) : (s.setReg k v).pair = s.pair := rfl
@[simp] theorem State.setReg_host (s : State) (k : Nat) (v : Word) : (s.setReg k v).host = s.host := rfl
@[simp] theorem State.setReg_dma (s : State) (k : Nat) (v : Word) : (s.setReg k v).dma = s.dma := rfl
@[simp] theorem State.setReg_eth (s : State) (k : Nat) (v : Word) : (s.setReg k v).eth = s.eth := rfl
@[simp] theorem State.setReg_srmt (s : State) (k : Nat) (v : Word) : (s.setReg k v).srmt = s.srmt := rfl
@[simp] theorem State.setReg_stg (s : State) (k : Nat) (v : Word) : (s.setReg k v).stg = s.stg := rfl
@[simp] theorem State.setReg_ports (s : State) (k : Nat) (v : Word) : (s.setReg k v).ports = s.ports := rfl
@[simp] theorem State.setReg_out (s : State) (k : Nat) (v : Word) : (s.setReg k v).out = s.out := rfl
@[simp] theorem State.setReg_trw (s : State) (k : Nat) (v : Word) : (s.setReg k v).trw = s.trw := rfl
@[simp] theorem State.setReg_draws (s : State) (k : Nat) (v : Word) : (s.setReg k v).draws = s.draws := rfl

@[simp] theorem State.setFld_pending (s : State) (k : Nat) (f : Fld) (n : Nat) : (s.setFld k f n).pending = s.pending := rfl
@[simp] theorem State.setFld_latch (s : State) (k : Nat) (f : Fld) (n : Nat) : (s.setFld k f n).latch = s.latch := rfl
@[simp] theorem State.setFld_tm (s : State) (k : Nat) (f : Fld) (n : Nat) : (s.setFld k f n).tm = s.tm := rfl
@[simp] theorem State.setFld_log (s : State) (k : Nat) (f : Fld) (n : Nat) : (s.setFld k f n).log = s.log := rfl
@[simp] theorem State.setFld_dbg (s : State) (k : Nat) (f : Fld) (n : Nat) : (s.setFld k f n).dbg = s.dbg := rfl
@[simp] theorem State.setFld_fab (s : State) (k : Nat) (f : Fld) (n : Nat) : (s.setFld k f n).fab = s.fab := rfl
@[simp] theorem State.setFld_scr (s : State) (k : Nat) (f : Fld) (n : Nat) : (s.setFld k f n).scr = s.scr := rfl
@[simp] theorem State.setFld_eng (s : State) (k : Nat) (f : Fld) (n : Nat) : (s.setFld k f n).eng = s.eng := rfl
@[simp] theorem State.setFld_cores (s : State) (k : Nat) (f : Fld) (n : Nat) : (s.setFld k f n).cores = s.cores := rfl
@[simp] theorem State.setFld_pt (s : State) (k : Nat) (f : Fld) (n : Nat) : (s.setFld k f n).pt = s.pt := rfl
@[simp] theorem State.setFld_fw (s : State) (k : Nat) (f : Fld) (n : Nat) : (s.setFld k f n).fw = s.fw := rfl
@[simp] theorem State.setFld_boot (s : State) (k : Nat) (f : Fld) (n : Nat) : (s.setFld k f n).boot = s.boot := rfl
@[simp] theorem State.setFld_pwr (s : State) (k : Nat) (f : Fld) (n : Nat) : (s.setFld k f n).pwr = s.pwr := rfl
@[simp] theorem State.setFld_ecl (s : State) (k : Nat) (f : Fld) (n : Nat) : (s.setFld k f n).ecl = s.ecl := rfl
@[simp] theorem State.setFld_panel (s : State) (k : Nat) (f : Fld) (n : Nat) : (s.setFld k f n).panel = s.panel := rfl
@[simp] theorem State.setFld_i3c (s : State) (k : Nat) (f : Fld) (n : Nat) : (s.setFld k f n).i3c = s.i3c := rfl
@[simp] theorem State.setFld_cph (s : State) (k : Nat) (f : Fld) (n : Nat) : (s.setFld k f n).cph = s.cph := rfl
@[simp] theorem State.setFld_ck (s : State) (k : Nat) (f : Fld) (n : Nat) : (s.setFld k f n).ck = s.ck := rfl
@[simp] theorem State.setFld_pair (s : State) (k : Nat) (f : Fld) (n : Nat) : (s.setFld k f n).pair = s.pair := rfl
@[simp] theorem State.setFld_host (s : State) (k : Nat) (f : Fld) (n : Nat) : (s.setFld k f n).host = s.host := rfl
@[simp] theorem State.setFld_dma (s : State) (k : Nat) (f : Fld) (n : Nat) : (s.setFld k f n).dma = s.dma := rfl
@[simp] theorem State.setFld_eth (s : State) (k : Nat) (f : Fld) (n : Nat) : (s.setFld k f n).eth = s.eth := rfl
@[simp] theorem State.setFld_srmt (s : State) (k : Nat) (f : Fld) (n : Nat) : (s.setFld k f n).srmt = s.srmt := rfl
@[simp] theorem State.setFld_stg (s : State) (k : Nat) (f : Fld) (n : Nat) : (s.setFld k f n).stg = s.stg := rfl
@[simp] theorem State.setFld_ports (s : State) (k : Nat) (f : Fld) (n : Nat) : (s.setFld k f n).ports = s.ports := rfl
@[simp] theorem State.setFld_out (s : State) (k : Nat) (f : Fld) (n : Nat) : (s.setFld k f n).out = s.out := rfl
@[simp] theorem State.setFld_trw (s : State) (k : Nat) (f : Fld) (n : Nat) : (s.setFld k f n).trw = s.trw := rfl
@[simp] theorem State.setFld_draws (s : State) (k : Nat) (f : Fld) (n : Nat) : (s.setFld k f n).draws = s.draws := rfl

@[simp] theorem State.setBit_pending (s : State) (k : Nat) (f : Fld) (i : Nat) (b : Bool) : (s.setBit k f i b).pending = s.pending := rfl
@[simp] theorem State.setBit_latch (s : State) (k : Nat) (f : Fld) (i : Nat) (b : Bool) : (s.setBit k f i b).latch = s.latch := rfl
@[simp] theorem State.setBit_tm (s : State) (k : Nat) (f : Fld) (i : Nat) (b : Bool) : (s.setBit k f i b).tm = s.tm := rfl
@[simp] theorem State.setBit_log (s : State) (k : Nat) (f : Fld) (i : Nat) (b : Bool) : (s.setBit k f i b).log = s.log := rfl
@[simp] theorem State.setBit_dbg (s : State) (k : Nat) (f : Fld) (i : Nat) (b : Bool) : (s.setBit k f i b).dbg = s.dbg := rfl
@[simp] theorem State.setBit_fab (s : State) (k : Nat) (f : Fld) (i : Nat) (b : Bool) : (s.setBit k f i b).fab = s.fab := rfl
@[simp] theorem State.setBit_scr (s : State) (k : Nat) (f : Fld) (i : Nat) (b : Bool) : (s.setBit k f i b).scr = s.scr := rfl
@[simp] theorem State.setBit_eng (s : State) (k : Nat) (f : Fld) (i : Nat) (b : Bool) : (s.setBit k f i b).eng = s.eng := rfl
@[simp] theorem State.setBit_cores (s : State) (k : Nat) (f : Fld) (i : Nat) (b : Bool) : (s.setBit k f i b).cores = s.cores := rfl
@[simp] theorem State.setBit_pt (s : State) (k : Nat) (f : Fld) (i : Nat) (b : Bool) : (s.setBit k f i b).pt = s.pt := rfl
@[simp] theorem State.setBit_fw (s : State) (k : Nat) (f : Fld) (i : Nat) (b : Bool) : (s.setBit k f i b).fw = s.fw := rfl
@[simp] theorem State.setBit_boot (s : State) (k : Nat) (f : Fld) (i : Nat) (b : Bool) : (s.setBit k f i b).boot = s.boot := rfl
@[simp] theorem State.setBit_pwr (s : State) (k : Nat) (f : Fld) (i : Nat) (b : Bool) : (s.setBit k f i b).pwr = s.pwr := rfl
@[simp] theorem State.setBit_ecl (s : State) (k : Nat) (f : Fld) (i : Nat) (b : Bool) : (s.setBit k f i b).ecl = s.ecl := rfl
@[simp] theorem State.setBit_panel (s : State) (k : Nat) (f : Fld) (i : Nat) (b : Bool) : (s.setBit k f i b).panel = s.panel := rfl
@[simp] theorem State.setBit_i3c (s : State) (k : Nat) (f : Fld) (i : Nat) (b : Bool) : (s.setBit k f i b).i3c = s.i3c := rfl
@[simp] theorem State.setBit_cph (s : State) (k : Nat) (f : Fld) (i : Nat) (b : Bool) : (s.setBit k f i b).cph = s.cph := rfl
@[simp] theorem State.setBit_ck (s : State) (k : Nat) (f : Fld) (i : Nat) (b : Bool) : (s.setBit k f i b).ck = s.ck := rfl
@[simp] theorem State.setBit_pair (s : State) (k : Nat) (f : Fld) (i : Nat) (b : Bool) : (s.setBit k f i b).pair = s.pair := rfl
@[simp] theorem State.setBit_host (s : State) (k : Nat) (f : Fld) (i : Nat) (b : Bool) : (s.setBit k f i b).host = s.host := rfl
@[simp] theorem State.setBit_dma (s : State) (k : Nat) (f : Fld) (i : Nat) (b : Bool) : (s.setBit k f i b).dma = s.dma := rfl
@[simp] theorem State.setBit_eth (s : State) (k : Nat) (f : Fld) (i : Nat) (b : Bool) : (s.setBit k f i b).eth = s.eth := rfl
@[simp] theorem State.setBit_srmt (s : State) (k : Nat) (f : Fld) (i : Nat) (b : Bool) : (s.setBit k f i b).srmt = s.srmt := rfl
@[simp] theorem State.setBit_stg (s : State) (k : Nat) (f : Fld) (i : Nat) (b : Bool) : (s.setBit k f i b).stg = s.stg := rfl
@[simp] theorem State.setBit_ports (s : State) (k : Nat) (f : Fld) (i : Nat) (b : Bool) : (s.setBit k f i b).ports = s.ports := rfl
@[simp] theorem State.setBit_out (s : State) (k : Nat) (f : Fld) (i : Nat) (b : Bool) : (s.setBit k f i b).out = s.out := rfl
@[simp] theorem State.setBit_trw (s : State) (k : Nat) (f : Fld) (i : Nat) (b : Bool) : (s.setBit k f i b).trw = s.trw := rfl
@[simp] theorem State.setBit_draws (s : State) (k : Nat) (f : Fld) (i : Nat) (b : Bool) : (s.setBit k f i b).draws = s.draws := rfl

@[simp] theorem State.bumpBy_pending (s : State) (k : Nat) (f : Fld) (n : Nat) : (s.bumpBy k f n).pending = s.pending := rfl
@[simp] theorem State.bumpBy_latch (s : State) (k : Nat) (f : Fld) (n : Nat) : (s.bumpBy k f n).latch = s.latch := rfl
@[simp] theorem State.bumpBy_tm (s : State) (k : Nat) (f : Fld) (n : Nat) : (s.bumpBy k f n).tm = s.tm := rfl
@[simp] theorem State.bumpBy_log (s : State) (k : Nat) (f : Fld) (n : Nat) : (s.bumpBy k f n).log = s.log := rfl
@[simp] theorem State.bumpBy_dbg (s : State) (k : Nat) (f : Fld) (n : Nat) : (s.bumpBy k f n).dbg = s.dbg := rfl
@[simp] theorem State.bumpBy_fab (s : State) (k : Nat) (f : Fld) (n : Nat) : (s.bumpBy k f n).fab = s.fab := rfl
@[simp] theorem State.bumpBy_scr (s : State) (k : Nat) (f : Fld) (n : Nat) : (s.bumpBy k f n).scr = s.scr := rfl
@[simp] theorem State.bumpBy_eng (s : State) (k : Nat) (f : Fld) (n : Nat) : (s.bumpBy k f n).eng = s.eng := rfl
@[simp] theorem State.bumpBy_cores (s : State) (k : Nat) (f : Fld) (n : Nat) : (s.bumpBy k f n).cores = s.cores := rfl
@[simp] theorem State.bumpBy_pt (s : State) (k : Nat) (f : Fld) (n : Nat) : (s.bumpBy k f n).pt = s.pt := rfl
@[simp] theorem State.bumpBy_fw (s : State) (k : Nat) (f : Fld) (n : Nat) : (s.bumpBy k f n).fw = s.fw := rfl
@[simp] theorem State.bumpBy_boot (s : State) (k : Nat) (f : Fld) (n : Nat) : (s.bumpBy k f n).boot = s.boot := rfl
@[simp] theorem State.bumpBy_pwr (s : State) (k : Nat) (f : Fld) (n : Nat) : (s.bumpBy k f n).pwr = s.pwr := rfl
@[simp] theorem State.bumpBy_ecl (s : State) (k : Nat) (f : Fld) (n : Nat) : (s.bumpBy k f n).ecl = s.ecl := rfl
@[simp] theorem State.bumpBy_panel (s : State) (k : Nat) (f : Fld) (n : Nat) : (s.bumpBy k f n).panel = s.panel := rfl
@[simp] theorem State.bumpBy_i3c (s : State) (k : Nat) (f : Fld) (n : Nat) : (s.bumpBy k f n).i3c = s.i3c := rfl
@[simp] theorem State.bumpBy_cph (s : State) (k : Nat) (f : Fld) (n : Nat) : (s.bumpBy k f n).cph = s.cph := rfl
@[simp] theorem State.bumpBy_ck (s : State) (k : Nat) (f : Fld) (n : Nat) : (s.bumpBy k f n).ck = s.ck := rfl
@[simp] theorem State.bumpBy_pair (s : State) (k : Nat) (f : Fld) (n : Nat) : (s.bumpBy k f n).pair = s.pair := rfl
@[simp] theorem State.bumpBy_host (s : State) (k : Nat) (f : Fld) (n : Nat) : (s.bumpBy k f n).host = s.host := rfl
@[simp] theorem State.bumpBy_dma (s : State) (k : Nat) (f : Fld) (n : Nat) : (s.bumpBy k f n).dma = s.dma := rfl
@[simp] theorem State.bumpBy_eth (s : State) (k : Nat) (f : Fld) (n : Nat) : (s.bumpBy k f n).eth = s.eth := rfl
@[simp] theorem State.bumpBy_srmt (s : State) (k : Nat) (f : Fld) (n : Nat) : (s.bumpBy k f n).srmt = s.srmt := rfl
@[simp] theorem State.bumpBy_stg (s : State) (k : Nat) (f : Fld) (n : Nat) : (s.bumpBy k f n).stg = s.stg := rfl
@[simp] theorem State.bumpBy_ports (s : State) (k : Nat) (f : Fld) (n : Nat) : (s.bumpBy k f n).ports = s.ports := rfl
@[simp] theorem State.bumpBy_out (s : State) (k : Nat) (f : Fld) (n : Nat) : (s.bumpBy k f n).out = s.out := rfl
@[simp] theorem State.bumpBy_trw (s : State) (k : Nat) (f : Fld) (n : Nat) : (s.bumpBy k f n).trw = s.trw := rfl
@[simp] theorem State.bumpBy_draws (s : State) (k : Nat) (f : Fld) (n : Nat) : (s.bumpBy k f n).draws = s.draws := rfl

@[simp] theorem State.bump_pending (s : State) (k : Nat) (f : Fld) : (s.bump k f).pending = s.pending := rfl
@[simp] theorem State.bump_latch (s : State) (k : Nat) (f : Fld) : (s.bump k f).latch = s.latch := rfl
@[simp] theorem State.bump_tm (s : State) (k : Nat) (f : Fld) : (s.bump k f).tm = s.tm := rfl
@[simp] theorem State.bump_log (s : State) (k : Nat) (f : Fld) : (s.bump k f).log = s.log := rfl
@[simp] theorem State.bump_dbg (s : State) (k : Nat) (f : Fld) : (s.bump k f).dbg = s.dbg := rfl
@[simp] theorem State.bump_fab (s : State) (k : Nat) (f : Fld) : (s.bump k f).fab = s.fab := rfl
@[simp] theorem State.bump_scr (s : State) (k : Nat) (f : Fld) : (s.bump k f).scr = s.scr := rfl
@[simp] theorem State.bump_eng (s : State) (k : Nat) (f : Fld) : (s.bump k f).eng = s.eng := rfl
@[simp] theorem State.bump_cores (s : State) (k : Nat) (f : Fld) : (s.bump k f).cores = s.cores := rfl
@[simp] theorem State.bump_pt (s : State) (k : Nat) (f : Fld) : (s.bump k f).pt = s.pt := rfl
@[simp] theorem State.bump_fw (s : State) (k : Nat) (f : Fld) : (s.bump k f).fw = s.fw := rfl
@[simp] theorem State.bump_boot (s : State) (k : Nat) (f : Fld) : (s.bump k f).boot = s.boot := rfl
@[simp] theorem State.bump_pwr (s : State) (k : Nat) (f : Fld) : (s.bump k f).pwr = s.pwr := rfl
@[simp] theorem State.bump_ecl (s : State) (k : Nat) (f : Fld) : (s.bump k f).ecl = s.ecl := rfl
@[simp] theorem State.bump_panel (s : State) (k : Nat) (f : Fld) : (s.bump k f).panel = s.panel := rfl
@[simp] theorem State.bump_i3c (s : State) (k : Nat) (f : Fld) : (s.bump k f).i3c = s.i3c := rfl
@[simp] theorem State.bump_cph (s : State) (k : Nat) (f : Fld) : (s.bump k f).cph = s.cph := rfl
@[simp] theorem State.bump_ck (s : State) (k : Nat) (f : Fld) : (s.bump k f).ck = s.ck := rfl
@[simp] theorem State.bump_pair (s : State) (k : Nat) (f : Fld) : (s.bump k f).pair = s.pair := rfl
@[simp] theorem State.bump_host (s : State) (k : Nat) (f : Fld) : (s.bump k f).host = s.host := rfl
@[simp] theorem State.bump_dma (s : State) (k : Nat) (f : Fld) : (s.bump k f).dma = s.dma := rfl
@[simp] theorem State.bump_eth (s : State) (k : Nat) (f : Fld) : (s.bump k f).eth = s.eth := rfl
@[simp] theorem State.bump_srmt (s : State) (k : Nat) (f : Fld) : (s.bump k f).srmt = s.srmt := rfl
@[simp] theorem State.bump_stg (s : State) (k : Nat) (f : Fld) : (s.bump k f).stg = s.stg := rfl
@[simp] theorem State.bump_ports (s : State) (k : Nat) (f : Fld) : (s.bump k f).ports = s.ports := rfl
@[simp] theorem State.bump_out (s : State) (k : Nat) (f : Fld) : (s.bump k f).out = s.out := rfl
@[simp] theorem State.bump_trw (s : State) (k : Nat) (f : Fld) : (s.bump k f).trw = s.trw := rfl
@[simp] theorem State.bump_draws (s : State) (k : Nat) (f : Fld) : (s.bump k f).draws = s.draws := rfl

@[simp] theorem State.setReg64_pending (s : State) (a b n : Nat) : (s.setReg64 a b n).pending = s.pending := rfl
@[simp] theorem State.setReg64_latch (s : State) (a b n : Nat) : (s.setReg64 a b n).latch = s.latch := rfl
@[simp] theorem State.setReg64_tm (s : State) (a b n : Nat) : (s.setReg64 a b n).tm = s.tm := rfl
@[simp] theorem State.setReg64_log (s : State) (a b n : Nat) : (s.setReg64 a b n).log = s.log := rfl
@[simp] theorem State.setReg64_dbg (s : State) (a b n : Nat) : (s.setReg64 a b n).dbg = s.dbg := rfl
@[simp] theorem State.setReg64_fab (s : State) (a b n : Nat) : (s.setReg64 a b n).fab = s.fab := rfl
@[simp] theorem State.setReg64_scr (s : State) (a b n : Nat) : (s.setReg64 a b n).scr = s.scr := rfl
@[simp] theorem State.setReg64_eng (s : State) (a b n : Nat) : (s.setReg64 a b n).eng = s.eng := rfl
@[simp] theorem State.setReg64_cores (s : State) (a b n : Nat) : (s.setReg64 a b n).cores = s.cores := rfl
@[simp] theorem State.setReg64_pt (s : State) (a b n : Nat) : (s.setReg64 a b n).pt = s.pt := rfl
@[simp] theorem State.setReg64_fw (s : State) (a b n : Nat) : (s.setReg64 a b n).fw = s.fw := rfl
@[simp] theorem State.setReg64_boot (s : State) (a b n : Nat) : (s.setReg64 a b n).boot = s.boot := rfl
@[simp] theorem State.setReg64_pwr (s : State) (a b n : Nat) : (s.setReg64 a b n).pwr = s.pwr := rfl
@[simp] theorem State.setReg64_ecl (s : State) (a b n : Nat) : (s.setReg64 a b n).ecl = s.ecl := rfl
@[simp] theorem State.setReg64_panel (s : State) (a b n : Nat) : (s.setReg64 a b n).panel = s.panel := rfl
@[simp] theorem State.setReg64_i3c (s : State) (a b n : Nat) : (s.setReg64 a b n).i3c = s.i3c := rfl
@[simp] theorem State.setReg64_cph (s : State) (a b n : Nat) : (s.setReg64 a b n).cph = s.cph := rfl
@[simp] theorem State.setReg64_ck (s : State) (a b n : Nat) : (s.setReg64 a b n).ck = s.ck := rfl
@[simp] theorem State.setReg64_pair (s : State) (a b n : Nat) : (s.setReg64 a b n).pair = s.pair := rfl
@[simp] theorem State.setReg64_host (s : State) (a b n : Nat) : (s.setReg64 a b n).host = s.host := rfl
@[simp] theorem State.setReg64_dma (s : State) (a b n : Nat) : (s.setReg64 a b n).dma = s.dma := rfl
@[simp] theorem State.setReg64_eth (s : State) (a b n : Nat) : (s.setReg64 a b n).eth = s.eth := rfl
@[simp] theorem State.setReg64_srmt (s : State) (a b n : Nat) : (s.setReg64 a b n).srmt = s.srmt := rfl
@[simp] theorem State.setReg64_stg (s : State) (a b n : Nat) : (s.setReg64 a b n).stg = s.stg := rfl
@[simp] theorem State.setReg64_ports (s : State) (a b n : Nat) : (s.setReg64 a b n).ports = s.ports := rfl
@[simp] theorem State.setReg64_out (s : State) (a b n : Nat) : (s.setReg64 a b n).out = s.out := rfl
@[simp] theorem State.setReg64_trw (s : State) (a b n : Nat) : (s.setReg64 a b n).trw = s.trw := rfl
@[simp] theorem State.setReg64_draws (s : State) (a b n : Nat) : (s.setReg64 a b n).draws = s.draws := rfl

/-! The answers of commands. -/

/-- What an answered command keeps and what it takes from its effect. -/
theorem State.answer_eq (s t : State) :
    s.answer t = .next { t with pending := s.pending, tm := { t.tm with orbit := s.tm.orbit, cycle := s.tm.cycle } } := rfl

/-! Registers read after a write. -/

@[simp] theorem State.reg_setReg_same (s : State) (k : Nat) (v : Word) : (s.setReg k v).reg k = v :=
  Tab.get_set_same _ _ _ _

theorem State.reg_setReg (s : State) (k j : Nat) (v : Word) :
    (s.setReg k v).reg j = if j = k then v else s.reg j := Tab.get_set _ _ _ _ _

theorem State.reg_setReg_ne (s : State) {k j : Nat} (v : Word) (h : j ≠ k) : (s.setReg k v).reg j = s.reg j :=
  Tab.get_set_ne _ _ _ h

@[simp] theorem State.reg_setFld_same (s : State) (k : Nat) (f : Fld) (n : Nat) :
    (s.setFld k f n).reg k = f.put (s.reg k) n := State.reg_setReg_same _ _ _

theorem State.reg_setFld (s : State) (k j : Nat) (f : Fld) (n : Nat) :
    (s.setFld k f n).reg j = if j = k then f.put (s.reg k) n else s.reg j := State.reg_setReg _ _ _ _

theorem State.reg_setFld_ne (s : State) {k j : Nat} (f : Fld) (n : Nat) (h : j ≠ k) :
    (s.setFld k f n).reg j = s.reg j := State.reg_setReg_ne _ _ h

theorem State.reg_bumpBy_ne (s : State) {k j : Nat} (f : Fld) (n : Nat) (h : j ≠ k) :
    (s.bumpBy k f n).reg j = s.reg j := State.reg_setReg_ne _ _ h

theorem State.reg_bump_ne (s : State) {k j : Nat} (f : Fld) (h : j ≠ k) :
    (s.bump k f).reg j = s.reg j := State.reg_setReg_ne _ _ h

theorem State.reg_setBit_ne (s : State) {k j : Nat} (f : Fld) (i : Nat) (b : Bool) (h : j ≠ k) :
    (s.setBit k f i b).reg j = s.reg j := State.reg_setReg_ne _ _ h

theorem State.reg_setReg64_ne (s : State) {a b j : Nat} (n : Nat) (ha : j ≠ a) (hb : j ≠ b) :
    (s.setReg64 a b n).reg j = s.reg j := by
  unfold State.setReg64
  rw [State.reg_setReg_ne _ _ hb, State.reg_setReg_ne _ _ ha]

theorem State.fld_setFld_ne (s : State) {k j : Nat} (f g : Fld) (n : Nat) (h : j ≠ k) :
    (s.setFld k f n).fld j g = s.fld j g := by
  unfold State.fld
  rw [State.reg_setFld_ne _ _ _ h]

end Sys2Proof.Machine
end

