-- ==== Sys2Proof/Laws/Fields.lean ====
section
/-! SUPPORT. Fields of a register's word: a field reads back what was put into it, and another field of the word does not
see it. -/

namespace Sys2Proof.Machine

theorem Fld.get_testBit (f : Fld) (w : Word) (i : Nat) :
    (f.get w).testBit i = (decide (i < f.width) && w.getLsbD (f.lo + i)) := by
  simp [Fld.get, Nat.testBit_mod_two_pow, Nat.testBit_shiftRight, BitVec.getLsbD]

theorem Fld.put_getLsbD (f : Fld) (w : Word) (n i : Nat) (hi : i < 32) :
    (f.put w n).getLsbD i
      = if f.lo ≤ i ∧ i < f.lo + f.width then n.testBit (i - f.lo) else w.getLsbD i := by
  simp only [Fld.put, Fld.mask, BitVec.getLsbD_or, BitVec.getLsbD_and, BitVec.getLsbD_not, BitVec.getLsbD_shiftLeft,
    BitVec.getLsbD_setWidth, BitVec.getLsbD_allOnes, BitVec.getLsbD_ofNat, Nat.testBit_mod_two_pow, hi, decide_true,
    Bool.true_and]
  have h32 : i - f.lo < 32 := by omega
  by_cases h1 : i < f.lo
  · have : ¬ (f.lo ≤ i ∧ i < f.lo + f.width) := by omega
    simp [h1, this]
  · by_cases h2 : i - f.lo < f.width
    · have : f.lo ≤ i ∧ i < f.lo + f.width := by omega
      simp [h1, h2, this, h32]
    · have : ¬ (f.lo ≤ i ∧ i < f.lo + f.width) := by omega
      simp [h1, h2, this]

/-- A field reads back what was put into it, cut to its width. -/
theorem Fld.get_put (f : Fld) (w : Word) (n : Nat) (h : f.lo + f.width ≤ 32) :
    f.get (f.put w n) = n % 2 ^ f.width := by
  apply Nat.eq_of_testBit_eq
  intro i
  rw [Fld.get_testBit, Nat.testBit_mod_two_pow]
  by_cases hi : i < f.width
  · rw [Fld.put_getLsbD _ _ _ _ (by omega)]
    simp [hi]
  · simp [hi]

/-- A field does not see what is put into another. -/
theorem Fld.get_put_ne (f g : Fld) (w : Word) (n : Nat) (hg : g.lo + g.width ≤ 32)
    (h : g.lo + g.width ≤ f.lo ∨ f.lo + f.width ≤ g.lo) : g.get (f.put w n) = g.get w := by
  apply Nat.eq_of_testBit_eq
  intro i
  rw [Fld.get_testBit, Fld.get_testBit]
  by_cases hi : i < g.width
  · rw [Fld.put_getLsbD _ _ _ _ (by omega)]
    have : ¬ (f.lo ≤ g.lo + i ∧ g.lo + i < f.lo + f.width) := by omega
    simp [this]
  · simp [hi]

theorem State.fld_setFld_same (s : State) (k : Nat) (f : Fld) (n : Nat) (h : f.lo + f.width ≤ 32) :
    (s.setFld k f n).fld k f = n % 2 ^ f.width := by
  unfold State.fld
  rw [State.reg_setFld_same, Fld.get_put _ _ _ h]

theorem State.fld_setFld_other (s : State) (k : Nat) (f g : Fld) (n : Nat) (hg : g.lo + g.width ≤ 32)
    (h : g.lo + g.width ≤ f.lo ∨ f.lo + f.width ≤ g.lo) : (s.setFld k f n).fld k g = s.fld k g := by
  unfold State.fld
  rw [State.reg_setFld_same, Fld.get_put_ne _ _ _ _ hg h]

/-- A flag set reads 1. -/
theorem State.flag_setFld_one (s : State) (k : Nat) (f : Fld) (h : f.lo + f.width ≤ 32) (hw : 0 < f.width) :
    (s.setFld k f 1).flag k f = true := by
  have : 1 % 2 ^ f.width = 1 := Nat.mod_eq_of_lt (Nat.one_lt_two_pow (by omega))
  simp [State.flag, State.fld_setFld_same _ _ _ _ h, this]

/-- A flag cleared reads 0. -/
theorem State.flag_setFld_zero (s : State) (k : Nat) (f : Fld) (h : f.lo + f.width ≤ 32) :
    (s.setFld k f 0).flag k f = false := by
  simp [State.flag, State.fld_setFld_same _ _ _ _ h]

theorem State.flag_setFld_ne (s : State) {k j : Nat} (f g : Fld) (n : Nat) (h : j ≠ k) :
    (s.setFld k f n).flag j g = s.flag j g := by
  unfold State.flag
  rw [State.fld_setFld_ne _ _ _ _ h]

/-- A counter advanced reads its sum, modulo its width. -/
theorem State.fld_bumpBy_same (s : State) (k : Nat) (f : Fld) (n : Nat) (h : f.lo + f.width ≤ 32) :
    (s.bumpBy k f n).fld k f = (s.fld k f + n) % 2 ^ f.width := State.fld_setFld_same _ _ _ _ h

end Sys2Proof.Machine
end

