-- ==== Sys2Proof/Laws/Cores.lean ====
section
/-! SUPPORT. What setting a core changes, and what an operation presented alone to its core does. -/

namespace Sys2Proof.Machine

/-! Setting a core. -/

theorem State.core_of_cores {s t : State} (h : t.cores = s.cores) (x : Nat) : t.core x = s.core x := by
  unfold State.core
  rw [h]

@[simp] theorem State.core_setFld (s : State) (k : Nat) (f : Fld) (n x : Nat) : (s.setFld k f n).core x = s.core x := rfl
@[simp] theorem State.core_setReg (s : State) (k : Nat) (v : Word) (x : Nat) : (s.setReg k v).core x = s.core x := rfl
@[simp] theorem State.core_bump (s : State) (k : Nat) (f : Fld) (x : Nat) : (s.bump k f).core x = s.core x := rfl
@[simp] theorem State.core_bumpBy (s : State) (k : Nat) (f : Fld) (n x : Nat) : (s.bumpBy k f n).core x = s.core x := rfl

theorem State.cores_setCore (s : State) (x : Nat) (c : CoreSt) :
    (s.setCore x c).cores = Tab.set (fun _ => coreDefault) s.cores x c := by
  unfold State.setCore
  split <;> rfl

@[simp] theorem State.core_setCore_same (s : State) (x : Nat) (c : CoreSt) : (s.setCore x c).core x = c := by
  simp [State.core, State.cores_setCore]

theorem State.core_setCore_ne (s : State) {x y : Nat} (c : CoreSt) (h : y ≠ x) : (s.setCore x c).core y = s.core y := by
  simp [State.core, State.cores_setCore, Tab.get_set_ne _ _ _ h]

@[simp] theorem State.beside_setReg (s : State) (k : Nat) (v : Word) : (s.setReg k v).beside = s.beside := rfl
@[simp] theorem State.beside_setFld (s : State) (k : Nat) (f : Fld) (n : Nat) : (s.setFld k f n).beside = s.beside := rfl
@[simp] theorem State.beside_bumpBy (s : State) (k : Nat) (f : Fld) (n : Nat) : (s.bumpBy k f n).beside = s.beside := rfl
@[simp] theorem State.beside_bump (s : State) (k : Nat) (f : Fld) : (s.bump k f).beside = s.beside := rfl
@[simp] theorem State.beside_cores (s : State) (l : List (Nat × CoreSt)) : { s with cores := l }.beside = s.beside := rfl

@[simp] theorem State.beside_setCore (s : State) (x : Nat) (c : CoreSt) : (s.setCore x c).beside = s.beside := by
  simp only [State.setCore]
  split
  · rw [State.beside_setFld, State.beside_cores]
  · rw [State.beside_cores]

theorem State.reg_setCore (s : State) (x : Nat) (c : CoreSt) {k : Nat} (h : k ≠ Reg.PX_PC (pxc x) (pxi x)) :
    (s.setCore x c).reg k = s.reg k := by
  unfold State.setCore
  split
  · rw [State.reg_setFld_ne _ _ _ h]
    rfl
  · rfl

/-! States that differ in one core. -/

theorem OneCore.refl (s : State) (x : Nat) : OneCore s s x (s.core x) := ⟨rfl, fun _ _ => rfl, fun _ _ _ => rfl, rfl⟩

theorem OneCore.setCore {s t : State} {x : Nat} {c : CoreSt} (h : OneCore s t x c) (c' : CoreSt) :
    OneCore s (t.setCore x c') x c' := by
  refine ⟨State.core_setCore_same _ _ _, fun y hy => ?_, fun k hk hb => ?_, ?_⟩
  · rw [State.core_setCore_ne _ _ hy, h.others y hy]
  · rw [State.reg_setCore _ _ _ hk, h.regs k hk hb]
  · rw [State.beside_setCore, h.rest]

theorem OneCore.bump {s t : State} {x : Nat} {c : CoreSt} (h : OneCore s t x c) (f : Fld) :
    OneCore s (t.bump (Reg.PX_CNT_BUNDLES (pxc x) (pxi x)) f) x c := by
  refine ⟨?_, fun y hy => ?_, fun k hk hb => ?_, ?_⟩
  · rw [State.core_bump, h.core]
  · rw [State.core_bump, h.others y hy]
  · rw [State.reg_bump_ne _ _ hb, h.regs k hk hb]
  · rw [State.beside_bump, h.rest]

/-- The rest of the state, field by field. -/
theorem OneCore.tm {s t : State} {x : Nat} {c : CoreSt} (h : OneCore s t x c) : t.tm = s.tm := by
  have := congrArg State.tm h.rest
  exact this

theorem OneCore.pending {s t : State} {x : Nat} {c : CoreSt} (h : OneCore s t x c) : t.pending = s.pending := by
  have := congrArg State.pending h.rest
  exact this

theorem OneCore.fw {s t : State} {x : Nat} {c : CoreSt} (h : OneCore s t x c) : t.fw = s.fw := by
  have := congrArg State.fw h.rest
  exact this

theorem OneCore.dbg {s t : State} {x : Nat} {c : CoreSt} (h : OneCore s t x c) : t.dbg = s.dbg := by
  have := congrArg State.dbg h.rest
  exact this

/-- A state that differs in one core is its own answer. -/
theorem OneCore.answer {s t : State} {x : Nat} {c : CoreSt} (h : OneCore s t x c) : s.answer t = .next t := by
  rw [State.answer_eq, ← h.pending, ← h.tm]

end Sys2Proof.Machine
end

