-- ==== Sys2Proof/Laws/Issue.lean ====
section
/-! SUPPORT. The issue of a bundle of one operation: what it leaves of its core, of the other cores and of the rest. -/

namespace Sys2Proof.Machine

/-- An operation presented alone to its core is its bundle, which issues. -/
theorem State.present_lone {s : State} {h : OpHdr} {slot : Nat} (L : Lone s h slot) (mk : CoreSt → Plan) :
    s.present h slot mk
      = (s.setCore h.core { s.core h.core with bundle := [mk (s.core h.core)] }).issue h.core := by
  have hcode := L.code
  have hbad : (decide (32 ≤ h.core.val) && (slot == 1 || slot == 3 || slot == 4)) = false := by
    rcases L.slots with h1 | ⟨h2, -⟩
    · simp; omega
    · rcases h2 with rfl | rfl | rfl <;> simp
  have hmpu : ¬ (32 ≤ h.core.val ∧ (!s.mpuAllows (h.core.val - 32) (3 * 2 ^ 60 + (s.core h.core).pc) 4 4) = true) := by
    rcases L.slots with h1 | ⟨-, h2⟩
    · omega
    · rw [h2]
      simp
  unfold State.present
  simp only [L.runs, L.free, L.empty, L.guard, L.stop, hbad, List.length_nil, Nat.mul_zero, Nat.add_zero, List.nil_append,
    if_neg hmpu, if_neg (Nat.not_lt.mpr hcode)]
  simp

theorem dupSlot_single (p : Plan) : dupSlot [p] = none := by
  simp only [dupSlot, List.find?_eq_none]
  intro n _
  simp [List.countP_cons]
  split <;> omega

theorem State.bundleFault_single {s : State} {x : Nat} {p : Plan} (h : s.planFault x p = none) :
    s.bundleFault x [p] = none := by
  simp only [State.bundleFault, List.findSome?_eq_none_iff]
  intro n _
  by_cases hn : p.slot == n <;> simp [hn, h]


theorem CoreSt.settle_none (c : CoreSt) (n : Nat) (h : c.pend = []) : c.settleAt n = (c, 0) := by
  obtain ⟨⟩ := c
  simp only at h
  subst h
  simp [CoreSt.settleAt, winners]

theorem CoreSt.settle_due (c : CoreSt) (n slot : Nat) (d : Dst) (v : BitVec 512) (h : c.pend = [⟨n, slot, d, v⟩]) :
    c.settleAt n = (({ c with pend := [] } : CoreSt).put d v, 0) := by
  by_cases hd : d = .p 0
  · subst hd
    simp [CoreSt.settleAt, h, winners, CoreSt.put]
  · simp [CoreSt.settleAt, h, winners, hd]

theorem CoreSt.settle_later (c : CoreSt) (n m slot : Nat) (d : Dst) (v : BitVec 512) (h : c.pend = [⟨m, slot, d, v⟩])
    (hm : m ≠ n) : c.settleAt n = (c, 0) := by
  obtain ⟨⟩ := c
  simp only at h
  subst h
  simp [CoreSt.settleAt, winners, hm]

theorem State.countLost_zero (s : State) (x : Nat) : s.countLost x 0 = s := by
  simp [State.countLost]

/-- What the end of an issue leaves of a core. -/
theorem OneCore.advance {s t : State} {x : Nat} {c c' : CoreSt} (h : OneCore s t x c)
    (hs : ({ c with bundle := [], adv := c.adv + 1 } : CoreSt).settleAt (c.adv + 1) = (c', 0)) :
    OneCore s (t.advance x) x c' := by
  unfold State.advance
  simp only [h.core, hs, State.countLost_zero]
  exact h.setCore _

/-- A bundle of one operation without a fault, which need not wait, issues: its stack operation is done, its core is free,
it is counted, its writes and its access follow, then its action. -/
theorem State.issue_single {s s0 s1 : State} {x tgt : Nat} {c c1 : CoreSt} {p : Plan} (h0 : OneCore s0 s x c)
    (hb : c.bundle = [p]) (hu : p.badUnit = false) (hf : s.planFault x p = none) (hw : s.bundleWaits x [p] = false)
    (hn : p.fence = true → c.storeErr = none) (hact : p.slot ≠ 5 → p.act = .none)
    (hst : s.stackAct x (c.pc + 4) p.act = .inl (s1, tgt)) (h1 : OneCore s0 s1 x c1) :
    ∃ t, OneCore s0 t x { c1 with stall := .none } ∧
      s.issue x = (let r := ((t.issuePlan x c.pc p).issueAct x (c.pc + 4) tgt p.act).advance x
        if p.act = .halt then r.coreHalt x else r) := by
  have hc := h0.core
  have hfind : ((if p.slot == 5 then some p else none).map Plan.act).getD .none = p.act := by
    by_cases h5 : p.slot = 5
    · simp [h5]
    · simp [h5, hact h5]
  have herr : (if p.fence = true then c.storeErr else none) = none := by
    by_cases hp : p.fence = true
    · simp [hn hp]
    · simp [hp]
  let t0 := s1.setCore x { s1.core x with stall := .none }
  refine ⟨if x < 32 then t0.bump (Reg.PX_CNT_BUNDLES (pxc x) (pxi x)) Fld.PX_CNT_BUNDLES_COUNT else t0, ?_, ?_⟩
  · have h2 : OneCore s0 t0 x { c1 with stall := .none } := by
      simp only [t0, h1.core]
      exact h1.setCore _
    split
    · exact h2.bump _
    · exact h2
  · unfold State.issue
    have hlen : c.pc + 4 * [p].length = c.pc + 4 := by simp
    simp only [hc, hb, dupSlot_single, State.bundleFault_single hf, hw, List.find?_singleton, hu, List.any_cons, List.any_nil,
      Bool.or_false, Bool.false_eq_true, if_false, List.foldl_cons, List.foldl_nil, hlen, herr, hfind, hst, t0]

/-- The same for a bundle without a fence, an access or a stack operation. -/
theorem State.issue_lone {s s0 : State} {x : Nat} {c : CoreSt} {p : Plan}
    (h0 : OneCore s0 s x { c with bundle := [p] }) (hu : p.badUnit = false) (hf : p.fault = none)
    (ha : p.access = none) (hn : p.fence = false) (hb : p.act.isBranch = true → c.branch = none)
    (hact : p.slot ≠ 5 → p.act = .none) (hh : p.act ≠ .halt) (hcall : ∀ n, p.act ≠ .call n) (hret : p.act ≠ .ret) :
    ∃ t, OneCore s0 t x { c with bundle := [p], stall := .none } ∧
      s.issue x = ((t.issuePlan x c.pc p).issueAct x (c.pc + 4) 0 p.act).advance x := by
  have hpf : s.planFault x p = none := by
    simp only [State.planFault, hf, ha, h0.core]
    by_cases hbr : p.act.isBranch = true
    · simp [hb hbr]
    · simp [hbr]
  have hw : s.bundleWaits x [p] = false := by
    simp [State.bundleWaits, hn, ha]
  have hstk : s.stackAct x (c.pc + 4) p.act = .inl (s, 0) := by
    unfold State.stackAct
    split
    · rename_i n heq
      exact absurd heq (hcall n)
    · rename_i heq
      exact absurd heq hret
    · rfl
  obtain ⟨t, h1, h2⟩ := State.issue_single h0 rfl hu hpf hw (by simp [hn]) hact hstk h0
  exact ⟨t, h1, by simpa only [if_neg hh] using h2⟩

theorem OneCore.pendWrite {s t : State} {x : Nat} {c : CoreSt} (h : OneCore s t x c) (slot lat : Nat) (d : Dst)
    (v : BitVec 512) : OneCore s (t.pendWrite x slot lat d v) x { c with pend := c.pend ++ [⟨c.adv + lat, slot, d, v⟩] } := by
  unfold State.pendWrite
  simp only [h.core]
  exact h.setCore _

theorem OneCore.nextPc {s t : State} {x : Nat} {c : CoreSt} (h : OneCore s t x c) (after tgt : Nat) :
    OneCore s (t.issueAct x after tgt .none) x (c.nextPc after) := by
  unfold State.issueAct
  simp only [h.core]
  exact h.setCore _

theorem Lone.one {s : State} {h : OpHdr} {slot : Nat} (_ : Lone s h slot) (p : Plan) :
    OneCore s (s.setCore h.core { s.core h.core with bundle := [p] }) h.core { s.core h.core with bundle := [p] } :=
  (OneCore.refl s h.core).setCore _

/-- The core of a bundle of one operation that writes a register at latency 1, at the end of its issue. -/
theorem CoreSt.end_write (c : CoreSt) (p : Plan) (slot : Nat) (d : Dst) (v : BitVec 512) (hs : c.stall = .none)
    (he : c.bundle = []) (hf : c.pend = []) (hb : c.branch = none) :
    let c1 : CoreSt := { c with bundle := [p], stall := .none }
    let c2 : CoreSt := { c1 with pend := c1.pend ++ [⟨c1.adv + 1, slot, d, v⟩] }
    let c3 := c2.nextPc (c.pc + 4)
    ({ c3 with bundle := [], adv := c3.adv + 1 } : CoreSt).settleAt (c3.adv + 1) = (c.wrote d v, 0) := by
  obtain ⟨⟩ := c
  simp only at hs he hf hb
  subst hs he hf hb
  intro c1 c2 c3
  rw [CoreSt.settle_due _ _ slot d v rfl]
  rfl

/-- The same for a longer latency. -/
theorem CoreSt.end_fly (c : CoreSt) (p : Plan) (slot lat : Nat) (d : Dst) (v : BitVec 512) (hs : c.stall = .none)
    (he : c.bundle = []) (hf : c.pend = []) (hb : c.branch = none) (hl : lat ≠ 1) :
    let c1 : CoreSt := { c with bundle := [p], stall := .none }
    let c2 : CoreSt := { c1 with pend := c1.pend ++ [⟨c1.adv + lat, slot, d, v⟩] }
    let c3 := c2.nextPc (c.pc + 4)
    ({ c3 with bundle := [], adv := c3.adv + 1 } : CoreSt).settleAt (c3.adv + 1) = (c.flying slot lat d v, 0) := by
  obtain ⟨⟩ := c
  simp only at hs he hf hb
  subst hs he hf hb
  intro c1 c2 c3
  rw [CoreSt.settle_later _ _ (c1.adv + lat) slot d v rfl (by simp only [c3, c2, c1, CoreSt.nextPc]; omega)]
  rfl

/-- An operation that writes one register at latency 1. -/
theorem State.present_write {s : State} {h : OpHdr} {slot : Nat} (L : Lone s h slot) {mk : CoreSt → Plan} {d : Dst}
    {v : BitVec 512} (hm : mk (s.core h.core) = { planNone slot with writes := [(d, 1, v)] }) :
    OneCore s (s.present h slot mk) h.core ((s.core h.core).wrote d v) := by
  rw [State.present_lone L, hm]
  obtain ⟨t, h1, h2⟩ := State.issue_lone (L.one { planNone slot with writes := [(d, 1, v)] }) rfl rfl rfl rfl
    (fun _ => L.straight) (fun _ => rfl) (by simp [planNone]) (by simp [planNone]) (by simp [planNone])
  rw [h2]
  exact ((h1.pendWrite slot 1 d v).nextPc ((s.core h.core).pc + 4) 0).advance
    (CoreSt.end_write _ _ _ _ _ L.free L.empty L.flight L.straight)

/-- An operation that writes one register at a longer latency: the write is in flight. -/
theorem State.present_fly {s : State} {h : OpHdr} {slot lat : Nat} (L : Lone s h slot) {mk : CoreSt → Plan} {d : Dst}
    {v : BitVec 512} (hm : mk (s.core h.core) = { planNone slot with writes := [(d, lat, v)] }) (hl : lat ≠ 1) :
    OneCore s (s.present h slot mk) h.core ((s.core h.core).flying slot lat d v) := by
  rw [State.present_lone L, hm]
  obtain ⟨t, h1, h2⟩ := State.issue_lone (L.one { planNone slot with writes := [(d, lat, v)] }) rfl rfl rfl rfl
    (fun _ => L.straight) (fun _ => rfl) (by simp [planNone]) (by simp [planNone]) (by simp [planNone])
  rw [h2]
  exact ((h1.pendWrite slot lat d v).nextPc ((s.core h.core).pc + 4) 0).advance
    (CoreSt.end_fly _ _ _ _ _ _ L.free L.empty L.flight L.straight hl)

theorem OneCore.now {s t : State} {x : Nat} {c : CoreSt} (h : OneCore s t x c) : t.now = s.now := by
  simp only [State.now, h.tm]

/-- ORBIT, POS and CYCLES are those of the cycle of issue. -/
theorem OneCore.timedSpecial {s t : State} {x : Nat} {c : CoreSt} (h : OneCore s t x c)
    (hc : c.started = (s.core x).started) (n : Nat) (ho : t.coreOwner x = s.coreOwner x) :
    t.timedSpecial x n = s.timedSpecial x n := by
  simp only [State.timedSpecial, State.obsOrbit, State.orbitN, State.coreCycles, h.tm, h.dbg, h.now, h.core, hc, ho]

theorem OneCore.coreOwner {s t : State} {x y : Nat} {c : CoreSt} (h : OneCore s t x c) :
    t.coreOwner y = s.coreOwner y := by
  unfold State.coreOwner
  split
  · rename_i hy
    have hk : Reg.PT_MAP_ACT ((32 + pxc y) / 4) < Reg.PX_PC (pxc x) (pxi x) := by
      simp only [Reg.PT_MAP_ACT, Reg.PX_PC, pxc]
      omega
    have hb : Reg.PX_PC (pxc x) (pxi x) < Reg.PX_CNT_BUNDLES (pxc x) (pxi x) := by
      simp only [Reg.PX_CNT_BUNDLES, Reg.PX_PC]
      omega
    simp only [State.clOwner, State.mapEntry, h.regs _ (Nat.ne_of_lt hk) (Nat.ne_of_lt (hk.trans hb))]
  · rfl

/-- A move from ORBIT, POS or CYCLES: the value of the cycle of issue is in flight. -/
theorem State.present_timed {s : State} {h : OpHdr} {slot n gd : Nat} (L : Lone s h slot) {mk : CoreSt → Plan}
    (hm : mk (s.core h.core) = { planNone slot with timed := some (gd, n) }) :
    OneCore s (s.present h slot mk) h.core
      ((s.core h.core).flying slot 2 (.g gd) (BitVec.ofNat 512 (s.timedSpecial h.core n))) := by
  rw [State.present_lone L, hm]
  obtain ⟨t, h1, h2⟩ := State.issue_lone (L.one { planNone slot with timed := some (gd, n) }) rfl rfl rfl rfl
    (fun _ => L.straight) (fun _ => rfl) (by simp [planNone]) (by simp [planNone]) (by simp [planNone])
  rw [h2, ← h1.timedSpecial rfl n h1.coreOwner]
  exact ((h1.pendWrite slot 2 (.g gd) _).nextPc ((s.core h.core).pc + 4) 0).advance
    (CoreSt.end_fly _ _ _ _ _ _ L.free L.empty L.flight L.straight (by decide))

end Sys2Proof.Machine
end

