-- ==== Sys2Proof/Laws/Logged.lean ====
section
/-! SUPPORT. What keeping account changes: the operations of the log ring, the journal, the Tail rings and the alarms leave
the state as it was but for these. -/

namespace Sys2Proof.Machine

theorem Logged.refl (u : State) : Logged u u := ⟨fun _ _ => rfl, rfl⟩

theorem Logged.trans {u v w : State} (h1 : Logged u v) (h2 : Logged v w) : Logged u w := by
  refine ⟨fun k hk => (h2.regs k hk).trans (h1.regs k hk), ?_⟩
  have h3 := congrArg (fun x : State => { x with log := u.log, dbg := u.dbg }) h2.rest
  exact h3.trans h1.rest

theorem Logged.setReg {u v : State} (h : Logged u v) {k : Nat} (hk : bookKey k = true) (w : Word) :
    Logged u (v.setReg k w) := by
  refine ⟨fun j hj => ?_, h.rest⟩
  rw [State.reg_setReg_ne _ _ (by rintro rfl; simp [hk] at hj)]
  exact h.regs j hj

theorem Logged.setReg64 {u v : State} (h : Logged u v) {a b : Nat} (ha : bookKey a = true) (hb : bookKey b = true) (n : Nat) :
    Logged u (v.setReg64 a b n) := (h.setReg ha _).setReg hb _

theorem Logged.setFld {u v : State} (h : Logged u v) {k : Nat} (hk : bookKey k = true) (f : Fld) (n : Nat) :
    Logged u (v.setFld k f n) := h.setReg hk _

theorem Logged.bump {u v : State} (h : Logged u v) {k : Nat} (hk : bookKey k = true) (f : Fld) :
    Logged u (v.bump k f) := h.setReg hk _

theorem Logged.log {u v : State} (h : Logged u v) (l : LogSt) : Logged u { v with log := l } := ⟨h.regs, h.rest⟩

theorem Logged.dbg {u v : State} (h : Logged u v) (d : DbgSt) : Logged u { v with dbg := d } := ⟨h.regs, h.rest⟩

theorem bookKey_debug {k : Nat} (h1 : 0x3D00000 ≤ k) (h2 : k < 0x3D10000) : bookKey k = true := by
  simp [bookKey, h1, h2]

theorem Logged.logPut {u v : State} (h : Logged u v) (n : Nat) (e : LogEntry) : Logged u (v.logPut n e) :=
  ((h.log _).setReg (by decide) _).setReg (by decide) _

theorem Logged.countDrop {u v : State} (h : Logged u v) (c n : Nat) : Logged u (v.countDrop c n) := by
  unfold State.countDrop
  split
  · exact (h.log _).bump (by decide) _
  · refine (h.log _).bump ?_ _
    have := Nat.mod_lt (dropClass c) (by decide : 0 < 8)
    exact bookKey_debug (by simp only [Reg.DBG_DROP]; omega) (by simp only [Reg.DBG_DROP]; omega)

theorem Logged.logWrite {u v : State} (h : Logged u v) (e : LogEntry) : Logged u (v.logWrite e) := by
  unfold State.logWrite
  dsimp only
  repeat' split
  all_goals first
    | exact h.countDrop _ _
    | exact (h.log _).countDrop _ _
    | exact ((h.log _).log _).logPut _ _
    | exact ((h.log _).countDrop _ _).logPut _ _

theorem Logged.tailEvent {u v : State} (h : Logged u v) (n k c d : Nat) : Logged u (v.tailEvent n k c d) := by
  unfold State.tailEvent
  split
  · exact h
  · exact h.dbg _

theorem Logged.errRecord {u v : State} (h : Logged u v) (n c d a b : Nat) : Logged u (v.errRecord n c d a b) :=
  (h.logWrite _).tailEvent _ _ _ _

theorem Logged.capPush {u v : State} (h : Logged u v) (p : Nat) (hp : p < 16) (n : Nat) (r : Bytes) :
    Logged u (v.capPush p n r) := by
  unfold State.capPush
  dsimp only
  repeat' split
  · exact h
  · refine h.bump ?_ _
    exact bookKey_debug (by simp only [Reg.DBG_CAP_DROP]; omega) (by simp only [Reg.DBG_CAP_DROP]; omega)
  · exact h.dbg _

theorem asPart_lt {n p : Nat} (h : asPart n = some p) : p < 16 := by
  unfold asPart at h
  split at h
  · cases h
    omega
  · cases h

theorem State.unitOwner_lt {s : State} {u p : Nat} (h : s.unitOwner u = some p) : p < 16 := by
  unfold State.unitOwner at h
  repeat' split at h
  all_goals first
    | exact asPart_lt h
    | cases h

theorem Logged.tailFreeze {u v : State} (h : Logged u v) : Logged u v.tailFreeze := by
  unfold State.tailFreeze
  dsimp only
  have h0 : Logged u ((v.setFld Reg.DBG_STATUS Fld.DBG_STATUS_TAIL_FROZEN 1).setReg64 Reg.DBG_TAIL_ORBIT_LO Reg.DBG_TAIL_ORBIT_HI v.orbitN) :=
    (h.setFld (by decide) _ _).setReg64 (by decide) (by decide) _
  generalize (v.setFld Reg.DBG_STATUS Fld.DBG_STATUS_TAIL_FROZEN 1).setReg64 Reg.DBG_TAIL_ORBIT_LO Reg.DBG_TAIL_ORBIT_HI v.orbitN = w at h0
  generalize w.dbg.tails = l
  induction l generalizing w with
  | nil => exact h0
  | cons e l ih =>
    refine ih _ ?_
    dsimp only
    split
    · rename_i p hp
      split
      · exact h0.capPush p (State.unitOwner_lt hp) _ _
      · exact h0
    · exact h0

theorem Logged.alarmBit {u v : State} (h : Logged u v) (b : Nat) : Logged u (v.alarmBit b) := by
  unfold State.alarmBit
  split
  · exact h
  · dsimp only
    have h1 : Logged u (v.setBit Reg.DBG_ALARM Fld.DBG_ALARM_ALARMS b true) := h.setReg (by decide) _
    generalize v.setBit Reg.DBG_ALARM Fld.DBG_ALARM_ALARMS b true = w at h1 ⊢
    have h2 : Logged u (if (w.flag Reg.DBG_CTRL Fld.DBG_CTRL_STOP_ON_ALARM && w.dbg.stopDue.isNone
          && !w.flag Reg.DBG_STATUS Fld.DBG_STATUS_STOPPED) = true then
        ({ w with dbg := { w.dbg with stopDue := some (w.orbitN + 1) } }).setFld Reg.DBG_STATUS Fld.DBG_STATUS_STOP_PENDING 1
      else w) := by
      split
      · exact (h1.dbg _).setFld (by decide) _ _
      · exact h1
    generalize (if (w.flag Reg.DBG_CTRL Fld.DBG_CTRL_STOP_ON_ALARM && w.dbg.stopDue.isNone
          && !w.flag Reg.DBG_STATUS Fld.DBG_STATUS_STOPPED) = true then
        ({ w with dbg := { w.dbg with stopDue := some (w.orbitN + 1) } }).setFld Reg.DBG_STATUS Fld.DBG_STATUS_STOP_PENDING 1
      else w) = x at h2 ⊢
    split
    · exact h2
    · exact h2.tailFreeze

theorem Logged.alarm {u v : State} (h : Logged u v) (b n c d a : Nat) : Logged u (v.alarm b n c d a) :=
  (h.errRecord _ _ _ _ _).alarmBit _

theorem Logged.ite {u a b : State} {c : Prop} [Decidable c] (ha : Logged u a) (hb : Logged u b) :
    Logged u (if c then a else b) := by
  split
  · exact ha
  · exact hb

theorem Logged.journal {u v : State} (h : Logged u v) (src : Src) (o : Nat) (a b : Word) (d : Bool) (n : Nat) :
    Logged u (v.journal src o a b d n) := by
  unfold State.journal
  dsimp only
  have hl : bookKey Reg.PT_JRNL_SEQ_LO = true := by decide
  have hh : bookKey Reg.PT_JRNL_SEQ_HI = true := by decide
  exact Logged.ite (((h.log _).setReg64 hl hh _).logWrite _) ((((h.log _).setReg64 hl hh _).logWrite _).alarm _ _ _ _ _)

/-- A command whose answer is a state up to what is kept account of. -/
theorem Logged.answer {s u t : State} (h : Logged u t) (hp : u.pending = s.pending) (ho : u.tm.orbit = s.tm.orbit)
    (hc : u.tm.cycle = s.tm.cycle) : ∃ r, s.answer t = .next r ∧ Logged u r := by
  refine ⟨_, rfl, fun k hk => h.regs k hk, ?_⟩
  have h1 := h.rest
  have hpd : t.pending = s.pending := by
    have := congrArg (fun x : State => x.pending) h1
    exact Eq.trans this hp
  have htm : t.tm = u.tm := by
    have := congrArg (fun x : State => x.tm) h1
    exact this
  rw [← h1, hpd.symm, htm, ← ho, ← hc]

theorem State.Live.unit {s : State} (h : s.Live) (f : State → State) : s.unitAct f = f s := by
  simp [State.unitAct, h.powered, h.going]

theorem State.Live.host {s : State} (h : s.Live) (src : Src) (k : Nat) (v : Word) (f : State → State) :
    s.hostGate src k v f = f s := by
  simp [State.hostGate, h.powered, h.open_]

theorem State.Live.vf {s : State} (h : s.Live) (f : State → State) : s.vfGate f = f s := by
  simp [State.vfGate, h.powered, h.open_]

theorem State.Live.cl {s : State} (h : s.Live) (w : ClWriter) (k : Nat) (v : Word) (f : State → State) :
    s.clGate w k v f = f s := by
  unfold State.clGate
  split
  · exact h.host _ _ _ _
  · rfl

end Sys2Proof.Machine
end

