-- ==== Sys2Proof/Laws/Memory.lean ====
section
/-! SUPPORT. The operations of the byte stores keep their canonical form, and reset has it. -/

namespace Sys2Proof.Machine

theorem FabSt.store_wf (l : Bytes) : ∀ (m : FabSt) (a : Nat), (m.store a l).fill = m.fill
    ∧ (Tab.wf (memDefault m.fill) m.cells = true → Tab.wf (memDefault (m.store a l).fill) (m.store a l).cells = true) := by
  induction l with
  | nil => intro m a; exact ⟨rfl, id⟩
  | cons b l ih =>
    intro m a
    have h := ih { m with cells := Tab.set (memDefault m.fill) m.cells a b } (a + 1)
    exact ⟨h.1, fun w => h.2 (Tab.wf_set _ _ _ _ w)⟩

theorem ScrSt.store_wf (l : Bytes) : ∀ (m : ScrSt) (a : Nat), (m.store a l).fill = m.fill
    ∧ (Tab.wf (scrDefault m.fill) m.cells = true → Tab.wf (scrDefault (m.store a l).fill) (m.store a l).cells = true) := by
  induction l with
  | nil => intro m a; exact ⟨rfl, id⟩
  | cons b l ih =>
    intro m a
    have h := ih { m with cells := Tab.set (scrDefault m.fill) m.cells a b } (a + 1)
    exact ⟨h.1, fun w => h.2 (Tab.wf_set _ _ _ _ w)⟩

theorem sramStore_wf (l : Bytes) : ∀ (t : List Host.Cell) (a : Nat), Tab.wf (fun _ => (0 : Byte)) t = true →
    Tab.wf (fun _ => (0 : Byte)) (sramStore t a l) = true := by
  induction l with
  | nil => intro t a; exact id
  | cons b l ih => intro t a h; exact ih _ (a + 1) (Tab.wf_set _ _ _ _ h)

/-- A table whose defaults agree at every key it lists is canonical under both. -/
theorem Tab.wfFrom_default {α : Type} [DecidableEq α] (d e : Nat → α) (t : List (Nat × α)) (a : Nat)
    (h : ∀ x ∈ t, d x.1 = e x.1) (w : Tab.wfFrom d a t = true) : Tab.wfFrom e a t = true := by
  induction t generalizing a with
  | nil => rfl
  | cons x t ih =>
    obtain ⟨i, v⟩ := x
    simp only [Tab.wfFrom, Bool.and_eq_true, decide_eq_true_eq] at w ⊢
    refine ⟨⟨w.1.1, ?_⟩, ih _ (fun y hy => h y (List.mem_cons_of_mem _ hy)) w.2⟩
    rw [← h (i, v) (List.mem_cons_self ..)]
    exact w.1.2

/-- A channel initialised anew (R107): its cells go, and what its unlisted bytes read as changes. -/
theorem FabSt.refill_wf (m : FabSt) (ch : Nat) (f : Option (Byte × Byte)) (w : Tab.wf (memDefault m.fill) m.cells = true) :
    Tab.wf (memDefault (m.refill ch f).fill) (m.refill ch f).cells = true := by
  refine Tab.wfFrom_default (memDefault m.fill) _ _ 0 (fun x hx => ?_)
    (Tab.wf_drop _ (fun a => a / 2 ^ 33 == ch) _ w)
  simp only [FabSt.refill, Tab.drop, List.mem_filter, Bool.not_eq_true', beq_eq_false_iff_ne] at hx
  simp only [FabSt.refill, memDefault, Tab.get_set_ne _ _ _ hx.2]

/-- A cluster's scratch initialised (R128). -/
theorem ScrSt.init_wf (m : ScrSt) (c : Nat) (f : Option (Byte × Byte)) (w : Tab.wf (scrDefault m.fill) m.cells = true) :
    Tab.wf (scrDefault (Tab.set (fun _ => none) m.fill c f)) (Tab.drop (fun a => a / 2 ^ 25 == c) m.cells) = true := by
  refine Tab.wfFrom_default (scrDefault m.fill) _ _ 0 (fun x hx => ?_)
    (Tab.wf_drop _ (fun a => a / 2 ^ 25 == c) _ w)
  simp only [Tab.drop, List.mem_filter, Bool.not_eq_true', beq_eq_false_iff_ne] at hx
  simp only [scrDefault, Tab.get_set_ne _ _ _ hx.2]

theorem reset_memory_wf : Memory.wf State.reset = true := by decide

end Sys2Proof.Machine
end

