-- ==== Sys2Proof/Tests/Slice0.lean ====
section
/-! SUPPORT. Tests: commands that WellFormed refuses, states that meet the hypotheses of the obligations, and single steps
whose results are taken from the spec. -/

namespace Sys2Proof.Tests
open Sys2Proof Sys2Proof.Machine

/-! Commands that WellFormed refuses, at least one for each of its checks. -/

/-- A line request of the host port at byte 8 of partition 0. -/
def tLine (a : BitVec 64) : LineReq := ⟨.host, .pra 0 a⟩
/-- A Tether header for a message of `n` lines. -/
def tHdr (n : BitVec 7) : MsgHdr :=
  { mtype := 1, cls := 0, ordered := false, ackReq := false, tag := 0, len := n, last := true, status := 0, offset := 0,
    part := 0, kind := 0, arg := 0 }
/-- A good flit of `n` units. -/
def tFlit (n : Nat) : Flit :=
  { crcOk := true, ftype := 0, eclipse := false, seq := 0, ack := 0, crP := 0, crNp := 0, crCpl := 0, firstHdr := 15,
    units := List.replicate n (zeros 16) }
/-- A packet of some bytes. -/
def tPkt (b : Bytes) : SrmtPkt := ⟨0, 0, 0, false, b⟩

theorem test_wf_line_read : (Instr.memLineRead (tLine 0) (List.replicate 69 (0, 0))).wellFormed = false := by decide
theorem test_wf_line_write_place : (Instr.memLineWrite (tLine 8) (zeros 64)).wellFormed = false := by decide
theorem test_wf_line_write_size : (Instr.memLineWrite (tLine 64) (zeros 63)).wellFormed = false := by decide
theorem test_wf_line_write : (Instr.memLineWrite (tLine 64) (zeros 64)).wellFormed = true := by decide
theorem test_wf_partial_empty : (Instr.memPartialWrite (tLine 0) []).wellFormed = false := by decide
theorem test_wf_partial_over_line : (Instr.memPartialWrite (tLine 60) (zeros 5)).wellFormed = false := by decide
theorem test_wf_partial : (Instr.memPartialWrite (tLine 60) (zeros 4)).wellFormed = true := by decide
theorem test_wf_scr_read_empty : (Instr.scrRead 0 (.px 0) 0 0).wellFormed = false := by decide
theorem test_wf_scr_read_over_word : (Instr.scrRead 0 (.px 0) 8 57).wellFormed = false := by decide
theorem test_wf_scr_read : (Instr.scrRead 0 (.px 0) 8 56).wellFormed = true := by decide
theorem test_wf_scr_full : (Instr.scrFullWrite 0 .fill 8 (zeros 64)).wellFormed = false := by decide
theorem test_wf_scr_partial : (Instr.scrPartialWrite 0 .fill 8 (zeros 64)).wellFormed = false := by decide
theorem test_wf_scr_add_port : (Instr.scrAtomicAdd 0 (.drain 0) true 0 1).wellFormed = false := by decide
theorem test_wf_scr_swap_port : (Instr.scrAtomicSwap 0 (.aRead 0) true 0 1).wellFormed = false := by decide
theorem test_wf_enqueue : (Instr.engEnqueue 0 (.dma [])).wellFormed = false := by decide
theorem test_wf_flit : (Instr.flitReceive 0 (tFlit 14)).wellFormed = false := by decide
theorem test_wf_tether_write : (Instr.tetherWrite 0 (tHdr 2) (zeros 64)).wellFormed = false := by decide
theorem test_wf_masked : (Instr.writeMasked 0 (tHdr 1) 1 (zeros 65)).wellFormed = false := by decide
theorem test_wf_read_data : (Instr.readData 0 (tHdr 1) []).wellFormed = false := by decide
theorem test_wf_param : (Instr.param 0 (zeros 15)).wellFormed = false := by decide
theorem test_wf_time : (Instr.timeRsp 0 (zeros 17)).wellFormed = false := by decide
theorem test_wf_bar0_empty : (Instr.bar0Access .pf 0 0 none).wellFormed = false := by decide
theorem test_wf_bar0_data : (Instr.bar0Access .pf 0 4 (some (zeros 3))).wellFormed = false := by decide
theorem test_wf_bar2_read : (Instr.bar2Read 0 0 4097).wellFormed = false := by decide
theorem test_wf_bar2_write : (Instr.bar2Write 0 0 []).wellFormed = false := by decide
theorem test_wf_host_completion : (Instr.hostCompletion 0 (.ok [])).wellFormed = false := by decide
theorem test_wf_packet : (Instr.readReq (tPkt [])).wellFormed = false := by decide
theorem test_wf_hawk_event : (Instr.hawkEvent ⟨1, 0, zeros 53⟩).wellFormed = false := by decide
theorem test_wf_mirror_write : (Instr.mirrorWrite (tHdr 1) (zeros 63)).wellFormed = false := by decide
theorem test_wf_storage_mirror : (Instr.storageMirrorWrite (tHdr 1) (zeros 63)).wellFormed = false := by decide
theorem test_wf_resync : (Instr.resyncWrite (tHdr 1) (zeros 63)).wellFormed = false := by decide
theorem test_wf_mirror_desc : (Instr.mirrorDesc (zeros 15)).wellFormed = false := by decide
theorem test_wf_ageing : (Instr.ageingReadDone [] []).wellFormed = false := by decide

/-! States that meet the hypotheses of the obligations. -/

theorem test_reset_live : State.reset.Live := ⟨by decide, by decide, by decide⟩

/-- Code of four bundles of one operation, NOP each. -/
def tCode : PxImage := ⟨false, 0, 0, 0, 0, 0, [], List.replicate 4 0x80000000⟩
/-- Core 5 at offset 4, with a handler at 8 and some registers. -/
def tC : CoreSt := { coreDefault with img := some tCode, pc := 4, tvec := 9, g := [(1, 7), (2, 9)], p := [(3, true)] }
/-- The state in which prep core 5 runs as `c`. -/
def tRun (c : CoreSt) : State := (State.reset.setFld (Reg.PX_STATE 2 1) Fld.PX_STATE_STATE 3).setCore 5 c
/-- The header of an operation of prep core 5 under p3. -/
def tH : OpHdr := ⟨5, false, 3, false, true⟩

/-- Prep core 5 alone, running as `c`, takes an operation of slot S0, S1, L, V, F or B. -/
theorem tLone {c : CoreSt} (n : Nat) (h1 : (tRun c).coreRuns 5 = true) (h2 : (tRun c).core 5 = c) (hf : c.stall = .none)
    (hb : c.bundle = []) (hp : c.pend = []) (hs : c.branch = none) (hg : c.guardOk tH = true)
    (hc : c.pc + 4 ≤ (tRun c).codeLen 5) : Lone (tRun c) tH n := by
  have e : (tRun c).core tH.core = c := h2
  exact ⟨h1, by rw [e, hf], by rw [e, hb], by rw [e, hp], by rw [e, hs], rfl, by rw [e, hg], by rw [e]; exact hc, .inl (by decide)⟩

theorem test_lone_any_slot : ∀ n, Lone (tRun tC) tH n := fun n =>
  tLone n (by decide) (by decide) (by decide) (by decide) (by decide) (by decide) (by decide) (by decide)
/-- Service core 0 running its first operation, which its memory protection lets it fetch. -/
def tSv : State :=
  let s := { State.reset with boot := { State.reset.boot with secs := [(5, [])] } }
  let s := (s.setFld Reg.BOOT_STAGE Fld.BOOT_STAGE_STAGE 7).setReg (Reg.SV_MPU_ATTR 0 0) 0x3F
  s.setReg (Reg.SV_MPU_LIMIT 0 0) 1
def tHs : OpHdr := ⟨32, false, 0, false, true⟩
def tSvLone : Bool :=
  tSv.coreRuns 32 && decide ((tSv.core 32).stall = .none) && tSv.mpuAllows 0 (3 * 2 ^ 60) 4 4 && (tSv.core 32).guardOk tHs
theorem test_lone_service_core : tSvLone = true := by decide

theorem test_lane_bounds : (0 < laneCount 3 ∧ 7 < laneCount 3) ∧ 63 < laneCount 0 := by decide
theorem test_moves_operands : Lone (tRun tC) tH 0 ∧ (15 : Fin 16).val ≠ 1 ∧ (15 : Fin 16).val ≠ 2 ∧ (15 : Fin 16).val ≠ 3
    ∧ (1 : Fin 16).val = 1 ∧ (4 : Fin 16).val = 4 ∧ (10 : Fin 16).val = 10 ∧ tH.core.val < 32 :=
  ⟨test_lone_any_slot 0, by decide⟩
theorem test_fp32_operands : Lone (tRun tC) tH 3 ∧ (⟨2, 31, 0, 1⟩ : VArg).lw.val = 2 := ⟨test_lone_any_slot 3, rfl⟩
theorem test_reduction_operands : Lone (tRun tC) tH 3 ∧ (⟨2, 31, 0, 0⟩ : VArg).lw.val = 2 ∧ (⟨2, 31, 0, 0⟩ : VArg).vb.val = 0 :=
  ⟨test_lone_any_slot 3, rfl, rfl⟩
theorem test_convert_operands : Lone (tRun tC) tH 4 ∧ (cvtGroup 0 1).isSome = true ∧ (3#3).toNat < 4 :=
  ⟨test_lone_any_slot 4, by decide, by decide⟩

/-- Prep core 5 with `n` return offsets in hardware and a spill area without room. -/
def tRs (n : Nat) : CoreSt := { tC with rstack := List.replicate n 8 }
theorem test_call_operands : Lone (tRun (tRs 31)) tH 5 ∧ ((tRun (tRs 31)).core 5).rstack.length < 32 :=
  ⟨tLone 5 (by decide) (by decide) (by decide) (by decide) (by decide) (by decide) (by decide) (by decide), by decide⟩
theorem test_ret_operands : Lone (tRun (tRs 1)) tH 5 ∧ ((tRun (tRs 1)).core 5).rstack = [8] ∧ ((tRun (tRs 1)).core 5).spilled = 0 :=
  ⟨tLone 5 (by decide) (by decide) (by decide) (by decide) (by decide) (by decide) (by decide) (by decide), by decide, by decide⟩
theorem test_call_overflow : Lone (tRun (tRs 32)) tH 5 ∧ ((tRun (tRs 32)).core 5).inHandler = false
    ∧ ((tRun (tRs 32)).core 5).tvec.getLsbD 0 = true ∧ 32 ≤ ((tRun (tRs 32)).core 5).rstack.length
    ∧ ((tRun (tRs 32)).core 5).rsLimit ≤ ((tRun (tRs 32)).core 5).rsBase + 64 * ((tRun (tRs 32)).core 5).spilled :=
  ⟨tLone 5 (by decide) (by decide) (by decide) (by decide) (by decide) (by decide) (by decide) (by decide),
    by decide, by decide, by decide, by decide⟩
theorem test_ret_underflow : Lone (tRun tC) tH 5 ∧ ((tRun tC).core 5).inHandler = false
    ∧ ((tRun tC).core 5).tvec.getLsbD 0 = true ∧ ((tRun tC).core 5).rstack = [] :=
  ⟨test_lone_any_slot 5, by decide, by decide, by decide⟩
def tNoVec : CoreSt := { tC with tvec := 8 }
theorem test_trap_without_handler : Lone (tRun tNoVec) tH 5 ∧ tH.core.val < 32 ∧ ((tRun tNoVec).core 5).inHandler = false
    ∧ ((tRun tNoVec).core 5).tvec.getLsbD 0 = false :=
  ⟨tLone 5 (by decide) (by decide) (by decide) (by decide) (by decide) (by decide) (by decide) (by decide),
    by decide, by decide, by decide⟩
def tPost : CoreSt := { tC with posted := [(64, [1])] }
theorem test_fence_outstanding : Lone (tRun tPost) tH 2 ∧ ((tRun tPost).core 5).posted ≠ [] :=
  ⟨tLone 2 (by decide) (by decide) (by decide) (by decide) (by decide) (by decide) (by decide) (by decide), by decide⟩
theorem test_fence_clear : Lone (tRun tC) tH 2 ∧ ((tRun tC).core 5).posted = [] ∧ ((tRun tC).core 5).storeErr = none :=
  ⟨test_lone_any_slot 2, by decide, by decide⟩
def tErr : CoreSt := { tC with storeErr := some (64, 4) }
theorem test_fence_failed : Lone (tRun tErr) tH 2 ∧ ((tRun tErr).core 5).posted = []
    ∧ ((tRun tErr).core 5).storeErr = some (64, 4) ∧ ((tRun tErr).core 5).inHandler = false
    ∧ ((tRun tErr).core 5).tvec.getLsbD 0 = true :=
  ⟨tLone 2 (by decide) (by decide) (by decide) (by decide) (by decide) (by decide) (by decide) (by decide),
    by decide, by decide, by decide, by decide⟩

/-- The state with one command waiting, and the state at a cycle of its orbit. -/
def tWait (c : Instr) : State := { State.reset with pending := [c] }
def tAt (n : Nat) : State := { State.reset with tm := { State.reset.tm with cycle := n } }
theorem test_step_front : (tWait .orbitMark).pending = [.orbitMark] := rfl
theorem test_idle_last_cycle : (tAt 16383).pending = [] ∧ (tAt 16383).pwr.on = true ∧ 16383 ≤ (tAt 16383).tm.cycle := by decide
theorem test_idle_cycle : (tAt 16382).pending = [] ∧ (tAt 16382).pwr.on = true ∧ (tAt 16382).tm.cycle < 16383 := by decide
theorem test_idle_off : ({ State.reset with pwr := { State.reset.pwr with on := false } } : State).pwr.on = false := rfl
theorem test_sound_step : (tWait .orbitMark).Sound := ⟨by decide, by decide⟩
theorem test_table_register : (regAt 0x100000).isSome = true := by decide

/-! The Ephemeris. -/
theorem test_commit_free : State.reset.Live ∧ State.reset.tm.commitDue = none ∧ (1 : Word).getLsbD 0 = true ∧ (tAt 16127).tm.cycle ≤ 16127
    ∧ ¬ (tAt 16128).tm.cycle ≤ 16127 := ⟨test_reset_live, by decide⟩
/-- A commit due at mark `n`, and a write of EPH_MODE that awaits mark `n`. -/
def tDue (n : Nat) : State := { State.reset with tm := { State.reset.tm with commitDue := some n } }
def tMode (n : Nat) : State := { State.reset with tm := { State.reset.tm with modeWrites := [(n, 1)] } }
theorem test_commit_pending : (tDue 1).Live ∧ (tDue 1).tm.commitDue ≠ none ∧ (79 : Fin 256).val < 80 ∧ 128 ≤ (128 : Fin 256).val
    ∧ (tDue 1).orbitN < 1 := ⟨⟨by decide, by decide, by decide⟩, by decide⟩
theorem test_commit_due : (tDue 0).Live ∧ (tDue 0).tm.commitDue = some 0 ∧ 0 ≤ (tDue 0).orbitN :=
  ⟨⟨by decide, by decide, by decide⟩, by decide⟩
theorem test_slot_reserved : 80 ≤ (80 : Fin 256).val ∧ (127 : Fin 256).val < 128 := by decide
theorem test_mode_due : (tMode 0).Live ∧ (tMode 0).tm.modeWrites = [(0, 1)] ∧ 0 ≤ (tMode 0).orbitN :=
  ⟨⟨by decide, by decide, by decide⟩, by decide⟩
theorem test_count_read : State.reset.latch.readHi = [] ∧ State.reset.tm.cycle < 16384 := by decide

/-! Scratch. -/
theorem test_scratch_serves : ScrServes State.reset 15 (.px 1) (12582912 - 64) :=
  ⟨by decide, by decide, by decide, by decide⟩
/-- Cluster 15 initialised, every word zero, without an owner. -/
def tZero : State := { State.reset with scr := { State.reset.scr with fill := [(15, some (0x41, 0))] } }
theorem test_scratch_clean : tZero.scrClean 15 5 := by unfold State.scrClean; decide +kernel
theorem test_scratch_atomic : ScrServes (State.reset.setFld (Reg.SCR_OWN 1 0) Fld.SCR_OWN_OWNER 5) 1 .fill 8 ∧ 8 % 8 = 0 :=
  ⟨⟨by decide, by decide, by decide, by decide⟩, by decide⟩
theorem test_owner_codes : State.reset.Live ∧ State.reset.flag (Reg.SCR_OWN 15 23) Fld.SCR_OWN_PENDING = false
    ∧ 6 ≤ (6 : Word).toNat % 16 ∧ (5 : Word).toNat % 16 < 6
    ∧ (4 : Word).toNat % 16 = State.reset.fld (Reg.SCR_OWN 15 23) Fld.SCR_OWN_OWNER := ⟨test_reset_live, by decide⟩
def tHand : State := State.reset.setFld (Reg.SCR_OWN 15 23) Fld.SCR_OWN_PENDING 1
theorem test_handover : tHand.Live ∧ tHand.flag (Reg.SCR_OWN 15 23) Fld.SCR_OWN_PENDING = true
    ∧ Tab.get (fun _ => []) tHand.scr.waiting (bankKey 15 23) = [] := ⟨⟨by decide, by decide, by decide⟩, by decide⟩
def tInit : State := { State.reset with scr := { State.reset.scr with initBusy := [15] } }
theorem test_init_busy : tInit.Live ∧ tInit.scr.initBusy.contains 15 = true ∧ tInit.pt.eclHalted = [] :=
  ⟨⟨by decide, by decide, by decide⟩, by decide⟩
def tCorr : State := { tZero with scr := { tZero.scr with corrected := [scrWordKey 15 8192] } }
theorem test_corrected : tCorr.Live ∧ 8192 / 8192 = (1 : Fin 24).val ∧ 8192 < 2 ^ 18 ∧ tCorr.scr.corrected = [scrWordKey 15 8192]
    ∧ State.reset.scr.corrected = [] := ⟨⟨by decide, by decide, by decide⟩, by decide⟩
theorem test_corrected_clean : tCorr.scrClean 15 8192 := by unfold State.scrClean; decide +kernel

end Sys2Proof.Tests
end

section
/-! What a command and a tick can answer: an ordinary row keeps the queue and the position in time, a row of the clock or of
power keeps the queue and sets the position. -/

namespace Sys2Proof.Machine

/-! The three answers. -/

/-- An answer completes, and leaves the sender's queue and the position in time. -/
theorem State.answer_spec (s u : State) :
    ∃ t, s.answer u = .next t ∧ t.pending = s.pending ∧ t.tm.orbit = s.tm.orbit ∧ t.tm.cycle = s.tm.cycle :=
  ⟨_, rfl, rfl, rfl, rfl⟩

/-- An answer of the clock completes, and leaves the sender's queue, at the time given. -/
theorem State.answerAt_spec (s u : State) (o : BitVec 48) (n : Nat) :
    ∃ t, s.answerAt u o n = .next t ∧ t.pending = s.pending ∧ t.tm.orbit = o ∧ t.tm.cycle = n :=
  ⟨_, rfl, rfl, rfl, rfl⟩

/-- What a command or a tick answers: it leaves the position in time, or it sets it to a cycle of an orbit (R44, R46). -/
inductive State.Answers (s : State) : Host.Outcome State Fault Refusal → Prop
  | ordinary (u : State) : s.Answers (s.answer u)
  | timed (u : State) (o : BitVec 48) (n : Nat) (hn : n < orbitCycles) : s.Answers (s.answerAt u o n)

/-- A row of power answers as any other row, or restarts the time (R46). -/
theorem State.answerPower_answers (s u : State) : s.Answers (s.answerPower u) := by
  unfold State.answerPower
  split
  · exact .ordinary u
  · exact .timed u 0 0 (by decide)

/-! The rows. -/

/-- The rows that move the orbit counter or the cycle (R44, R46): the clock's own and those of power and removal. -/
def movesTime : Instr → Bool
  | .orbitMark | .slotBoundary _ => true
  | .powerOn | .p48vLow | .powerOff | .thermalTrip | .removalReady => true
  | _ => false

/-- Every other row gives an ordinary answer. -/
theorem exec_eq_answer (c : Instr) (s : State) (h : movesTime c = false) : ∃ u, exec c s = s.answer u := by
  cases c with
  | orbitMark | slotBoundary | powerOn | p48vLow | powerOff | thermalTrip | removalReady => cases h
  | ejectRequest src => cases src <;> exact ⟨_, rfl⟩
  | dmaResume src => cases src <;> exact ⟨_, rfl⟩
  | hawkSubmit f => cases f <;> exact ⟨_, rfl⟩
  | regWrite src a => cases a <;> exact ⟨_, rfl⟩
  | _ => exact ⟨_, rfl⟩

theorem execOrbitMark_answers (s : State) : s.Answers (execOrbitMark s) := by
  unfold execOrbitMark
  split
  · exact .timed _ _ 0 (by decide)
  · exact .ordinary s

/-- The last slot begins at cycle 256 · 63, within the orbit. -/
theorem execSlotBoundary_answers (slot : Fin 64) (s : State) : s.Answers (execSlotBoundary slot s) := by
  have hslot : 256 * slot.val < orbitCycles := by unfold orbitCycles; omega
  unfold execSlotBoundary
  split
  · exact .timed _ _ _ hslot
  · exact .ordinary s

/-- What every command answers. -/
theorem exec_answers (c : Instr) (s : State) : s.Answers (exec c s) := by
  cases hm : movesTime c
  case false =>
    obtain ⟨u, hu⟩ := exec_eq_answer c s hm
    exact hu ▸ .ordinary u
  case true =>
    unfold movesTime at hm
    split at hm
    case h_1 => exact execOrbitMark_answers s
    case h_2 slot => exact execSlotBoundary_answers slot s
    case h_8 => cases hm
    all_goals exact s.answerPower_answers _

/-! The tick of an empty queue. -/

theorem State.tick_of_off (s : State) (h : s.pwr.on = false) : s.tick = s.answer s := by
  simp [State.tick, h]

/-- The last cycle of an orbit is followed by the mark. -/
theorem State.tick_of_lastCycle (s : State) (hon : s.pwr.on = true) (h : 16383 ≤ s.tm.cycle) :
    ∃ u, s.tick = s.answerAt u (s.tm.orbit + 1) 0 := by
  have hc : orbitCycles - 1 ≤ s.tm.cycle := h
  exact ⟨_, by rw [State.tick, if_neg (by simp [hon]), if_pos hc]⟩

theorem State.tick_of_cycle (s : State) (hon : s.pwr.on = true) (h : s.tm.cycle < 16383) :
    ∃ u, s.tick = s.answerAt u s.tm.orbit (s.tm.cycle + 1) := by
  have hc : ¬ orbitCycles - 1 ≤ s.tm.cycle := Nat.not_le.mpr h
  exact ⟨_, by rw [State.tick, if_neg (by simp [hon]), if_neg hc]⟩

/-- What a tick answers. -/
theorem State.tick_answers (s : State) : s.Answers s.tick := by
  cases hon : s.pwr.on
  case false => exact s.tick_of_off hon ▸ .ordinary s
  case true =>
    rcases Nat.lt_or_ge s.tm.cycle 16383 with hc | hc
    · obtain ⟨u, hu⟩ := s.tick_of_cycle hon hc
      exact hu ▸ .timed u _ _ (Nat.succ_lt_succ hc)
    · obtain ⟨u, hu⟩ := s.tick_of_lastCycle hon hc
      exact hu ▸ .timed u _ 0 (by decide)

theorem step_of_empty {s : State} (h : s.pending = []) : step s = s.tick := by
  rw [step, h]

theorem step_of_front {s : State} {c : Instr} {rest : List Instr} (h : s.pending = c :: rest) :
    step s = exec c { s with pending := rest } := by
  rw [step, h]

/-! The soundness of a state. -/

/-- An answer keeps soundness. -/
theorem State.Sound.of_answers {s t : State} {r : Host.Outcome State Fault Refusal} (hs : s.Sound) (hr : s.Answers r)
    (h : r = .next t) : t.Sound := by
  obtain ⟨hcycle, hqueue⟩ := hs
  cases hr with
  | ordinary u =>
    cases h
    exact ⟨hcycle, hqueue⟩
  | timed u o n hn =>
    cases h
    exact ⟨hn, hqueue⟩

/-- Taking the command at the front keeps soundness. -/
theorem State.Sound.rest {s : State} {c : Instr} {rest : List Instr} (hs : s.Sound) (hq : s.pending = c :: rest) :
    State.Sound { s with pending := rest } :=
  ⟨hs.1, fun d hd => hs.2 d (hq ▸ List.mem_cons_of_mem c hd)⟩

/-- Settles O22: a step is a tick, or the front command on the state with the rest of the queue. -/
theorem stepsKeepSound : Obligations.StepsKeepSound := by
  intro s t hs h
  cases hq : s.pending with
  | nil => exact hs.of_answers s.tick_answers (step_of_empty hq ▸ h)
  | cons c rest => exact (hs.rest hq).of_answers (exec_answers c _) (step_of_front hq ▸ h)

/-- Settles O23: at reset the position is cycle 0 and no command waits. -/
theorem resetIsSound : Obligations.ResetIsSound :=
  ⟨by decide, List.forall_mem_nil _⟩

/-- Settles O20, by the three cases of a tick: no power, the last cycle of an orbit, any other cycle. -/
theorem idleStepIsOneCycle : Obligations.IdleStepIsOneCycle := by
  intro s hq
  rw [step_of_empty hq]
  cases hon : s.pwr.on
  case false =>
    obtain ⟨t, ht, hpend, horbit, hcycle⟩ := s.answer_spec s
    exact ⟨t, (s.tick_of_off hon).trans ht, hpend.trans hq, fun _ => ⟨horbit, hcycle⟩, nofun, nofun⟩
  case true =>
    rcases Nat.lt_or_ge s.tm.cycle 16383 with hc | hc
    · obtain ⟨u, hu⟩ := s.tick_of_cycle hon hc
      obtain ⟨t, ht, hpend, horbit, hcycle⟩ := s.answerAt_spec u s.tm.orbit (s.tm.cycle + 1)
      exact ⟨t, hu.trans ht, hpend.trans hq, nofun, fun _ _ => ⟨horbit, hcycle⟩,
        fun _ h => absurd hc (Nat.not_lt.mpr h)⟩
    · obtain ⟨u, hu⟩ := s.tick_of_lastCycle hon hc
      obtain ⟨t, ht, hpend, horbit, hcycle⟩ := s.answerAt_spec u (s.tm.orbit + 1) 0
      exact ⟨t, hu.trans ht, hpend.trans hq, nofun, fun _ h => absurd h (Nat.not_lt.mpr hc),
        fun _ _ => ⟨horbit, hcycle⟩⟩

end Sys2Proof.Machine
end

section
/-! Each field of a listed register holds its reset value at power-on: the fields of a register lie apart within its 32 bits,
so that none is laid over another. -/

namespace Sys2Proof.Machine

/-- Two fields of a word share no bit. -/
def Fld.apart (f g : Fld) : Bool := decide (f.lo + f.width ≤ g.lo) || decide (g.lo + g.width ≤ f.lo)

/-- The fields of a register lie within its 32 bits and apart from each other, and each reset value fits its field. -/
def fieldsFit : List Fld → Bool
  | [] => true
  | f :: fs => decide (f.lo + f.width ≤ 32) && decide (f.rst < 2 ^ f.width) && fs.all f.apart && fieldsFit fs

theorem fieldsFit_cons {f : Fld} {fs : List Fld} (h : fieldsFit (f :: fs) = true) :
    f.lo + f.width ≤ 32 ∧ f.rst < 2 ^ f.width ∧ (∀ g ∈ fs, f.apart g = true) ∧ fieldsFit fs = true := by
  simpa only [fieldsFit, Bool.and_eq_true, decide_eq_true_eq, List.all_eq_true, and_assoc] using h

/-- Fields apart from `f` laid into a word leave `f` as it reads. -/
theorem Fld.get_foldl_put_of_apart (f : Fld) (hf : f.lo + f.width ≤ 32) (fs : List Fld) (w : Word)
    (h : ∀ g ∈ fs, f.apart g = true) : f.get (fs.foldl (fun w g => g.put w g.rst) w) = f.get w := by
  induction fs generalizing w with
  | nil => rfl
  | cons g fs ih =>
    obtain ⟨hg, hfs⟩ := List.forall_mem_cons.mp h
    have hap : f.lo + f.width ≤ g.lo ∨ g.lo + g.width ≤ f.lo := by simpa [Fld.apart] using hg
    rw [List.foldl_cons, ih _ hfs, Fld.get_put_ne g f w g.rst hf hap]

/-- Each of some fitting fields reads its reset value once all are laid into a word. -/
theorem Fld.get_foldl_put_rst (fs : List Fld) (w : Word) (h : fieldsFit fs = true) {f : Fld} (hf : f ∈ fs) :
    f.get (fs.foldl (fun w g => g.put w g.rst) w) = f.rst := by
  induction fs generalizing w with
  | nil => cases hf
  | cons g fs ih =>
    obtain ⟨hg, hrst, hap, hfs⟩ := fieldsFit_cons h
    rw [List.foldl_cons]
    rcases List.mem_cons.mp hf with rfl | hmem
    · rw [Fld.get_foldl_put_of_apart f hg fs _ hap, Fld.get_put f w f.rst hg, Nat.mod_eq_of_lt hrst]
    · exact ih _ hfs hmem

/-! The tables. -/

/-- The rows of a table have fitting fields. -/
def rowsFit (l : List RegRow) : Bool := l.all (fun r => fieldsFit r.flds)

theorem rowsHdr_fit : rowsFit rowsHdr = true := by decide
theorem rowsOrb_fit : rowsFit rowsOrb = true := by decide
theorem rowsPt_fit : rowsFit rowsPt = true := by decide
theorem rowsMf_fit : rowsFit rowsMf = true := by decide
theorem rowsScr_fit : rowsFit rowsScr = true := by decide
theorem rowsCl_fit : rowsFit rowsCl = true := by decide
theorem rowsEth_fit : rowsFit rowsEth = true := by decide
theorem rowsSrmt_fit : rowsFit rowsSrmt = true := by decide
theorem rowsTl_fit : rowsFit rowsTl = true := by decide
theorem rowsDma_fit : rowsFit rowsDma = true := by decide
theorem rowsCph_fit : rowsFit rowsCph = true := by decide
theorem rowsStg_fit : rowsFit rowsStg = true := by decide
theorem rowsCk_fit : rowsFit rowsCk = true := by decide
theorem rowsDbg_fit : rowsFit rowsDbg = true := by decide
theorem rowsFw_fit : rowsFit rowsFw = true := by decide
theorem rowsBoot_fit : rowsFit rowsBoot = true := by decide
theorem rowsVf_fit : rowsFit rowsVf = true := by decide

/-- A block's rows, whichever the block of a key. -/
theorem rowsAt_fit (k : Nat) : rowsFit (rowsAt k) = true := by
  simp only [rowsAt, apply_ite rowsFit, rowsHdr_fit, rowsOrb_fit, rowsPt_fit, rowsMf_fit, rowsScr_fit, rowsCl_fit,
    rowsEth_fit, rowsSrmt_fit, rowsTl_fit, rowsDma_fit, rowsCph_fit, rowsStg_fit, rowsCk_fit, rowsDbg_fit, rowsFw_fit,
    rowsBoot_fit, rowsVf_fit, ite_self]

/-- A register found in a table is a row of it. -/
theorem mem_of_findRow {l : List RegRow} {k : Nat} {r : RegRow} {ix : List Nat} (h : findRow l k = some (r, ix)) :
    r ∈ l := by
  induction l with
  | nil => cases h
  | cons q l ih =>
    rw [findRow] at h
    split at h
    · split at h
      · cases h
        exact List.mem_cons_self
      · exact List.mem_cons_of_mem q (ih h)
    · exact List.mem_cons_of_mem q (ih h)

theorem fieldsFit_of_regAt {k : Nat} {r : RegRow} {ix : List Nat} (h : regAt k = some (r, ix)) :
    fieldsFit r.flds = true :=
  List.all_eq_true.mp (rowsAt_fit k) r (mem_of_findRow h)

theorem regDefault_of_regAt {k : Nat} {r : RegRow} {ix : List Nat} (h : regAt k = some (r, ix)) :
    regDefault k = r.flds.foldl (fun w f => f.put w f.rst) 0 := by
  rw [regDefault, fldsAt, h]

/-- At power-on the register file lists nothing, so each register reads its default. -/
theorem State.reset_fld (k : Nat) (f : Fld) : State.reset.fld k f = f.get (regDefault k) := rfl

/-- Settles O25: the default of a register is its reset values laid into a word, where each field reads its own. -/
theorem resetHoldsTableValues : Obligations.ResetHoldsTableValues := by
  intro k r ix h f hf _
  rw [State.reset_fld, regDefault_of_regAt h]
  exact Fld.get_foldl_put_rst r.flds 0 (fieldsFit_of_regAt h) hf

end Sys2Proof.Machine
end

section
/-! What moves the time (R44–R46): an ordinary row leaves the orbit and the position, a row of the clock sets them, and a row of
power leaves both or restarts them. -/

namespace Sys2Proof.Machine

/-- The time of `t` is the time of `s`. -/
def State.SameTime (s t : State) : Prop := t.tm.orbit = s.tm.orbit ∧ t.tm.cycle = s.tm.cycle

theorem State.answer_sameTime {s u t : State} (h : s.answer u = .next t) : s.SameTime t := by
  cases h
  exact ⟨rfl, rfl⟩

theorem State.answerAt_time {s u t : State} {o : BitVec 48} {n : Nat} (h : s.answerAt u o n = .next t) :
    t.tm.orbit = o ∧ t.tm.cycle = n := by
  cases h
  exact ⟨rfl, rfl⟩

theorem exec_sameTime {c : Instr} {s t : State} (hc : movesTime c = false) (h : exec c s = .next t) : s.SameTime t := by
  obtain ⟨u, hu⟩ := exec_eq_answer c s hc
  exact State.answer_sameTime (hu ▸ h)

/-- A row of power (R46). -/
theorem State.answerPower_time {s u t : State} (h : s.answerPower u = .next t) :
    s.SameTime t ∨ (t.tm.orbit = 0 ∧ t.tm.cycle = 0) := by
  unfold State.answerPower at h
  split at h
  · exact .inl (State.answer_sameTime h)
  · exact .inr (State.answerAt_time h)

/-- The orbit's mark (R44, R45). -/
theorem execOrbitMark_time {s t : State} (h : execOrbitMark s = .next t) :
    if s.pwr.on then t.tm.orbit = s.tm.orbit + 1 ∧ t.tm.cycle = 0 else s.SameTime t := by
  unfold execOrbitMark at h
  split at h
  next hon => simpa only [if_pos hon] using State.answerAt_time h
  next hoff => simpa only [if_neg hoff] using State.answer_sameTime h

/-- The boundary of a slot that has not passed (log entry 10). -/
theorem execSlotBoundary_time {n : Fin 64} {s t : State} (h : execSlotBoundary n s = .next t) :
    if s.pwr.on && decide (s.tm.cycle ≤ 256 * n.val) then t.tm.orbit = s.tm.orbit ∧ t.tm.cycle = 256 * n.val
    else s.SameTime t := by
  unfold execSlotBoundary at h
  split at h
  next hahead => simpa only [if_pos hahead] using State.answerAt_time h
  next hpassed => simpa only [if_neg hpassed] using State.answer_sameTime h

/-- Settles O24, by the rows: the clock's, those of power and removal, and every other. -/
theorem timeMovesByMarks : Obligations.TimeMovesByMarks := by
  intro c s t h
  cases c with
  | orbitMark => exact execOrbitMark_time h
  | slotBoundary n => exact execSlotBoundary_time h
  | powerOn | p48vLow | powerOff | thermalTrip | removalReady => exact State.answerPower_time h
  | _ => exact exec_sameTime rfl h

end Sys2Proof.Machine
end

section
/-! The commit of the Ephemeris (R60, R61): what each write does with a commit pending or free, and what the copy at the mark
leaves in the registers. -/

namespace Sys2Proof.Machine

/-- A row whose effect is a state up to what is kept account of, at the same time, leaves that state. -/
theorem leaves_of_answer {i : Instr} {s u t : State} (hi : exec i s = s.answer t) (h : Logged u t)
    (hp : u.pending = s.pending) (ht : s.SameTime u) : Leaves i s u := by
  obtain ⟨r, hr, hl⟩ := h.answer hp ht.1 ht.2
  exact ⟨r, hi.trans hr, hl⟩

/-! The rows of the Ephemeris in a live die. -/

theorem exec_ephCommit {s : State} (hs : s.Live) (src : Src) (v : Word) :
    exec (.ephCommit src v) s = s.answer (s.ephCommit src v) := congrArg s.answer (hs.host _ _ _ _)

theorem exec_ephSlotWrite {s : State} (hs : s.Live) (src : Src) (n : Fin 256) (v : Word) :
    exec (.ephSlotWrite src n v) s = s.answer (s.ephSlotWrite src n v) := congrArg s.answer (hs.host _ _ _ _)

theorem exec_ephModeWrite {s : State} (hs : s.Live) (src : Src) (v : Word) :
    exec (.ephModeWrite src v) s = s.answer (s.ephModeWrite src v) := congrArg s.answer (hs.host _ _ _ _)

/-- No Eclipse and no stop puts an effect off (R594, R638). -/
theorem State.Live.markReached {s : State} (hs : s.Live) (due : Nat) : s.markReached due = decide (due ≤ s.orbitN) := by
  simp only [State.markReached, hs.open_, Bool.not_false, Bool.and_true]

/-! The writes. -/

/-- The state with a commit scheduled for a mark (R60, R61). -/
def State.commitAt (s : State) (due : Nat) : State :=
  ({ s with tm := { s.tm with commitDue := some due } }).setFld Reg.EPH_STATUS Fld.EPH_STATUS_COMMIT_PENDING 1

theorem State.ephCommit_of_free {s : State} {v : Word} (hv : v.getLsbD 0 = true) (hd : s.tm.commitDue = none) (src : Src) :
    s.ephCommit src v = (s.commitAt s.markDue).journal src Reg.EPH_CTRL 0 v false s.markDue := by
  simp [State.ephCommit, State.commitAt, hv, hd]

theorem State.ephCommit_of_pending {s : State} (hd : s.tm.commitDue.isSome = true) (src : Src) (v : Word) :
    s.ephCommit src v = s.journal src Reg.EPH_CTRL 0 v true s.orbitN := by
  simp [State.ephCommit, hd]

theorem State.ephSlotWrite_of_pending {s : State} {n : Nat} (hd : s.tm.commitDue.isSome = true) (hn : n < 80 ∨ 128 ≤ n)
    (src : Src) (v : Word) :
    s.ephSlotWrite src n v = (s.setFld Reg.EPH_STATUS Fld.EPH_STATUS_WRITE_DROPPED 1).journal src (Reg.EPH_SLOT n)
      (ephView n (s.reg (Reg.EPH_SLOT n))) v true s.orbitN := by
  have hr : ¬ ephReserved n = true := by simp only [ephReserved, Bool.and_eq_true, decide_eq_true_eq]; omega
  rw [State.ephSlotWrite, if_neg hr, if_pos hd]

theorem State.ephModeWrite_of_pending {s : State} (hd : s.tm.commitDue.isSome = true) (src : Src) (v : Word) :
    s.ephModeWrite src v = (s.setFld Reg.EPH_STATUS Fld.EPH_STATUS_WRITE_DROPPED 1).journal src Reg.EPH_MODE
      (s.reg Reg.EPH_MODE) v true s.orbitN := by
  rw [State.ephModeWrite, if_pos hd]

/-! The copy of the shadow table. -/

/-- One register of the shadow table copied. -/
def State.ephCopyOne (s : State) (n : Nat) : State := s.setReg (Reg.EPH_ACTIVE n) (ephView n (s.reg (Reg.EPH_SLOT n)))

/-- The first `m` registers of the shadow table copied. -/
def State.ephCopyTo (s : State) (m : Nat) : State := (List.range m).foldl State.ephCopyOne s

theorem State.ephCopy_eq (s : State) : s.ephCopy = s.ephCopyTo 256 := rfl

theorem State.ephCopyTo_succ (s : State) (m : Nat) : s.ephCopyTo (m + 1) = (s.ephCopyTo m).ephCopyOne m := by
  simp only [State.ephCopyTo, List.range_succ, List.foldl_append, List.foldl_cons, List.foldl_nil]

theorem State.ephCopyTo_tm (s : State) (m : Nat) : (s.ephCopyTo m).tm = s.tm := by
  induction m with
  | zero => rfl
  | succ m ih => rw [State.ephCopyTo_succ, State.ephCopyOne, State.setReg_tm, ih]

@[simp] theorem State.ephCopy_tm (s : State) : s.ephCopy.tm = s.tm := s.ephCopyTo_tm 256

/-- Registers below the active copy stay as they are. -/
theorem State.ephCopyTo_reg_of_lt (s : State) (m : Nat) {k : Nat} (hk : k < Reg.EPH_ACTIVE 0) :
    (s.ephCopyTo m).reg k = s.reg k := by
  induction m with
  | zero => rfl
  | succ m ih =>
    have hne : k ≠ Reg.EPH_ACTIVE m := by simp only [Reg.EPH_ACTIVE] at hk ⊢; omega
    rw [State.ephCopyTo_succ, State.ephCopyOne, State.reg_setReg_ne _ _ hne, ih]

/-- The shadow table lies below the active copy. -/
theorem ephSlot_lt_active {n : Nat} (hn : n < 256) : Reg.EPH_SLOT n < Reg.EPH_ACTIVE 0 := by
  simp only [Reg.EPH_SLOT, Reg.EPH_ACTIVE]
  omega

theorem State.ephCopyTo_active (s : State) {m n : Nat} (hm : m ≤ 256) (hn : n < m) :
    (s.ephCopyTo m).reg (Reg.EPH_ACTIVE n) = ephView n (s.reg (Reg.EPH_SLOT n)) := by
  induction m with
  | zero => exact absurd hn (Nat.not_lt_zero n)
  | succ m ih =>
    rw [State.ephCopyTo_succ, State.ephCopyOne]
    rcases Nat.lt_succ_iff_lt_or_eq.mp hn with hlt | rfl
    · have hne : Reg.EPH_ACTIVE n ≠ Reg.EPH_ACTIVE m := by simp only [Reg.EPH_ACTIVE]; omega
      rw [State.reg_setReg_ne _ _ hne, ih (Nat.le_of_succ_le hm) hlt]
    · rw [State.reg_setReg_same, State.ephCopyTo_reg_of_lt s n (ephSlot_lt_active hm)]

/-! What follows a commit that takes effect (R65, R665). -/

@[simp] theorem State.evalBadCode_tm (s : State) : s.evalBadCode.tm = s.tm := by
  unfold State.evalBadCode
  split <;> rfl

theorem State.evalBadCode_reg_ne (s : State) {k : Nat} (hk : k ≠ Reg.EPH_STATUS) : s.evalBadCode.reg k = s.reg k := by
  unfold State.evalBadCode
  split
  · exact State.reg_setFld_ne _ _ _ hk
  · rfl

theorem State.evalBadCode_commitPending (s : State) :
    s.evalBadCode.fld Reg.EPH_STATUS Fld.EPH_STATUS_COMMIT_PENDING = s.fld Reg.EPH_STATUS Fld.EPH_STATUS_COMMIT_PENDING := by
  unfold State.evalBadCode
  split
  · exact State.fld_setFld_other _ _ _ _ _ (by decide) (by decide)
  · rfl

@[simp] theorem State.recomputeC0_tm (s : State) : s.recomputeC0.tm = s.tm := rfl

theorem State.recomputeC0_reg_ne (s : State) {k : Nat} (hk : k ≠ Reg.EPH_C0_OK) : s.recomputeC0.reg k = s.reg k :=
  State.reg_setFld_ne _ _ _ hk

/-- The state with its pending commit taken off (R61). -/
def State.commitDone (s : State) : State :=
  ({ s with tm := { s.tm with commitDue := none } }).setFld Reg.EPH_STATUS Fld.EPH_STATUS_COMMIT_PENDING 0

/-- The state after the switch to the shadow table, with what the sled evaluates anew (R60, R65, R665). -/
def State.switched (s : State) : State :=
  (s.commitDone.ephCopy.setReg64 Reg.EPH_COMMIT_ORBIT_LO Reg.EPH_COMMIT_ORBIT_HI s.orbitN).evalBadCode.recomputeC0

theorem State.ephCommitEffect_of_reached {s : State} {due : Nat} (hd : s.tm.commitDue = some due)
    (hr : s.markReached due = true) : s.ephCommitEffect = s.switched := by
  simp only [State.ephCommitEffect, hd, hr, if_true]
  rfl

theorem State.ephCommitEffect_of_not_reached {s : State} {due : Nat} (hd : s.tm.commitDue = some due)
    (hr : s.markReached due = false) : s.ephCommitEffect = s := by
  simp only [State.ephCommitEffect, hd, hr, Bool.false_eq_true, if_false]

theorem State.switched_commitDue (s : State) : s.switched.tm.commitDue = none := by
  simp [State.switched, State.commitDone]

/-- The switch and what follows it write their own registers only. -/
theorem State.switched_reg (s : State) {k : Nat} (h0 : k ≠ Reg.EPH_C0_OK) (h1 : k ≠ Reg.EPH_STATUS)
    (hlo : k ≠ Reg.EPH_COMMIT_ORBIT_LO) (hhi : k ≠ Reg.EPH_COMMIT_ORBIT_HI) :
    s.switched.reg k = s.commitDone.ephCopy.reg k := by
  rw [State.switched, State.recomputeC0_reg_ne _ h0, State.evalBadCode_reg_ne _ h1, State.reg_setReg64_ne _ _ hlo hhi]

theorem State.switched_active (s : State) {m : Nat} (hm : m < 256) :
    s.switched.reg (Reg.EPH_ACTIVE m) = ephView m (s.reg (Reg.EPH_SLOT m)) := by
  have above (k : Nat) (hk : k < Reg.EPH_ACTIVE 0) : Reg.EPH_ACTIVE m ≠ k := by
    simp only [Reg.EPH_ACTIVE] at hk ⊢
    omega
  have hslot : Reg.EPH_SLOT m ≠ Reg.EPH_STATUS := by
    simp only [Reg.EPH_SLOT, Reg.EPH_STATUS]
    omega
  rw [State.switched_reg s (above _ (by decide)) (above _ (by decide)) (above _ (by decide)) (above _ (by decide)),
    State.ephCopy_eq, State.ephCopyTo_active _ (Nat.le_refl 256) hm, State.commitDone, State.reg_setFld_ne _ _ _ hslot]
  rfl

theorem State.switched_commitPending (s : State) :
    s.switched.fld Reg.EPH_STATUS Fld.EPH_STATUS_COMMIT_PENDING = 0 := by
  have hcopied : s.switched.fld Reg.EPH_STATUS Fld.EPH_STATUS_COMMIT_PENDING
      = s.commitDone.ephCopy.fld Reg.EPH_STATUS Fld.EPH_STATUS_COMMIT_PENDING := by
    rw [State.switched, State.fld, State.recomputeC0_reg_ne _ (by decide), ← State.fld, State.evalBadCode_commitPending,
      State.fld, State.reg_setReg64_ne _ _ (by decide) (by decide), ← State.fld]
  rw [hcopied, State.fld, State.ephCopy_eq, State.ephCopyTo_reg_of_lt _ _ (by decide), ← State.fld, State.commitDone,
    State.fld_setFld_same _ _ _ _ (by decide), Nat.zero_mod]

/-- Settles O27: a commit of a free table, the three writes with a commit pending, and the effect before and from its mark. -/
theorem ephemerisCommit : Obligations.EphemerisCommit := by
  intro s src v n hs
  refine ⟨fun hv hd => ?_, fun hd => ?_, fun due hd => ⟨fun hbefore => ?_, fun hmark => ?_⟩⟩
  · refine leaves_of_answer (exec_ephCommit hs src v) ?_ rfl ⟨rfl, rfl⟩
    rw [State.ephCommit_of_free hv hd]
    exact (Logged.refl _).journal _ _ _ _ _ _
  · have hd := Option.isSome_iff_ne_none.mpr hd
    refine ⟨leaves_of_answer (exec_ephCommit hs src v) ?_ rfl ⟨rfl, rfl⟩,
      fun hn => leaves_of_answer (exec_ephSlotWrite hs src n v) ?_ rfl ⟨rfl, rfl⟩,
      leaves_of_answer (exec_ephModeWrite hs src v) ?_ rfl ⟨rfl, rfl⟩⟩
    · exact State.ephCommit_of_pending hd src v ▸ (Logged.refl s).journal _ _ _ _ _ _
    · exact State.ephSlotWrite_of_pending hd hn src v ▸ (Logged.refl _).journal _ _ _ _ _ _
    · exact State.ephModeWrite_of_pending hd src v ▸ (Logged.refl _).journal _ _ _ _ _ _
  · have hr : s.markReached due = false := (hs.markReached due).trans (decide_eq_false (Nat.not_le.mpr hbefore))
    refine leaves_of_answer (t := s.ephCommitEffect) rfl ?_ rfl ⟨rfl, rfl⟩
    exact (State.ephCommitEffect_of_not_reached hd hr).symm ▸ Logged.refl s
  · have hr : s.markReached due = true := (hs.markReached due).trans (decide_eq_true hmark)
    have hexec : exec .ephCommitEffect s = s.answer s.switched :=
      congrArg s.answer (State.ephCommitEffect_of_reached hd hr)
    exact ⟨_, hexec, s.switched_commitDue, s.switched_commitPending, fun m hm => s.switched_active hm⟩

end Sys2Proof.Machine
end

section
/-! The byte stores: DRAM (R75), scratch (R111) and the SRAM of the service cores (R557) read back what is stored, and their
other bytes stay. The three are one table of bytes, each with its own reading of the unlisted ones. -/

namespace Sys2Proof.Machine

/-- `n` bytes of a table from a key. -/
def Tab.bytesAt (d : Nat → Byte) (t : List Host.Cell) (a n : Nat) : Bytes := (List.range n).map (fun i => Tab.get d t (a + i))

/-- Bytes put into a table from a key. -/
def Tab.storeAt (d : Nat → Byte) (t : List Host.Cell) (a : Nat) : Bytes → List Host.Cell
  | [] => t
  | b :: l => Tab.storeAt d (Tab.set d t a b) (a + 1) l

theorem Tab.get_storeAt_outside (d : Nat → Byte) (l : Bytes) (t : List Host.Cell) (a : Nat) {k : Nat}
    (h : k < a ∨ a + l.length ≤ k) : Tab.get d (Tab.storeAt d t a l) k = Tab.get d t k := by
  induction l generalizing t a with
  | nil => rfl
  | cons b l ih =>
    rw [List.length_cons] at h
    rw [Tab.storeAt, ih _ _ (by omega), Tab.get_set_ne _ _ _ (by omega)]

theorem Tab.get_storeAt_inside (d : Nat → Byte) (l : Bytes) (t : List Host.Cell) (a i : Nat) (h : i < l.length) :
    Tab.get d (Tab.storeAt d t a l) (a + i) = l[i] := by
  induction l generalizing t a i with
  | nil => exact absurd h (Nat.not_lt_zero i)
  | cons b l ih =>
    cases i with
    | zero => rw [Tab.storeAt, Tab.get_storeAt_outside _ _ _ _ (.inl (by omega)), Nat.add_zero, Tab.get_set_same]; rfl
    | succ i =>
      rw [Tab.storeAt, show a + (i + 1) = a + 1 + i by omega, ih _ _ _ (Nat.lt_of_succ_lt_succ h)]
      rfl

@[simp] theorem Tab.bytesAt_length (d : Nat → Byte) (t : List Host.Cell) (a n : Nat) : (Tab.bytesAt d t a n).length = n := by
  simp [Tab.bytesAt]

/-- Stored bytes read back. -/
theorem Tab.bytesAt_storeAt_same (d : Nat → Byte) (t : List Host.Cell) (a : Nat) (l : Bytes) :
    Tab.bytesAt d (Tab.storeAt d t a l) a l.length = l := by
  refine List.ext_getElem (Tab.bytesAt_length _ _ _ _) (fun i _ h => ?_)
  simp only [Tab.bytesAt, List.getElem_map, List.getElem_range]
  exact Tab.get_storeAt_inside d l t a i h

/-- Bytes apart from the stored ones read as before. -/
theorem Tab.bytesAt_storeAt_apart (d : Nat → Byte) (t : List Host.Cell) (a b n : Nat) (l : Bytes)
    (h : b + n ≤ a ∨ a + l.length ≤ b) : Tab.bytesAt d (Tab.storeAt d t a l) b n = Tab.bytesAt d t b n := by
  refine List.map_congr_left (fun i hi => ?_)
  have hi := List.mem_range.mp hi
  exact Tab.get_storeAt_outside d l t a (by omega)

/-! The three stores are this table. -/

theorem FabSt.store_eq (l : Bytes) (m : FabSt) (a : Nat) :
    m.store a l = { m with cells := Tab.storeAt (memDefault m.fill) m.cells a l } := by
  induction l generalizing m a with
  | nil => rfl
  | cons b l ih => exact ih _ _

theorem ScrSt.store_eq (l : Bytes) (m : ScrSt) (a : Nat) :
    m.store a l = { m with cells := Tab.storeAt (scrDefault m.fill) m.cells a l } := by
  induction l generalizing m a with
  | nil => rfl
  | cons b l ih => exact ih _ _

theorem sramStore_eq (l : Bytes) (t : List Host.Cell) (a : Nat) :
    sramStore t a l = Tab.storeAt (fun _ => 0) t a l := by
  induction l generalizing t a with
  | nil => rfl
  | cons b l ih => exact ih _ _

@[simp] theorem FabSt.bytes_length (m : FabSt) (a n : Nat) : (m.bytes a n).length = n := Tab.bytesAt_length _ _ _ _

theorem FabSt.bytes_store_same (m : FabSt) (a : Nat) (l : Bytes) : (m.store a l).bytes a l.length = l := by
  rw [FabSt.store_eq]
  exact Tab.bytesAt_storeAt_same _ _ _ _

theorem FabSt.bytes_store_of_length (m : FabSt) {l : Bytes} {n : Nat} (h : l.length = n) (a : Nat) :
    (m.store a l).bytes a n = l := by
  subst h
  exact m.bytes_store_same a l

theorem FabSt.bytes_store_apart (m : FabSt) {a b n : Nat} {l : Bytes} (h : b + n ≤ a ∨ a + l.length ≤ b) :
    (m.store a l).bytes b n = m.bytes b n := by
  rw [FabSt.store_eq]
  exact Tab.bytesAt_storeAt_apart _ _ _ _ _ _ h

theorem ScrSt.bytes_store_same (m : ScrSt) (a : Nat) (l : Bytes) : (m.store a l).bytes a l.length = l := by
  rw [ScrSt.store_eq]
  exact Tab.bytesAt_storeAt_same _ _ _ _

theorem ScrSt.bytes_store_apart (m : ScrSt) {a b n : Nat} {l : Bytes} (h : b + n ≤ a ∨ a + l.length ≤ b) :
    (m.store a l).bytes b n = m.bytes b n := by
  rw [ScrSt.store_eq]
  exact Tab.bytesAt_storeAt_apart _ _ _ _ _ _ h

theorem sramBytes_store_same (t : List Host.Cell) (a : Nat) (l : Bytes) : sramBytes (sramStore t a l) a l.length = l := by
  rw [sramStore_eq]
  exact Tab.bytesAt_storeAt_same _ _ _ _

theorem sramBytes_store_apart (t : List Host.Cell) {a b n : Nat} {l : Bytes} (h : b + n ≤ a ∨ a + l.length ≤ b) :
    sramBytes (sramStore t a l) b n = sramBytes t b n := by
  rw [sramStore_eq]
  exact Tab.bytesAt_storeAt_apart _ _ _ _ _ _ h

@[simp] theorem FabSt.store_fill (m : FabSt) (a : Nat) (l : Bytes) : (m.store a l).fill = m.fill := (FabSt.store_wf l m a).1

@[simp] theorem ScrSt.store_fill (m : ScrSt) (a : Nat) (l : Bytes) : (m.store a l).fill = m.fill := (ScrSt.store_wf l m a).1

/-- Settles O26: each store is a table of bytes, which reads back and stays canonical. -/
theorem storesReadBack : Obligations.StoresReadBack := by
  intro a b n d
  refine ⟨fun m => ⟨m.bytes_store_same a d, m.bytes_store_apart, fun w => ?_⟩,
    fun m => ⟨m.bytes_store_same a d, m.bytes_store_apart, fun w => ?_⟩,
    fun t => ⟨sramBytes_store_same t a d, sramBytes_store_apart t, sramStore_wf d t a⟩⟩
  · exact m.store_fill a d ▸ (FabSt.store_wf d m a).2 w
  · exact m.store_fill a d ▸ (ScrSt.store_wf d m a).2 w

end Sys2Proof.Machine
end

section
/-! The line check code (R88–R92): a codeword as it is encoded has syndromes of zero, so that a line decodes clean under the
owner and epoch that it was encoded under. -/

namespace Sys2Proof.Machine

/-! The syndromes of an encoded word. -/

theorem gfDouble_xor (a b : Byte) : gfDouble (a ^^^ b) = gfDouble a ^^^ gfDouble b := by
  simp only [gfDouble, BitVec.getLsbD_xor, BitVec.shiftLeft_xor_distrib]
  cases a.getLsbD 7 <;> cases b.getLsbD 7 <;>
    simp only [Bool.xor_false, Bool.xor_true, Bool.not_false, Bool.not_true, Bool.false_eq_true, if_false, if_true]
  · ac_rfl
  · ac_rfl
  · rw [BitVec.xor_assoc, BitVec.xor_comm (b <<< 1), ← BitVec.xor_assoc 0x1D, BitVec.xor_self, BitVec.zero_xor]

/-! The generator's coefficients (R88) as sums of powers of α. -/

theorem gfMul_64 : ∀ f : Byte, gfMul 64 f = gfDouble (gfDouble (gfDouble (gfDouble (gfDouble (gfDouble f))))) := by decide

theorem gfMul_120 : ∀ f : Byte, gfMul 120 f
    = gfDouble (gfDouble (gfDouble (f ^^^ gfDouble (f ^^^ gfDouble (f ^^^ gfDouble f))))) := by decide

theorem gfMul_54 : ∀ f : Byte, gfMul 54 f
    = gfDouble (f ^^^ gfDouble (f ^^^ gfDouble (gfDouble (f ^^^ gfDouble f)))) := by decide

theorem gfMul_15 : ∀ f : Byte, gfMul 15 f = f ^^^ gfDouble (f ^^^ gfDouble (f ^^^ gfDouble f)) := by decide

theorem byte_xor_left_comm (a b c : Byte) : a ^^^ (b ^^^ c) = b ^^^ (a ^^^ c) := by ac_rfl

theorem byte_xor_cancel (a b : Byte) : a ^^^ (a ^^^ b) = b := by rw [← BitVec.xor_assoc, BitVec.xor_self, BitVec.zero_xor]

/-- Multiplication by a root of the generator polynomial (R88): it is additive, and the polynomial vanishes there. -/
structure CodeRoot (D : Byte → Byte) : Prop where
  add : ∀ a b, D (a ^^^ b) = D a ^^^ D b
  root : ∀ f, gfMul 64 f ^^^ D (gfMul 120 f ^^^ D (gfMul 54 f ^^^ D (gfMul 15 f))) = D (D (D (D f)))

/-- The four roots are the powers 0 to 3 of α: written out in powers of α, each sum cancels in pairs. -/
theorem codeRoots : CodeRoot (fun v => v) ∧ CodeRoot gfDouble ∧ CodeRoot (fun v => gfDouble (gfDouble v))
    ∧ CodeRoot (fun v => gfDouble (gfDouble (gfDouble v))) := by
  refine ⟨⟨fun _ _ => rfl, fun f => ?_⟩, ⟨gfDouble_xor, fun f => ?_⟩,
    ⟨fun a b => by simp only [gfDouble_xor], fun f => ?_⟩, ⟨fun a b => by simp only [gfDouble_xor], fun f => ?_⟩⟩
  all_goals
    simp only [gfMul_64, gfMul_120, gfMul_54, gfMul_15, gfDouble_xor, BitVec.xor_assoc, BitVec.xor_comm, byte_xor_left_comm,
      byte_xor_cancel, BitVec.xor_self, BitVec.xor_zero, BitVec.zero_xor]

/-- A word's polynomial evaluated by Horner's rule, the first symbol lowest. -/
def wordEval (D : Byte → Byte) (w : Bytes) : Byte := w.foldr (fun c v => D v ^^^ c) 0

theorem rsSyn_eq (w : Bytes) :
    rsSyn w = ⟨wordEval (fun v => v) w, wordEval gfDouble w, wordEval (fun v => gfDouble (gfDouble v)) w,
      wordEval (fun v => gfDouble (gfDouble (gfDouble v))) w⟩ := by
  induction w with
  | nil => rfl
  | cons c w ih =>
    simp only [rsSyn, List.foldr_cons] at ih ⊢
    rw [ih]
    rfl

/-- The remainder of a message, as the four check symbols hold it. -/
def msgRem (msg : Bytes) : Rem4 := msg.foldr rsStep ⟨0, 0, 0, 0⟩

/-- At a root, the message shifted past the check symbols has the value of its remainder. -/
theorem CodeRoot.eval_msgRem {D : Byte → Byte} (h : CodeRoot D) (msg : Bytes) :
    D (D (D (D (wordEval D msg)))) = (msgRem msg).r0 ^^^ D ((msgRem msg).r1 ^^^ D ((msgRem msg).r2 ^^^ D (msgRem msg).r3)) := by
  induction msg with
  | nil =>
    have hzero : D 0#8 = 0#8 := by simpa using h.add 0 0
    show D (D (D (D 0#8))) = 0#8 ^^^ D (0#8 ^^^ D (0#8 ^^^ D 0#8))
    simp only [hzero, BitVec.xor_self]
  | cons m msg ih =>
    have heval : wordEval D (m :: msg) = D (wordEval D msg) ^^^ m := rfl
    have hrem : msgRem (m :: msg) = rsStep m (msgRem msg) := rfl
    have hroot := h.root (m ^^^ (msgRem msg).r3)
    rw [heval, hrem]
    simp only [rsStep, h.add] at ih hroot ⊢
    rw [ih]
    simp only [h.add, BitVec.xor_assoc] at hroot ⊢
    calc _ = D (msgRem msg).r0 ^^^ (D (D (msgRem msg).r1) ^^^ (D (D (D (msgRem msg).r2)) ^^^
            (D (D (D (D m))) ^^^ D (D (D (D (msgRem msg).r3)))))) := by ac_rfl
      _ = _ := by rw [← hroot]; ac_rfl

@[simp] theorem rsCheck_length (msg : Bytes) : (rsCheck msg).length = 4 := rfl

/-- The codeword of a message vanishes at a root. -/
theorem CodeRoot.eval_encoded {D : Byte → Byte} (h : CodeRoot D) (msg : Bytes) : wordEval D (rsCheck msg ++ msg) = 0 := by
  have hmsg := h.eval_msgRem msg
  simp only [h.add] at hmsg
  have hword : wordEval D (rsCheck msg ++ msg)
      = D (D (D (D (wordEval D msg) ^^^ (msgRem msg).r3) ^^^ (msgRem msg).r2) ^^^ (msgRem msg).r1) ^^^ (msgRem msg).r0 := rfl
  rw [hword]
  simp only [h.add]
  calc _ = D (D (D (D (wordEval D msg)))) ^^^ ((msgRem msg).r0 ^^^ (D (msgRem msg).r1 ^^^ (D (D (msgRem msg).r2) ^^^
          D (D (D (msgRem msg).r3))))) := by ac_rfl
    _ = 0 := by rw [hmsg, BitVec.xor_self]; rfl

/-- An encoded word has syndromes of zero. -/
theorem rsSyn_encoded (msg : Bytes) : rsSyn (rsCheck msg ++ msg) = ⟨0, 0, 0, 0⟩ := by
  obtain ⟨h0, h1, h2, h3⟩ := codeRoots
  rw [rsSyn_eq, h0.eval_encoded, h1.eval_encoded, h2.eval_encoded, h3.eval_encoded]

theorem rsDecode_encoded (n : Nat) (msg : Bytes) : rsDecode n (rsCheck msg ++ msg) = .clean := by
  simp only [rsDecode, rsSyn_encoded, if_true]

/-! Lines and check lines. -/

@[simp] theorem lineCheck_length (data : Bytes) (o e : Byte) : (lineCheck data o e).length = 4 := rfl

/-- A data line under the check symbols encoded for it decodes clean. -/
theorem lineDecode_lineCheck (data : Bytes) (o e : Byte) : lineDecode (lineCheck data o e) data o e = (.clean, data) := by
  have hclean : rsDecode 68 (lineWord (lineCheck data o e) data o e) = .clean := by
    rw [lineWord, List.append_assoc]
    exact rsDecode_encoded 68 _
  simp only [lineDecode, hclean]

/-- A line that decodes clean returns the data as stored. -/
theorem lineDecode_clean {chk data out : Bytes} {o e : Byte} (h : lineDecode chk data o e = (.clean, out)) : out = data := by
  unfold lineDecode at h
  dsimp only at h
  split at h
  next hd => rw [hd] at h; cases h
  next => exact (Prod.ext_iff.mp h).2.symm

/-- A sealed check line decodes clean. -/
theorem checkDecode_checkSeal {cl : Bytes} (h : 60 ≤ cl.length) (o e : Byte) :
    checkDecode (checkSeal cl o e) o e = (.clean, checkSeal cl o e) := by
  have htake : (cl.take 60).length = 60 := by simpa using h
  have hclean : rsDecode 64 ((checkSeal cl o e).drop 60 ++ (checkSeal cl o e).take 60 ++ [o, e]) = .clean := by
    rw [checkSeal, List.drop_left' htake, List.take_left' htake, List.append_assoc]
    exact rsDecode_encoded 64 _
  simp only [checkDecode, hclean]

theorem checkDecode_length (cl : Bytes) (o e : Byte) : (checkDecode cl o e).2.length = cl.length := by
  unfold checkDecode
  dsimp only
  split
  · exact List.length_modify _ _ _
  · rfl

theorem checkSeal_length {cl : Bytes} (h : 60 ≤ cl.length) (o e : Byte) : (checkSeal cl o e).length = 64 := by
  simp [checkSeal, h]

/-- Laying bytes over others that reach as far replaces them. -/
theorem overlay_eq {b d : Bytes} {off : Nat} (h : off + d.length ≤ b.length) :
    overlay b off d = b.take off ++ d ++ b.drop (off + d.length) := by
  rw [overlay, List.take_of_length_le]
  simp only [List.length_append, List.length_take, List.length_drop]
  omega

theorem overlay_length {b d : Bytes} {off : Nat} (h : off + d.length ≤ b.length) : (overlay b off d).length = b.length := by
  rw [overlay_eq h]
  simp only [List.length_append, List.length_take, List.length_drop]
  omega

/-- The slice of a string that stands between two others. -/
theorem slice_append {a b : Bytes} {off n : Nat} (ha : a.length = off) (hb : b.length = n) (c : Bytes) :
    slice (a ++ b ++ c) off n = b := by
  subst ha hb
  simp [slice]

/-- The check symbols of line `k` read from a sealed check line. -/
theorem slice_checkSeal_overlay {cl c : Bytes} {k : Nat} (hcl : cl.length = 64) (hc : c.length = 4) (hk : k < 15) (o e : Byte) :
    slice (checkSeal (overlay cl (4 * k) c) o e) (4 * k) 4 = c := by
  have hbefore : (cl.take (4 * k)).length = 4 * k := by simp only [List.length_take]; omega
  have hfirst : (cl.take (4 * k) ++ c).length ≤ 60 := by simp only [List.length_append]; omega
  rw [checkSeal, overlay_eq (by omega), List.take_append, List.take_of_length_le hfirst, List.append_assoc _ (List.take _ _)]
  exact slice_append hbefore hc _

end Sys2Proof.Machine
end

section
/-! Line requests by device physical address (R74, R77): what they resolve to, those that name no line, and the tracker. -/

namespace Sys2Proof.Machine

/-- A row whose answer is a state completes with what holds of that state, its queue and its time aside. -/
theorem completes_of_answer {i : Instr} {s t : State} {P : State → Prop} (hi : exec i s = s.answer t)
    (h : P { t with pending := s.pending, tm := { t.tm with orbit := s.tm.orbit, cycle := s.tm.cycle } }) : Completes i s P :=
  ⟨_, hi, h⟩

/-! What an address resolves to. -/

/-- A device physical address whose channel is none, or a spare not in service (R77). -/
def State.NoChannel (s : State) (a : Nat) : Prop :=
  let ch := a / 2 ^ 33 % 2 ^ 9
  a / 2 ^ 42 ≠ 0 ∨ 279 < ch ∨ (264 ≤ ch ∧ s.flag (Reg.MF_SPARE_MAP (ch - 264)) Fld.MF_SPARE_MAP_VALID = false)

theorem State.dpaStatus_of_noChannel {s : State} {a : Nat} (h : s.NoChannel a) : s.dpaStatus a = some .outOfRange :=
  if_pos (by simpa [State.spareValid, or_assoc, State.NoChannel] using h)

theorem State.dpaStatus_of_channel {s : State} {a : Nat} (h : ¬ s.NoChannel a) :
    s.dpaStatus a = if a / 64 % 16 = 15 then some .checkLineAddress else none :=
  if_neg (by simpa [State.spareValid, or_assoc, State.NoChannel] using h)

theorem State.resolve_of_refused {s : State} {a : BitVec 48} {st : MemStatus} (h : s.dpaStatus a.toNat = some st) (o e : Byte) :
    s.resolve (.dpa o e a) = .inr st := by
  unfold State.resolve
  dsimp only
  rw [h]

theorem State.resolve_of_line {s : State} {a : BitVec 48} (h : s.dpaStatus a.toNat = none) (o e : Byte) :
    s.resolve (.dpa o e a) = .inl ⟨placeOf a.toNat, o, e, none⟩ := by
  unfold State.resolve
  dsimp only
  rw [h]

/-! Requests that name no line. -/

theorem State.withEntry_of_refused {s : State} (hs : s.Live) {rq : LineReq} {st : MemStatus} (h : s.resolve rq.addr = .inr st)
    (run : State → Resolved → State × MemStatus × Bytes) : s.withEntry rq run = s.lineCpl rq st [] := by
  simp [State.withEntry, hs.powered, hs.open_, h]

/-- A row that runs a line request with no line to it leaves its completion alone. -/
theorem leaves_of_refused {i : Instr} {s : State} (hs : s.Live) {rq : LineReq} {st : MemStatus}
    {run : State → Resolved → State × MemStatus × Bytes} (hi : exec i s = s.answer (s.withEntry rq run))
    (h : s.resolve rq.addr = .inr st) : Leaves i s (s.lineCpl rq st []) :=
  leaves_of_answer (hi.trans (congrArg s.answer (State.withEntry_of_refused hs h run))) (Logged.refl _) rfl ⟨rfl, rfl⟩

/-! The rows of whole and partial writes, of the shape that R92 gives them. -/

theorem exec_memLineWrite {rq : LineReq} {d : Bytes} (hd : d.length = 64) (ho : lineOff rq.addr = 0) (s : State) :
    exec (.memLineWrite rq d) s = s.answer (s.withEntry rq (fun t r => t.lineWrite rq r d)) :=
  congrArg s.answer (if_pos ⟨hd, ho⟩)

theorem exec_memPartialWrite {rq : LineReq} {d : Bytes} (h0 : 0 < d.length) (hd : d.length < 64)
    (ho : lineOff rq.addr + d.length ≤ 64) (s : State) :
    exec (.memPartialWrite rq d) s = s.answer (s.withEntry rq (fun t r => t.lineWrite rq r d)) :=
  congrArg s.answer (if_pos ⟨h0, hd, ho⟩)

/-- Settles O32, by the two tests of an address in their order. -/
theorem refusedAddresses : Obligations.RefusedAddresses := by
  intro s port o e a d xs hs rq ch bad ends all
  have hall (st : MemStatus) (hst : s.dpaStatus a.toNat = some st) : all st := by
    have hres : s.resolve rq.addr = .inr st := State.resolve_of_refused hst o e
    exact ⟨leaves_of_refused hs rfl hres, fun hd ho => leaves_of_refused hs (exec_memLineWrite (rq := rq) hd ho s) hres,
      fun h0 hd ho => leaves_of_refused hs (exec_memPartialWrite (rq := rq) h0 hd ho s) hres⟩
  refine ⟨fun hbad => hall _ (State.dpaStatus_of_noChannel hbad), fun hbad hk => hall _ ?_⟩
  rw [State.dpaStatus_of_channel hbad, if_pos hk]

/-! The tracker (R74). -/

@[simp] theorem State.track_setTrack_same (s : State) (k : Nat) (t : TrackSt) : (s.setTrack k t).track k = t :=
  Tab.get_set_same _ _ _ _

theorem State.admitLine_of_room {s : State} {rq : LineReq} {r : Resolved} (hr : s.resolve rq.addr = .inl r)
    (h : (s.track (s.chanPkg r.place.ch)).inflight.length < trackCap (s.chanPkg r.place.ch)) :
    s.admitLine rq = s.setTrack (s.chanPkg r.place.ch)
      ⟨(s.track (s.chanPkg r.place.ch)).inflight ++ [rq], (s.track (s.chanPkg r.place.ch)).stalled.erase rq⟩ := by
  simp only [State.admitLine, hr, if_pos h]

theorem State.admitLine_of_full {s : State} {rq : LineReq} {r : Resolved} (hr : s.resolve rq.addr = .inl r)
    (h : trackCap (s.chanPkg r.place.ch) ≤ (s.track (s.chanPkg r.place.ch)).inflight.length)
    (hq : rq ∉ (s.track (s.chanPkg r.place.ch)).stalled) :
    s.admitLine rq = s.setTrack (s.chanPkg r.place.ch)
      { s.track (s.chanPkg r.place.ch) with stalled := (s.track (s.chanPkg r.place.ch)).stalled ++ [rq] } := by
  simp only [State.admitLine, hr, if_neg (Nat.not_lt.mpr h), if_neg hq]

theorem exec_lineRequestAdmit {s : State} (hs : s.Live) (rq : LineReq) :
    exec (.lineRequestAdmit rq) s = s.answer (s.admitLine rq) := congrArg s.answer (hs.unit _)

/-- A request that finds a free entry is run, frees the entry and completes. -/
theorem State.withEntry_of_room {s t : State} (hs : s.Live) {rq : LineReq} {r : Resolved} {st : MemStatus} {d : Bytes}
    {run : State → Resolved → State × MemStatus × Bytes} (hr : s.resolve rq.addr = .inl r)
    (hroom : (s.track (s.chanPkg r.place.ch)).inflight.length < trackCap (s.chanPkg r.place.ch))
    (hrun : run s r = (t, st, d)) :
    s.withEntry rq run = (t.freeLine (s.chanPkg r.place.ch) rq).lineCpl rq st d := by
  simp [State.withEntry, hs.powered, hs.open_, hr, State.mayProceed, hroom, hrun]

/-- What a request that is run leaves: its completion, and the stored bytes and registers of its run. -/
theorem completes_of_room {i : Instr} {s t : State} (hs : s.Live) {rq : LineReq} {r : Resolved} {st : MemStatus} {d : Bytes}
    {run : State → Resolved → State × MemStatus × Bytes} (hi : exec i s = s.answer (s.withEntry rq run))
    (hr : s.resolve rq.addr = .inl r)
    (hroom : (s.track (s.chanPkg r.place.ch)).inflight.length < trackCap (s.chanPkg r.place.ch))
    (hrun : run s r = (t, st, d)) {P : State → Prop}
    (hP : ∀ u : State, u.fab.cpl = some ⟨rq, st, d⟩ → u.fab.cells = t.fab.cells → u.fab.fill = t.fab.fill → u.rf = t.rf →
      P u) :
    Completes i s P :=
  completes_of_answer (hi.trans (congrArg s.answer (State.withEntry_of_room hs hr hroom hrun))) (hP _ rfl rfl rfl rfl)

end Sys2Proof.Machine
end

section
/-! Lines of the fabric (R75, R76, R91, R92): a line and its group's check line written at a place stand apart from the lines of
other channels, and decode under the writer. -/

namespace Sys2Proof.Machine

/-! Places. -/

/-- A place whose group and line lie within its channel (R75). -/
structure Place.Fits (a : Place) : Prop where
  group : a.r < 2 ^ 23
  line : a.k < 16

theorem placeOf_fits (n : Nat) : (placeOf n).Fits :=
  ⟨Nat.mod_lt _ (by decide), Nat.mod_lt _ (by decide)⟩

/-- The check line of a place's group (R75). -/
def Place.check (a : Place) : Place := { a with k := 15 }

theorem Place.Fits.check {a : Place} (h : a.Fits) : a.check.Fits := ⟨h.group, (by decide : 15 < 16)⟩

/-- Lines of different places do not overlap. -/
theorem Place.Fits.apart {a b : Place} (ha : a.Fits) (hb : b.Fits) (h : a ≠ b) :
    a.dpa + 64 ≤ b.dpa ∨ b.dpa + 64 ≤ a.dpa := by
  obtain ⟨ac, ar, ak⟩ := a
  obtain ⟨bc, br, bk⟩ := b
  obtain ⟨har, hak⟩ := ha
  obtain ⟨hbr, hbk⟩ := hb
  have hne : ¬ (ac = bc ∧ ar = br ∧ ak = bk) := fun ⟨hc, hr, hk⟩ => h (by rw [hc, hr, hk])
  simp only [Place.dpa] at *
  omega

/-! A line and its check line. -/

/-- A line and its group's check line stored. -/
def FabSt.putLine (m : FabSt) (a : Place) (data cl : Bytes) : FabSt := (m.store a.dpa data).store a.check.dpa cl

/-- A place holds a line, and its group a check line. -/
structure FabSt.Holds (m : FabSt) (a : Place) (data cl : Bytes) : Prop where
  line : m.bytes a.dpa 64 = data
  check : m.checkLine a.ch a.r = cl

theorem FabSt.bytes_putLine_apart (m : FabSt) {a b : Place} {data cl : Bytes} (ha : a.Fits) (hb : b.Fits) (h : b ≠ a)
    (hc : b ≠ a.check) (hd : data.length = 64) (hl : cl.length = 64) :
    (m.putLine a data cl).bytes b.dpa 64 = m.bytes b.dpa 64 := by
  have hline := hb.apart ha h
  have hcheck := hb.apart ha.check hc
  rw [FabSt.putLine, FabSt.bytes_store_apart _ (by omega), FabSt.bytes_store_apart _ (by omega)]

theorem FabSt.putLine_holds (m : FabSt) {a : Place} {data cl : Bytes} (ha : a.Fits) (hk : a.k < 15) (hd : data.length = 64)
    (hl : cl.length = 64) : (m.putLine a data cl).Holds a data cl := by
  have hne : a ≠ a.check := fun h => absurd (congrArg Place.k h) (Nat.ne_of_lt hk)
  have hapart := ha.apart ha.check hne
  refine ⟨?_, FabSt.bytes_store_of_length _ hl _⟩
  rw [FabSt.putLine, FabSt.bytes_store_apart _ (by omega), FabSt.bytes_store_of_length _ hd]

/-- A line written in another channel leaves what a place holds. -/
theorem FabSt.Holds.putLine {m : FabSt} {a b : Place} {x y data cl : Bytes} (h : m.Holds a x y) (ha : a.Fits) (hb : b.Fits)
    (hch : a.ch ≠ b.ch) (hd : data.length = 64) (hl : cl.length = 64) : (m.putLine b data cl).Holds a x y := by
  have hkeep {p : Place} (hp : p.Fits) (hpa : p.ch = a.ch) : (m.putLine b data cl).bytes p.dpa 64 = m.bytes p.dpa 64 := by
    have hpb : p.ch ≠ b.ch := hpa ▸ hch
    exact m.bytes_putLine_apart hb hp (fun e => hpb (e ▸ rfl)) (fun e => hpb (e ▸ rfl)) hd hl
  exact ⟨(hkeep ha rfl).trans h.line, (hkeep ha.check rfl).trans h.check⟩

/-- A store with its copy to the spare that is being filled (R104). -/
theorem State.storeLine_fab (s : State) (a : Place) (data cl : Bytes) :
    (s.storeLine a data cl).fab = s.fab.putLine a data cl
      ∨ ∃ d, (s.storeLine a data cl).fab = (s.fab.putLine a data cl).putLine { a with ch := d } data cl := by
  unfold State.storeLine
  dsimp only
  split
  · exact .inr ⟨_, rfl⟩
  · exact .inl rfl

/-- A line stored is held, whether or not its channel is being copied, and to whichever spare. -/
theorem State.storeLine_holds (s : State) {a : Place} {data cl : Bytes} (ha : a.Fits) (hk : a.k < 15) (hd : data.length = 64)
    (hl : cl.length = 64) : (s.storeLine a data cl).fab.Holds a data cl := by
  have hput := s.fab.putLine_holds ha hk hd hl
  rcases s.storeLine_fab a data cl with h | ⟨d, h⟩
  · exact h ▸ hput
  · rw [h]
    by_cases hch : a.ch = d
    · subst hch
      exact FabSt.putLine_holds _ ha hk hd hl
    · exact hput.putLine ha ⟨ha.group, ha.line⟩ hch hd hl

/-! What a line decodes to (R91). -/

/-- The decoding depends on the stored bytes only. -/
theorem FabSt.decode_congr {m n : FabSt} (hc : m.cells = n.cells) (hf : m.fill = n.fill) (a : Place) (o e : Byte) :
    m.decode a o e = n.decode a o e := by
  have hbytes (x y : Nat) : m.bytes x y = n.bytes x y := by rw [FabSt.bytes, hc, hf]; rfl
  unfold FabSt.decode FabSt.checkLine
  rw [hbytes, hbytes]

/-- A line whose check line and data decode clean decodes OK. -/
theorem FabSt.decode_of_clean {m : FabSt} {a : Place} {o e : Byte} {cl d : Bytes}
    (hc : checkDecode (m.checkLine a.ch a.r) o e = (.clean, cl))
    (hd : lineDecode (slice cl (4 * a.k) 4) (m.bytes a.dpa 64) o e = (.clean, d)) : m.decode a o e = (.ok, d) := by
  unfold FabSt.decode
  rw [hc]
  dsimp only
  rw [hd]
  rfl

/-- A line under check symbols of its own in a sealed check line decodes OK. -/
theorem FabSt.Holds.decode {m : FabSt} {a : Place} {data b : Bytes} {o e : Byte} (hb : b.length = 64) (hk : a.k < 15)
    (h : m.Holds a data (checkSeal (overlay b (4 * a.k) (lineCheck data o e)) o e)) : m.decode a o e = (.ok, data) := by
  have hlen : (overlay b (4 * a.k) (lineCheck data o e)).length = 64 := by
    rw [overlay_length (by rw [lineCheck_length]; omega), hb]
  refine FabSt.decode_of_clean (cl := checkSeal (overlay b (4 * a.k) (lineCheck data o e)) o e) ?_ ?_
  · rw [h.check, checkDecode_checkSeal (by omega)]
  · rw [slice_checkSeal_overlay hb rfl hk, h.line, lineDecode_lineCheck]

/-- A line that decodes OK has a check line that is not uncorrectable, and its data are as stored. -/
theorem FabSt.decode_ok {m : FabSt} {a : Place} {o e : Byte} {d : Bytes} (h : m.decode a o e = (.ok, d)) :
    (checkDecode (m.checkLine a.ch a.r) o e).1 ≠ .bad ∧ d = m.bytes a.dpa 64 := by
  unfold FabSt.decode at h
  dsimp only at h
  generalize hl : lineDecode (slice (checkDecode (m.checkLine a.ch a.r) o e).2 (4 * a.k) 4) (m.bytes a.dpa 64) o e = l at h
  obtain ⟨ld, out⟩ := l
  split at h
  next => cases h
  next => cases h
  next hbad =>
    refine ⟨hbad, ?_⟩
    cases ld with
    | clean => exact (Prod.ext_iff.mp h).2.symm.trans (lineDecode_clean hl)
    | single | tag | bad => cases h

/-! Writes of lines that take place. -/

@[simp] theorem State.readBack_cells (s : State) (a : Place) (o e : Byte) : (s.readBack a o e).fab.cells = s.fab.cells := by
  unfold State.readBack State.countHard
  dsimp only
  repeat' split
  all_goals rfl

@[simp] theorem State.readBack_fill (s : State) (a : Place) (o e : Byte) : (s.readBack a o e).fab.fill = s.fab.fill := by
  unfold State.readBack State.countHard
  dsimp only
  repeat' split
  all_goals rfl

/-- The line and check line that a full write stores, with the group's check line kept or taken as it stands (R92). -/
def State.writeLineWith (s : State) (a : Place) (o e : Byte) (data b : Bytes) : State :=
  (s.storeLine a data (checkSeal (overlay b (4 * a.k) (lineCheck data o e)) o e)).readBack a o e

theorem State.writeLineWith_decode (s : State) {a : Place} {data b : Bytes} (ha : a.Fits) (hk : a.k < 15)
    (hd : data.length = 64) (hb : b.length = 64) (o e : Byte) : (s.writeLineWith a o e data b).fab.decode a o e = (.ok, data) := by
  have hlen : (overlay b (4 * a.k) (lineCheck data o e)).length = 64 := by
    rw [overlay_length (by rw [lineCheck_length]; omega), hb]
  rw [State.writeLineWith, FabSt.decode_congr (State.readBack_cells _ _ _ _) (State.readBack_fill _ _ _ _)]
  exact (s.storeLine_holds ha hk hd (checkSeal_length (by omega) o e)).decode hb hk

/-- A full write of a channel in use, whose group's check line is not uncorrectable. -/
theorem State.writePlace_of_readable {s : State} {a : Place} {o e : Byte} (hbusy : s.chanBusy a.ch = false)
    (hdead : a.ch ∉ s.fab.dead) (hbad : (checkDecode (s.fab.checkLine a.ch a.r) o e).1 ≠ .bad) (data : Bytes) :
    ∃ b, b.length = 64 ∧ s.writePlace a o e data = (s.writeLineWith a o e data b, .ok) := by
  have hraw : (s.fab.checkLine a.ch a.r).length = 64 := FabSt.bytes_length _ _ _
  have hdec : (checkDecode (s.fab.checkLine a.ch a.r) o e).2.length = 64 := (checkDecode_length _ _ _).trans hraw
  unfold State.writePlace
  rw [if_neg (by simp [hbusy]), if_neg (by simpa using hdead)]
  dsimp only
  split
  next h => exact absurd h hbad
  next => exact ⟨_, hraw, rfl⟩
  next => exact ⟨_, hdec, rfl⟩

/-- Such a write leaves the line decoding OK to its data. -/
theorem State.writePlace_decode {s : State} {a : Place} {o e : Byte} {data : Bytes} (ha : a.Fits) (hk : a.k < 15)
    (hbusy : s.chanBusy a.ch = false) (hdead : a.ch ∉ s.fab.dead)
    (hbad : (checkDecode (s.fab.checkLine a.ch a.r) o e).1 ≠ .bad) (hd : data.length = 64) :
    ∃ t, s.writePlace a o e data = (t, .ok) ∧ t.fab.decode a o e = (.ok, data) := by
  obtain ⟨b, hb, hw⟩ := State.writePlace_of_readable hbusy hdead hbad data
  exact ⟨_, hw, s.writeLineWith_decode ha hk hd hb o e⟩

/-- A read of a line that decodes OK changes nothing. -/
theorem State.readPlace_of_ok {s : State} {a : Place} {o e : Byte} {d : Bytes} (hbusy : s.chanBusy a.ch = false)
    (hdead : a.ch ∉ s.fab.dead) (hret : s.isRetired a.dpa = false) (h : s.fab.decode a o e = (.ok, d)) :
    s.readPlace a o e = (s, .ok, d) := by
  unfold State.readPlace
  rw [if_neg (by simp [hbusy]), if_neg (by simpa using hdead), if_neg (by simp [hret]), h]
  rfl

/-- A partial write of a line that decodes OK leaves it decoding OK to the merged data. -/
theorem State.mergePlace_decode {s : State} {a : Place} {o e : Byte} {d b : Bytes} {off : Nat} (ha : a.Fits) (hk : a.k < 15)
    (hbusy : s.chanBusy a.ch = false) (hdead : a.ch ∉ s.fab.dead) (hret : s.isRetired a.dpa = false)
    (h : s.fab.decode a o e = (.ok, d)) (hoff : off + b.length ≤ 64) :
    ∃ t, s.mergePlace a o e off b = (t, .ok) ∧ t.fab.decode a o e = (.ok, d.take off ++ b ++ d.drop (off + b.length)) := by
  obtain ⟨hbad, hdata⟩ := FabSt.decode_ok h
  have hd : d.length = 64 := hdata ▸ FabSt.bytes_length _ _ _
  obtain ⟨t, hw, hdec⟩ := State.writePlace_decode (data := overlay d off b) ha hk hbusy hdead hbad
    (by rw [overlay_length (by omega), hd])
  refine ⟨t, ?_, overlay_eq (hd ▸ hoff) ▸ hdec⟩
  unfold State.mergePlace
  rw [State.readPlace_of_ok hbusy hdead hret h]
  dsimp only [MemStatus.good]
  rw [hw]
  rfl

/-- A transfer without errors delivers the data (R93). -/
theorem State.transfer_clean (s : State) (r : Resolved) (st : MemStatus) (d : Bytes) : s.transfer r st d [] = (s, st, d) := by
  have htake : (lineCheck d r.owner r.epoch ++ d).take 4 = lineCheck d r.owner r.epoch :=
    List.take_left' (lineCheck_length _ _ _)
  have hdrop : (lineCheck d r.owner r.epoch ++ d).drop 4 = d := List.drop_left' (lineCheck_length _ _ _)
  simp only [State.transfer, xferErrors, List.foldl_nil, htake, hdrop, lineDecode_lineCheck]

/-! Settling. -/

theorem State.dpaStatus_none {s : State} {a : Nat} (h : s.dpaStatus a = none) : (placeOf a).k < 15 := by
  have hne : a / 64 % 16 ≠ 15 := by
    intro hk
    by_cases hch : s.NoChannel a
    · rw [State.dpaStatus_of_noChannel hch] at h
      cases h
    · rw [State.dpaStatus_of_channel hch, if_pos hk] at h
      cases h
  have hlt : a / 64 % 16 < 16 := Nat.mod_lt _ (by decide)
  show a / 64 % 16 < 15
  omega

theorem State.lineWrite_full (s : State) {port : Port} {o e : Byte} {a : BitVec 48} {d : Bytes} (hd : d.length = 64)
    (ho : a.toNat % 64 = 0) (r : Resolved) :
    s.lineWrite ⟨port, .dpa o e a⟩ r d = ((s.writePlace r.place r.owner r.epoch d).1,
      (s.writePlace r.place r.owner r.epoch d).2, []) := by
  unfold State.lineWrite
  dsimp only
  rw [if_pos ⟨hd, ho⟩]

theorem State.lineWrite_part (s : State) {port : Port} {o e : Byte} {a : BitVec 48} {d : Bytes} (hd : d.length < 64)
    (r : Resolved) :
    s.lineWrite ⟨port, .dpa o e a⟩ r d = ((s.mergePlace r.place r.owner r.epoch (a.toNat % 64) d).1,
      (s.mergePlace r.place r.owner r.epoch (a.toNat % 64) d).2, []) := by
  unfold State.lineWrite
  dsimp only
  rw [if_neg (fun h => Nat.ne_of_lt hd h.1)]
  rfl

/-- Settles O33: a write stores the line and its check symbols, which decode to it; a read changes nothing; and a request takes
an entry or joins the waiting ones. -/
theorem lineRequests : Obligations.LineRequests := by
  intro s port o e a hs rq p pkg t0 off hst
  have hk : p.k < 15 := State.dpaStatus_none hst
  have hfits : p.Fits := placeOf_fits _
  have hres : s.resolve rq.addr = .inl ⟨p, o, e, none⟩ := State.resolve_of_line hst o e
  refine ⟨fun hbusy hdead hroom => ⟨fun d hd hoff hbad => ?_, fun d hdec hret => ⟨?_, fun b h0 hb hlen => ?_⟩⟩,
    fun hroom => ?_, fun hfull hq => ?_⟩
  · obtain ⟨t, hw, hok⟩ := State.writePlace_decode hfits hk hbusy hdead hbad hd
    refine completes_of_room (t := t) (st := .ok) (d := []) hs (exec_memLineWrite (rq := rq) hd hoff s) hres hroom
      ?_ (fun u hcpl hcells hfill _ => ⟨hcpl, (FabSt.decode_congr hcells hfill p o e).trans hok⟩)
    rw [State.lineWrite_full s hd hoff, hw]
  · refine completes_of_room (t := s) (st := .ok) (d := d) hs rfl hres hroom ?_
      (fun u hcpl hcells _ hrf => ⟨hcpl, hcells, hrf⟩)
    dsimp only
    rw [State.readPlace_of_ok hbusy hdead hret hdec]
    exact State.transfer_clean s _ _ d
  · obtain ⟨t, hw, hok⟩ := State.mergePlace_decode hfits hk hbusy hdead hret hdec hlen
    refine completes_of_room (t := t) (st := .ok) (d := []) hs (exec_memPartialWrite (rq := rq) h0 hb hlen s) hres hroom
      ?_ (fun u hcpl hcells hfill _ => ⟨hcpl, (FabSt.decode_congr hcells hfill p o e).trans hok⟩)
    rw [State.lineWrite_part s hb, hw]
  · refine completes_of_answer ((exec_lineRequestAdmit hs rq).trans
      (congrArg s.answer (State.admitLine_of_room hres hroom))) ⟨?_, rfl⟩
    exact congrArg TrackSt.inflight (State.track_setTrack_same s pkg _)
  · refine completes_of_answer ((exec_lineRequestAdmit hs rq).trans
      (congrArg s.answer (State.admitLine_of_full hres hfull hq))) ?_
    exact State.track_setTrack_same s pkg _

end Sys2Proof.Machine
end

section
/-! The hash key and the initialisation of packages (R80, R107): what a channel initialised anew reads as, and
the three rows. -/

namespace Sys2Proof.Machine

/-! What keeping account leaves of the fabric and of its registers. -/

theorem Logged.fab {u t : State} (h : Logged u t) : t.fab = u.fab := by
  have := congrArg State.fab h.rest
  exact this

theorem Logged.tm {u t : State} (h : Logged u t) : t.tm = u.tm := by
  have := congrArg State.tm h.rest
  exact this

theorem Logged.fld {u t : State} (h : Logged u t) {k : Nat} (hk : bookKey k = false) (f : Fld) : t.fld k f = u.fld k f := by
  rw [State.fld, h.regs k hk, State.fld]

theorem Logged.flag {u t : State} (h : Logged u t) {k : Nat} (hk : bookKey k = false) (f : Fld) : t.flag k f = u.flag k f := by
  rw [State.flag, h.fld hk, State.flag]

/-! A channel initialised anew. -/

theorem Tab.get_drop {α : Type} (d : Nat → α) (p : Nat → Bool) (t : List (Nat × α)) (k : Nat) :
    Tab.get d (Tab.drop p t) k = if p k then d k else Tab.get d t k := by
  induction t with
  | nil => exact (ite_self _).symm
  | cons e t ih =>
    obtain ⟨i, x⟩ := e
    by_cases hi : i = k
    · subst hi
      cases hp : p i <;> simp [Tab.drop, Tab.get, hp] at ih ⊢
      exact ih
    · cases hp : p i <;> simpa [Tab.drop, Tab.get, hp, hi] using ih

/-- A channel with no listed byte, whose unlisted bytes read as `f` says. -/
structure FabSt.Fresh (m : FabSt) (ch : Nat) (f : Option (Byte × Byte)) : Prop where
  cells : ∀ (d : Nat → Byte) (a : Nat), a / 2 ^ 33 = ch → Tab.get d m.cells a = d a
  fill : Tab.get (fun _ => none) m.fill ch = f

theorem FabSt.refill_fresh (m : FabSt) (ch : Nat) (f : Option (Byte × Byte)) : (m.refill ch f).Fresh ch f :=
  ⟨fun d a ha => (Tab.get_drop d (fun a => a / 2 ^ 33 == ch) m.cells a).trans (if_pos (beq_iff_eq.mpr ha)),
    Tab.get_set_same _ _ _ _⟩

/-- Another channel, or the same again, is initialised. -/
theorem FabSt.Fresh.refill {m : FabSt} {ch : Nat} {f : Option (Byte × Byte)} (h : m.Fresh ch f) (c : Nat) :
    (m.refill c f).Fresh ch f := by
  by_cases hc : ch = c
  · exact hc ▸ m.refill_fresh c f
  · refine ⟨fun d a ha => ?_, (Tab.get_set_ne _ _ _ hc).trans h.fill⟩
    have hkept : ¬ (a / 2 ^ 33 == c) = true := by rwa [ha, beq_iff_eq]
    exact (Tab.get_drop d (fun a => a / 2 ^ 33 == c) m.cells a).trans ((if_neg hkept).trans (h.cells d a ha))

/-- The channels of a list initialised in turn. -/
def FabSt.refillAll (m : FabSt) (chs : List Nat) (f : Option (Byte × Byte)) : FabSt := chs.foldl (fun m c => m.refill c f) m

theorem FabSt.Fresh.refillAll {m : FabSt} {ch : Nat} {f : Option (Byte × Byte)} (h : m.Fresh ch f) (chs : List Nat) :
    (m.refillAll chs f).Fresh ch f := by
  induction chs generalizing m with
  | nil => exact h
  | cons c chs ih => exact ih (h.refill c)

theorem FabSt.refillAll_fresh (m : FabSt) {chs : List Nat} {ch : Nat} (h : ch ∈ chs) (f : Option (Byte × Byte)) :
    (m.refillAll chs f).Fresh ch f := by
  induction chs generalizing m with
  | nil => cases h
  | cons c chs ih =>
    rcases List.mem_cons.mp h with rfl | hmem
    · exact (m.refill_fresh ch f).refillAll chs
    · exact ih _ hmem

/-- The check line of a group of zero lines, before its own symbols (R107). -/
def zeroChecks (o e : Byte) : Bytes := (List.replicate 15 (lineCheck (zeros 64) o e)).flatten ++ zeros 4

theorem zeroChecks_length (o e : Byte) : (zeroChecks o e).length = 64 := rfl

/-- A stored byte of a fresh channel. -/
theorem FabSt.Fresh.get {m : FabSt} {ch : Nat} {o e : Byte} (h : m.Fresh ch (some (o, e))) {a : Nat} (ha : a / 2 ^ 33 = ch) :
    Tab.get (memDefault m.fill) m.cells a
      = if a % 1024 < 960 then 0 else (checkSeal (zeroChecks o e) o e).getD (a % 1024 - 960) 0 := by
  rw [h.cells _ a ha]
  unfold memDefault
  rw [ha, h.fill]
  rfl

theorem FabSt.Fresh.checkLine {m : FabSt} {ch r : Nat} {o e : Byte} (h : m.Fresh ch (some (o, e))) (hr : r < 2 ^ 23) :
    m.checkLine ch r = checkSeal (zeroChecks o e) o e := by
  have hlen : (checkSeal (zeroChecks o e) o e).length = 64 := checkSeal_length (by rw [zeroChecks_length]; decide) o e
  refine List.ext_getElem ((FabSt.bytes_length _ _ _).trans hlen.symm) (fun i hi _ => ?_)
  have hi : i < 64 := (FabSt.bytes_length m _ 64) ▸ hi
  have hch : ((⟨ch, r, 15⟩ : Place).dpa + i) / 2 ^ 33 = ch := by simp only [Place.dpa]; omega
  have hoff : ((⟨ch, r, 15⟩ : Place).dpa + i) % 1024 = 960 + i := by simp only [Place.dpa]; omega
  simp only [FabSt.checkLine, FabSt.bytes, List.getElem_map, List.getElem_range]
  rw [h.get hch, hoff, if_neg (by omega), Nat.add_sub_cancel_left, List.getD_eq_getElem _ _ (by omega)]

theorem FabSt.Fresh.line {m : FabSt} {ch r j : Nat} {o e : Byte} (h : m.Fresh ch (some (o, e))) (hr : r < 2 ^ 23)
    (hj : j < 15) :
    m.bytes (⟨ch, r, j⟩ : Place).dpa 64 = zeros 64 := by
  refine List.ext_getElem (FabSt.bytes_length _ _ _) (fun i hi _ => ?_)
  have hi : i < 64 := (FabSt.bytes_length m _ 64) ▸ hi
  have hch : ((⟨ch, r, j⟩ : Place).dpa + i) / 2 ^ 33 = ch := by simp only [Place.dpa]; omega
  have hoff : ((⟨ch, r, j⟩ : Place).dpa + i) % 1024 < 960 := by simp only [Place.dpa]; omega
  simp only [FabSt.bytes, List.getElem_map, List.getElem_range]
  rw [h.get hch, if_pos hoff]
  exact (List.getElem_replicate _).symm

/-- The check symbols of a line of zeros in the check line of its group. -/
theorem slice_zeroChecks {j : Nat} (hj : j < 15) (o e : Byte) :
    slice (checkSeal (zeroChecks o e) o e) (4 * j) 4 = lineCheck (zeros 64) o e := by
  have hsplit : (List.replicate 15 (lineCheck (zeros 64) o e)).flatten = (List.replicate j (lineCheck (zeros 64) o e)).flatten
      ++ lineCheck (zeros 64) o e ++ (List.replicate (14 - j) (lineCheck (zeros 64) o e)).flatten := by
    rw [show 15 = j + (1 + (14 - j)) by omega, List.replicate_add, List.replicate_add, List.flatten_append, List.flatten_append,
      List.append_assoc]
    rfl
  have hbefore : (List.replicate j (lineCheck (zeros 64) o e)).flatten.length = 4 * j := by simp [Nat.mul_comm]
  rw [checkSeal, zeroChecks, List.take_left' (by rfl), hsplit, List.append_assoc _ (List.flatten _)]
  exact slice_append hbefore rfl _

/-- Every data line of a fresh channel decodes OK to zeros (R107). -/
theorem FabSt.Fresh.decode {m : FabSt} {ch r j : Nat} {o e : Byte} (h : m.Fresh ch (some (o, e))) (hr : r < 2 ^ 23)
    (hj : j < 15) :
    m.decode ⟨ch, r, j⟩ o e = (.ok, zeros 64) := by
  refine FabSt.decode_of_clean (cl := checkSeal (zeroChecks o e) o e) ?_ ?_
  · rw [h.checkLine hr, checkDecode_checkSeal (by rw [zeroChecks_length]; decide)]
  · rw [slice_zeroChecks hj, h.line hr hj, lineDecode_lineCheck]

/-! The end of an initialisation. -/

/-- The channels that the end of a package's initialisation clears: its own, and the spare that one of them is copied to. -/
def State.initChans (s : State) (k : Nat) : List Nat :=
  let chs := (List.range 8).map (fun i => s.physChan (8 * k + i))
  chs ++ match s.fab.spareCopy with
    | some c => if chs.contains c.src then [c.dst] else []
    | none => []

theorem State.physChan_mem_initChans (s : State) (k : Nat) {i : Nat} (hi : i < 8) : s.physChan (8 * k + i) ∈ s.initChans k :=
  List.mem_append_left _ (List.mem_map_of_mem (List.mem_range.mpr hi))

/-- The state at the end of a package's initialisation, but for the status that R107 clears with the last one. -/
def State.initEnd (s : State) (k : Nat) (f : Option (Byte × Byte)) : State :=
  let m := s.fab.refillAll (s.initChans k) f
  let t : State := { s with fab := { m with initBusy := m.initBusy.filter (fun e => e.1 != k) } }
  t.setRetired (t.fab.retired.filter (fun e => !(s.initChans k).contains (e.1 / 2 ^ 33)))

theorem State.pkgInitDone_eq {s : State} {k p : Nat} (h : s.fab.initBusy.find? (fun e => e.1 == k) = some (k, p)) :
    s.pkgInitDone k =
      let t := s.initEnd k (some (byte p, byte (s.epoch p)))
      if t.fab.initBusy.isEmpty then t.setFld Reg.MF_STATUS Fld.MF_STATUS_INIT_BUSY 0 else t := by
  unfold State.pkgInitDone
  rw [h]
  rfl

theorem State.pkgInitDone_fab {s : State} {k p : Nat} (h : s.fab.initBusy.find? (fun e => e.1 == k) = some (k, p)) :
    (s.pkgInitDone k).fab = (s.initEnd k (some (byte p, byte (s.epoch p)))).fab := by
  rw [State.pkgInitDone_eq h]
  dsimp only
  split <;> rfl

theorem exec_packageInitDone {s : State} (hs : s.Live) (k : Fin 32) :
    exec (.packageInitDone k) s = s.answer (s.pkgInitDone k) := congrArg s.answer (hs.unit _)

/-- Each channel of the package is fresh. -/
theorem State.initEnd_fresh (s : State) (k : Nat) (f : Option (Byte × Byte)) {i : Nat} (hi : i < 8) :
    (s.initEnd k f).fab.Fresh (s.physChan (8 * k + i)) f := by
  have h := s.fab.refillAll_fresh (s.physChan_mem_initChans k hi) f
  unfold State.initEnd State.setRetired
  dsimp only
  rw [State.setFld_fab]
  exact ⟨h.cells, h.fill⟩

/-- Every data line of the package decodes OK to zeros under the partition and its epoch. -/
theorem State.pkgInitDone_decode {s : State} {k p : Nat} (h : s.fab.initBusy.find? (fun e => e.1 == k) = some (k, p))
    {i r j : Nat} (hi : i < 8) (hr : r < 2 ^ 23) (hj : j < 15) :
    (s.pkgInitDone k).fab.decode ⟨s.physChan (8 * k + i), r, j⟩ (byte p) (byte (s.epoch p)) = (.ok, zeros 64) := by
  rw [State.pkgInitDone_fab h]
  exact (s.initEnd_fresh k _ hi).decode hr hj

/-- The package leaves the list of those under initialisation. -/
theorem State.pkgInitDone_initBusy {s : State} {k p : Nat} (h : s.fab.initBusy.find? (fun e => e.1 == k) = some (k, p))
    {e : Nat × Nat} (he : e ∈ (s.pkgInitDone k).fab.initBusy) : e.1 ≠ k := by
  rw [State.pkgInitDone_fab h] at he
  exact bne_iff_ne.mp (List.mem_filter.mp he).2

/-! MF_INIT_CMD and the hash key. -/

theorem exec_mfInitCmd {s : State} (hs : s.Live) (src : Src) (v : Word) :
    exec (.mfInitCmd src v) s = s.answer (s.initCmd src v) := congrArg s.answer (hs.host _ _ _ _)

theorem exec_mfHashKeyWrite {s : State} (hs : s.Live) (src : Src) (n : Fin 4) (v : Word) :
    exec (.mfHashKeyWrite src n v) s = s.answer (s.hashKeyWrite src n v) := congrArg s.answer (hs.host _ _ _ _)

theorem State.hashKeyWrite_of_locked {s : State} (h : s.flag Reg.MF_STATUS Fld.MF_STATUS_MAP_LOCKED = true) (src : Src) (n : Nat)
    (v : Word) : s.hashKeyWrite src n v = s.journal src (Reg.MF_HASH_KEY n) 0 v true s.orbitN := by
  rw [State.hashKeyWrite, if_pos h]

theorem State.hashKeyWrite_of_open {s : State} (h : s.flag Reg.MF_STATUS Fld.MF_STATUS_MAP_LOCKED = false) (src : Src) (n : Nat)
    (v : Word) : s.hashKeyWrite src n v = (({ s with fab := { s.fab with keyWritten := true } }).setReg (Reg.MF_HASH_KEY n) v).journal
      src (Reg.MF_HASH_KEY n) 0 v false s.orbitN := by
  rw [State.hashKeyWrite, if_neg (by simp [h])]

theorem State.initPkgs_flag (s : State) (p : Nat) {pkgs : List Nat} (h : pkgs ≠ []) :
    (s.initPkgs p pkgs).flag Reg.MF_STATUS Fld.MF_STATUS_INIT_BUSY = true := by
  unfold State.initPkgs
  rw [if_neg (by simpa using h)]
  exact State.flag_setFld_one _ _ _ (by decide) (by decide)

theorem State.mem_initPkgs (s : State) (p : Nat) {pkgs : List Nat} {j : Nat} (hj : j ∈ pkgs) :
    (j, p) ∈ (s.initPkgs p pkgs).fab.initBusy := by
  unfold State.initPkgs
  rw [if_neg (by simpa using List.ne_nil_of_mem hj)]
  exact List.mem_append_right _ (List.mem_map_of_mem hj)

/-- The partitions that MF_INIT_CMD names with one bit set. -/
theorem State.initCmd_one (s : State) (src : Src) (p : Fin 16) (h : s.pkgsOf p ≠ []) :
    s.initCmd src (BitVec.ofNat 32 (2 ^ p.val))
      = (s.initPkgs p (s.pkgsOf p)).journal src Reg.MF_INIT_CMD 0 (BitVec.ofNat 32 (2 ^ p.val)) false
          s.orbitN := by
  have hbit (q : Nat) (hq : q ∈ List.range 16) :
      ((BitVec.ofNat 32 (2 ^ p.val)).getLsbD q && !(s.pkgsOf q).isEmpty) = (q == p.val) := by
    have hq32 : q < 32 := (List.mem_range.mp hq).trans (by decide)
    rw [BitVec.getLsbD_ofNat, Nat.testBit_two_pow, decide_eq_true hq32, Bool.true_and]
    by_cases hqp : p.val = q
    · subst hqp
      simp [h]
    · simp [hqp, Ne.symm hqp]
  have hsingle : ∀ p : Fin 16, (List.range 16).filter (· == p.val) = [p.val] := by decide
  have hparts : (List.range 16).filter (fun q => (BitVec.ofNat 32 (2 ^ p.val)).getLsbD q && !(s.pkgsOf q).isEmpty) = [p.val] :=
    (List.filter_congr hbit).trans (hsingle p)
  unfold State.initCmd
  rw [hparts]
  rfl

/-- The partition's packages come under initialisation (R107). -/
theorem State.initCmd_busy (s : State) (src : Src) (p : Fin 16) (h : s.pkgsOf p ≠ []) :
    (s.initCmd src (BitVec.ofNat 32 (2 ^ p.val))).flag Reg.MF_STATUS Fld.MF_STATUS_INIT_BUSY = true
      ∧ ∀ j ∈ s.pkgsOf p, (j, p.val) ∈ (s.initCmd src (BitVec.ofNat 32 (2 ^ p.val))).fab.initBusy := by
  rw [State.initCmd_one s src p h]
  generalize BitVec.ofNat 32 (2 ^ p.val) = v
  have hlog := (Logged.refl (s.initPkgs p (s.pkgsOf p))).journal src Reg.MF_INIT_CMD 0 v false s.orbitN
  rw [hlog.flag (by decide), hlog.fab]
  exact ⟨s.initPkgs_flag p h, fun j hj => s.mem_initPkgs p hj⟩

/-- Settles O34: the key by its lock, one partition's packages, and the channels of a package cleared. -/
theorem keysAndInitialisation : Obligations.KeysAndInitialisation := by
  intro s src n v p k hs
  refine ⟨fun hl => ?_, fun hl => ?_, fun hp => ?_, fun hk => ?_⟩
  · refine leaves_of_answer (exec_mfHashKeyWrite hs src n v) ?_ rfl ⟨rfl, rfl⟩
    rw [State.hashKeyWrite_of_locked hl]
    exact (Logged.refl s).journal _ _ _ _ _ _
  · refine leaves_of_answer (exec_mfHashKeyWrite hs src n v) ?_ rfl ⟨rfl, rfl⟩
    rw [State.hashKeyWrite_of_open hl]
    exact (Logged.refl _).journal _ _ _ _ _ _
  · exact completes_of_answer (exec_mfInitCmd hs src _) (s.initCmd_busy src p hp)
  · exact completes_of_answer (exec_packageInitDone hs k)
      ⟨fun e he => State.pkgInitDone_initBusy hk he, fun i r j hi hr hj => State.pkgInitDone_decode hk hi hr hj⟩

end Sys2Proof.Machine
end

section
/-! The remapper, the scrubber and spare-channel service (R83–R85, R98, R103–R105). -/

namespace Sys2Proof.Machine

/-! The rows in a live die. -/

theorem exec_remapSwapStart {s : State} (hs : s.Live) (p : Fin 16) (c : Fin 256) :
    exec (.remapSwapStart p c) s = s.answer (s.swapStart p c) := congrArg s.answer (hs.unit _)

theorem exec_swapGroupCopy {s : State} (hs : s.Live) (p : Fin 16) (i : Fin 4) :
    exec (.swapGroupCopy p i) s = s.answer (s.swapCopy p i) := congrArg s.answer (hs.unit _)

theorem exec_scrubGroup {s : State} (hs : s.Live) (ch : Fin 280) :
    exec (.scrubGroup ch) s = s.answer (s.scrubGroup ch) := congrArg s.answer (hs.unit _)

theorem exec_mfSpareCmd {s : State} (hs : s.Live) (src : Src) (v : Word) :
    exec (.mfSpareCmd src v) s = s.answer (s.spareCmd src v) := congrArg s.answer (hs.host _ _ _ _)

theorem exec_spareCopyPage {s : State} (hs : s.Live) : exec .spareCopyPage s = s.answer s.spareCopyPage :=
  congrArg s.answer (hs.unit _)

theorem exec_spareSwitch {s : State} (hs : s.Live) : exec .spareSwitch s = s.answer s.spareSwitch :=
  congrArg s.answer (hs.unit _)

/-- A row that answers the state as it was leaves it. -/
theorem leaves_self {i : Instr} {s t : State} (hi : exec i s = s.answer t) (h : t = s) : Leaves i s s :=
  leaves_of_answer hi (h ▸ Logged.refl s) rfl ⟨rfl, rfl⟩

/-! Line groups. -/

/-- Two line groups are the same, or do not overlap. -/
theorem group_same_or_apart (c r d q : Nat) :
    (⟨c, r, 0⟩ : Place).dpa = (⟨d, q, 0⟩ : Place).dpa ∨ (⟨c, r, 0⟩ : Place).dpa + 1024 ≤ (⟨d, q, 0⟩ : Place).dpa
      ∨ (⟨d, q, 0⟩ : Place).dpa + 1024 ≤ (⟨c, r, 0⟩ : Place).dpa := by
  simp only [Place.dpa]
  omega

theorem FabSt.bytes_withSpareCopy (m : FabSt) (c : Option SpareCopy) (a n : Nat) :
    ({ m with spareCopy := c } : FabSt).bytes a n = m.bytes a n := rfl

/-- Two groups exchanged hold each other's bytes. -/
theorem FabSt.exchange_bytes (m : FabSt) {a b : Nat} (h : a = b ∨ a + 1024 ≤ b ∨ b + 1024 ≤ a) :
    (m.exchange a b).bytes a 1024 = m.bytes b 1024 ∧ (m.exchange a b).bytes b 1024 = m.bytes a 1024 := by
  have hput (n : FabSt) (x y : Nat) : (n.store x (m.bytes y 1024)).bytes x 1024 = m.bytes y 1024 :=
    n.bytes_store_of_length (FabSt.bytes_length _ _ _) x
  unfold FabSt.exchange
  refine ⟨?_, hput _ _ _⟩
  rcases h with hab | hab
  · rw [← hab, hput]
  · rw [FabSt.bytes_store_apart _ (by rw [FabSt.bytes_length]; exact hab), hput]

/-! The remapper (R83–R85). -/

@[simp] theorem State.remapOf_setRemap (s : State) (p : Nat) (l : List RemapEntry) : (s.setRemap p l).remapOf (.part p) = l :=
  Tab.get_set_same _ _ _ _

theorem State.bytes_setRemap (s : State) (p : Nat) (l : List RemapEntry) (a n : Nat) :
    (s.setRemap p l).fab.bytes a n = s.fab.bytes a n := rfl

theorem State.remapOf_setFld (s : State) (k : Nat) (f : Fld) (n : Nat) (sp : Space) : (s.setFld k f n).remapOf sp = s.remapOf sp :=
  rfl

theorem State.remapOf_setChan (s : State) (ch : Nat) (c : ChanSt) (sp : Space) : (s.setChan ch c).remapOf sp = s.remapOf sp :=
  rfl

theorem State.swapStart_of_disabled {s : State} (h : s.flag Reg.MF_CTRL Fld.MF_CTRL_REMAP_EN = false) (p c : Nat) :
    s.swapStart p c = s := by
  unfold State.swapStart
  exact if_pos (by simp [h])

/-- A hot channel's swap is entered in the table (R83). -/
theorem State.swapStart_of_hot {s : State} {p c f d : Nat} (hen : s.flag Reg.MF_CTRL Fld.MF_CTRL_REMAP_EN = true)
    (hc : c < (s.physOf p).length) (hhot : 64 ≤ (s.chan ((s.physOf p).getD c 0)).hotRun)
    (hswap : chanSwapping (s.remapOf (.part p)) c = false)
    (hfew : ((s.remapOf (.part p)).filter RemapEntry.inFlight).length < 4) (hroom : (s.remapOf (.part p)).length < 256)
    (hf : hottest ((s.chan ((s.physOf p).getD c 0)).frames.filter
      (fun e => !frameRecent (s.remapOf (.part p)) s.orbitN c e.1)) = some f) (hd : s.targetChan p c = some d) :
    ∃ g, (s.swapStart p c).remapOf (.part p) = s.remapOf (.part p) ++ [⟨c, f, d, g, 0, false, s.orbitN, s.orbitN⟩] := by
  unfold State.swapStart
  dsimp only
  rw [if_neg (by simp only [hen, hswap, Bool.not_true, Bool.or_false, Bool.or_eq_true, decide_eq_true_eq]; omega),
    if_neg (Nat.not_le.mpr hroom), hf, hd]
  dsimp only
  rw [State.remapOf_setChan, State.remapOf_setFld, State.remapOf_setRemap]
  exact ⟨_, rfl⟩

/-- Where the next group of a frame stands that takes part in a swap (R84). -/
def State.swapGroup (s : State) (p : Nat) (e : RemapEntry) (c f : Nat) : Nat :=
  (⟨(s.physOf p).getD c 0, f * 2048 + e.moved, 0⟩ : Place).dpa

theorem State.swapGroup_same_or_apart (s : State) (p : Nat) (e : RemapEntry) (c f d g : Nat) :
    s.swapGroup p e c f = s.swapGroup p e d g ∨ s.swapGroup p e c f + 1024 ≤ s.swapGroup p e d g
      ∨ s.swapGroup p e d g + 1024 ≤ s.swapGroup p e c f := group_same_or_apart _ _ _ _

/-- One pair of groups of the only swap in progress (R84, R85). -/
theorem State.swapCopy_of_single {s : State} {p : Nat} {e : RemapEntry} (hl : s.remapOf (.part p) = [e]) (hu : e.undoing = false)
    (hm : e.moved < 2048) :
    s.swapCopy p 0 = ({ s with fab := s.fab.exchange (s.swapGroup p e e.cA e.fA) (s.swapGroup p e e.cB e.fB) }).setRemap p
      [{ e with moved := e.moved + 1 }] := by
  have hfly : e.inFlight = true := by simp [RemapEntry.inFlight, hm]
  have hidx : ((List.range [e].length).filter (fun j => ([e].getD j ⟨0, 0, 0, 0, 2048, false, 0, 0⟩).inFlight))[0]? = some 0 := by
    simp [hfly]
  have hmap (cf : Nat × Nat) (l : List RemapEntry) : (if e.undoing = true then remapLookup l e.moved cf else cf) = cf :=
    if_neg (by simp [hu])
  unfold State.swapCopy
  rw [hl]
  dsimp only
  rw [hidx]
  dsimp only [List.getElem?_cons_zero]
  rw [if_neg (by simp [hu]), hmap, hmap]
  rfl

/-- The two groups are exchanged, and the entry moves on. -/
theorem State.swapCopy_exchanges {s : State} {p : Nat} {e : RemapEntry} (hl : s.remapOf (.part p) = [e])
    (hu : e.undoing = false) (hm : e.moved < 2048) :
    (s.swapCopy p 0).remapOf (.part p) = [{ e with moved := e.moved + 1 }]
      ∧ (s.swapCopy p 0).fab.bytes (s.swapGroup p e e.cA e.fA) 1024 = s.fab.bytes (s.swapGroup p e e.cB e.fB) 1024
      ∧ (s.swapCopy p 0).fab.bytes (s.swapGroup p e e.cB e.fB) 1024 = s.fab.bytes (s.swapGroup p e e.cA e.fA) 1024 := by
  have hbytes := s.fab.exchange_bytes (s.swapGroup_same_or_apart p e e.cA e.fA e.cB e.fB)
  rw [State.swapCopy_of_single hl hu hm]
  rw [State.remapOf_setRemap, State.bytes_setRemap, State.bytes_setRemap]
  dsimp only
  exact ⟨rfl, hbytes⟩

/-! The scrubber (R98). -/

theorem State.ite_tm {s a b : State} {c : Prop} [Decidable c] (ha : a.tm = s.tm) (hb : b.tm = s.tm) :
    (if c then a else b).tm = s.tm := by
  split
  · exact ha
  · exact hb

theorem State.errRecord_tm (s : State) (n c d a b : Nat) : (s.errRecord n c d a b).tm = s.tm :=
  ((Logged.refl s).errRecord n c d a b).tm

theorem State.lastErr_tm (s : State) (o : Byte) (n : Nat) (st : MemStatus) : (s.lastErr o n st).tm = s.tm := rfl

@[simp] theorem State.memReport_tm (s : State) (o : Byte) (a : Place) (st : MemStatus) : (s.memReport o a st).tm = s.tm := by
  unfold State.memReport
  cases st with
  | corrected => exact State.ite_tm rfl rfl
  | uncorrectable | tagMismatch =>
    dsimp only
    rw [State.errRecord_tm, apply_ite State.tm, State.setBit_tm, State.bump, State.bumpBy_tm, State.lastErr_tm, ite_self]
  | _ => rfl

@[simp] theorem State.retire_tm (s : State) (n a : Nat) : (s.retire n a).tm = s.tm :=
  State.ite_tm rfl (State.ite_tm rfl ((Logged.refl _).alarm _ _ _ _ _).tm)

@[simp] theorem State.scrubLine_tm (s : State) (o : Byte) (a : Place) (d : Decoded) : (s.scrubLine o a d).tm = s.tm := by
  refine State.ite_tm rfl ?_
  cases d with
  | clean => rfl
  | single => exact State.memReport_tm _ _ _ _
  | tag => exact State.ite_tm rfl rfl
  | bad => exact (State.retire_tm _ _ _).trans (State.memReport_tm _ _ _ _)

/-- The lines of a group, one after the other. -/
theorem State.scrubLines_tm (s : State) (o : Byte) (ch r : Nat) (ds : List Decoded) (l : List Nat) :
    (l.foldl (fun t k => t.scrubLine o ⟨ch, r, k⟩ (ds.getD k .clean)) s).tm = s.tm := by
  induction l generalizing s with
  | nil => rfl
  | cons k l ih => exact (ih _).trans (State.scrubLine_tm _ _ _ _)

@[simp] theorem State.spareStart_tm (s : State) : s.spareStart.tm = s.tm := by
  unfold State.spareStart
  split <;> rfl

@[simp] theorem State.autoSpare_tm (s : State) (ch : Nat) : (s.autoSpare ch).tm = s.tm :=
  State.ite_tm (State.ite_tm (State.spareStart_tm _) rfl) rfl

@[simp] theorem State.chan_setChan_same (s : State) (ch : Nat) (c : ChanSt) : (s.setChan ch c).chan ch = c :=
  Tab.get_set_same _ _ _ _

theorem State.scrubGroup_of_disabled {s : State} (h : s.flag Reg.MF_CTRL Fld.MF_CTRL_SCRUB_EN = false) (ch : Nat) :
    s.scrubGroup ch = s := by
  unfold State.scrubGroup
  exact if_pos (by simp [h])

/-- A scrub that is due moves its channel on (R98). -/
theorem State.scrubGroup_of_due {s : State} {ch : Nat} (hen : s.flag Reg.MF_CTRL Fld.MF_CTRL_SCRUB_EN = true)
    (hch : s.scrubbable ch = true)
    (hdue : (s.chan ch).scrubLast + max 1 (s.fld Reg.MF_CTRL Fld.MF_CTRL_SCRUB_PACE) ≤ s.orbitN) :
    ((s.scrubGroup ch).chan ch).scrubPos = ((s.chan ch).scrubPos + 1) % 2 ^ 23
      ∧ ((s.scrubGroup ch).chan ch).scrubLast = s.orbitN := by
  have howner : (s.chanOwner ch).isSome = true := by
    simp only [State.scrubbable, Bool.and_eq_true] at hch
    exact hch.1.2
  obtain ⟨⟨o, e⟩, ho⟩ := Option.isSome_iff_exists.mp howner
  unfold State.scrubGroup
  dsimp only
  rw [if_neg (by simp only [hen, hch, Bool.not_true, Bool.or_self, Bool.false_or, decide_eq_true_eq]; omega), ho]
  dsimp only
  rw [State.chan_setChan_same]
  refine ⟨rfl, congrArg (fun t : TimeSt => t.orbit.toNat) ?_⟩
  rw [State.autoSpare_tm, State.scrubLines_tm]
  exact (State.ite_tm (State.memReport_tm _ _ _ _) rfl).trans (State.ite_tm rfl rfl)

/-! Spare-channel service (R103–R105). -/

theorem bookKey_fabric {k : Nat} (h1 : 0x400000 ≤ k) (h2 : k < 0x500000) : bookKey k = false := by
  simp only [bookKey, Bool.or_eq_false_iff, Bool.and_eq_false_iff, decide_eq_false_iff_not]
  omega

/-- The channel that a write of MF_SPARE_CMD names. -/
theorem spareCmd_channel (v : Word) : (v &&& 0x1FF).toNat = v.toNat % 512 := by
  rw [BitVec.toNat_and]
  exact Nat.and_two_pow_sub_one_eq_mod v.toNat 9

theorem State.spareStart_of_waiting {s : State} {ch i : Nat} {rest : List Nat} (hc : s.fab.spareCopy = none)
    (hr : s.fab.spareReq = ch :: rest) (hf : s.freeSpare = some i) :
    s.spareStart.fab.spareCopy = some ⟨ch, 264 + i, 0, false⟩
      ∧ s.spareStart.flag Reg.MF_STATUS Fld.MF_STATUS_SPARE_BUSY = true := by
  unfold State.spareStart
  rw [hc, hr, hf]
  refine ⟨rfl, ?_⟩
  rw [State.flag_setFld_ne _ _ _ _ (by decide)]
  exact State.flag_setFld_one _ _ _ (by decide) (by decide)

theorem State.spareStart_of_none {s : State} (hr : s.fab.spareReq = []) : s.spareStart = s := by
  unfold State.spareStart
  rw [hr]
  split
  · cases ‹[] = _ :: _›
  · rfl

theorem State.spareCmd_of_refused {s : State} {v : Word} (h : v.getLsbD 31 = false ∨ s.sparable (v.toNat % 512) = false)
    (src : Src) : s.spareCmd src v = s.journal src Reg.MF_SPARE_CMD 0 v true s.orbitN := by
  unfold State.spareCmd
  dsimp only
  rw [spareCmd_channel, if_neg (by simp only [Bool.and_eq_true, not_and_or, Bool.not_eq_true]; exact h)]

theorem State.spareCmd_of_taken {s : State} {v : Word} (hv : v.getLsbD 31 = true) (h : s.sparable (v.toNat % 512) = true)
    (src : Src) : s.spareCmd src v = (s.spareRequest (v.toNat % 512)).journal src Reg.MF_SPARE_CMD 0 v false s.orbitN := by
  unfold State.spareCmd
  dsimp only
  rw [spareCmd_channel, if_pos (by simp [h, hv])]

/-- The service of a channel that no other waits for starts at once (R103). -/
theorem State.spareRequest_starts {s : State} {ch i : Nat} (h : s.sparable ch = true) (hc : s.fab.spareCopy = none)
    (hr : s.fab.spareReq = []) (hf : s.freeSpare = some i) :
    (s.spareRequest ch).fab.spareCopy = some ⟨ch, 264 + i, 0, false⟩
      ∧ (s.spareRequest ch).flag Reg.MF_STATUS Fld.MF_STATUS_SPARE_BUSY = true := by
  unfold State.spareRequest
  rw [if_pos h]
  exact State.spareStart_of_waiting (rest := []) hc (by simp [hr]) hf

/-- The state in which a page without an uncorrectable line is stored (R104). -/
def State.pageState (s : State) (k : SpareCopy) : State :=
  ((s.setFld Reg.MF_STATUS Fld.MF_STATUS_SPARE_STALLED 0).setRetired []).bumpBy (Reg.MF_CH_CE k.src) Fld.MF_CH_CE_COUNT 0

/-- The fabric with the page of two groups that a copy has reached stored as it stands in the failing channel. -/
def FabSt.copyPage (m : FabSt) (s : State) (k : SpareCopy) : FabSt :=
  (m.store ((⟨k.dst, k.pos, 0⟩ : Place).dpa) (s.fab.bytes ((⟨k.src, k.pos, 0⟩ : Place).dpa) 1024)).store
    ((⟨k.dst, k.pos + 1, 0⟩ : Place).dpa) (s.fab.bytes ((⟨k.src, k.pos + 1, 0⟩ : Place).dpa) 1024)

/-- A page of a channel without an owner is copied as it is stored (R104). -/
theorem State.spareCopyPage_of_unowned {s : State} {k : SpareCopy} (hk : s.fab.spareCopy = some k) (he : k.ended = false)
    (ho : s.chanOwner k.src = none) (hr : s.fab.retired = []) :
    s.spareCopyPage =
      ({ s.pageState k with fab := { (s.pageState k).fab.copyPage s k with
          spareCopy := some { k with pos := k.pos + 2, ended := decide (2 ^ 23 ≤ k.pos + 2) } } }).setFld
        Reg.MF_SPARE_PROGRESS Fld.MF_SPARE_PROGRESS_GROUPS (k.pos + 2) := by
  have hgood (r : Nat) : (List.range 15).filter (fun j => ([] : List Decoded).getD j .clean == .bad
      || s.isRetired ((⟨k.src, r, j⟩ : Place).dpa)) = [] := by
    rw [List.filter_eq_nil_iff]
    simp [State.isRetired, hr]
  unfold State.spareCopyPage
  rw [hk]
  dsimp only
  rw [if_neg (by simp [he]), ho]
  dsimp only
  rw [if_neg (by simp only [hgood, hr, List.map_nil, List.append_nil, List.filter_nil, List.length_nil]; decide)]
  simp only [hgood, hr, List.map_nil, List.append_nil, List.filter_nil, List.countP_nil]
  rfl

theorem FabSt.copyPage_bytes (m : FabSt) (s : State) (k : SpareCopy) :
    (m.copyPage s k).bytes ((⟨k.dst, k.pos, 0⟩ : Place).dpa) 1024 = s.fab.bytes ((⟨k.src, k.pos, 0⟩ : Place).dpa) 1024 := by
  have hapart : (⟨k.dst, k.pos, 0⟩ : Place).dpa + 1024 ≤ (⟨k.dst, k.pos + 1, 0⟩ : Place).dpa := by
    simp only [Place.dpa]
    omega
  rw [FabSt.copyPage, FabSt.bytes_store_apart _ (.inl hapart), FabSt.bytes_store_of_length _ (FabSt.bytes_length _ _ _)]

/-- The copy moves on by two groups, and the first holds what stood in the failing channel. -/
theorem State.spareCopyPage_copies {s : State} {k : SpareCopy} (hk : s.fab.spareCopy = some k) (he : k.ended = false)
    (ho : s.chanOwner k.src = none) (hr : s.fab.retired = []) :
    s.spareCopyPage.fab.spareCopy = some { k with pos := k.pos + 2, ended := decide (2 ^ 23 ≤ k.pos + 2) }
      ∧ s.spareCopyPage.fab.bytes ((⟨k.dst, k.pos, 0⟩ : Place).dpa) 1024
        = s.fab.bytes ((⟨k.src, k.pos, 0⟩ : Place).dpa) 1024 := by
  rw [State.spareCopyPage_of_unowned hk he ho hr, State.setFld_fab]
  exact ⟨rfl, (FabSt.bytes_withSpareCopy _ _ _ _).trans (FabSt.copyPage_bytes _ s k)⟩

/-! The switch to the spare (R105). -/

/-- The channel table with the spare of an ended copy in service. -/
def State.spareEntered (s : State) (k : SpareCopy) : State :=
  let t := s.setRetired (s.fab.retired.filter (fun e => e.1 / 2 ^ 33 != k.src))
  let t := { t with fab := { t.fab with spareCopy := none } }
  let m := Reg.MF_SPARE_MAP (k.dst - 264)
  ((t.setFld m Fld.MF_SPARE_MAP_REPLACED k.src).setFld m Fld.MF_SPARE_MAP_VALID 1).setFld Reg.MF_STATUS Fld.MF_STATUS_SPARE_BUSY 0

theorem State.spareSwitch_eq {s : State} {k : SpareCopy} (hk : s.fab.spareCopy = some k) (he : k.ended = true) :
    s.spareSwitch = (if (s.spareEntered k).freeSpare.isNone then
        ((s.spareEntered k).setFld Reg.MF_STATUS Fld.MF_STATUS_SPARES_EXHAUSTED 1).alarmFree 1 (Unit.pkg (k.src / 8)) 0 0
      else s.spareEntered k).spareStart := by
  unfold State.spareSwitch
  rw [hk]
  dsimp only
  rw [if_neg (by simp [he])]
  rfl

theorem State.spareEntered_spareReq (s : State) (k : SpareCopy) : (s.spareEntered k).fab.spareReq = s.fab.spareReq := by
  simp only [State.spareEntered, State.setRetired, State.setFld_fab]

theorem State.spareEntered_spareCopy (s : State) (k : SpareCopy) : (s.spareEntered k).fab.spareCopy = none := by
  simp only [State.spareEntered, State.setFld_fab]

theorem spareMap_ne_status (i : Nat) : Reg.MF_SPARE_MAP i ≠ Reg.MF_STATUS := by
  simp only [Reg.MF_SPARE_MAP, Reg.MF_STATUS]
  omega

/-- With no request waiting, the switch enters the spare; the last one also sets a status and alarms (R106). -/
theorem State.spareSwitch_logged {s : State} {k : SpareCopy} (hk : s.fab.spareCopy = some k) (he : k.ended = true)
    (hr : s.fab.spareReq = []) :
    ∃ w, Logged w s.spareSwitch ∧ w.fab = (s.spareEntered k).fab
      ∧ ∀ i, w.reg (Reg.MF_SPARE_MAP i) = (s.spareEntered k).reg (Reg.MF_SPARE_MAP i) := by
  have hreq : (s.spareEntered k).fab.spareReq = [] := (s.spareEntered_spareReq k).trans hr
  rw [State.spareSwitch_eq hk he]
  split
  · have hlog := (Logged.refl ((s.spareEntered k).setFld Reg.MF_STATUS Fld.MF_STATUS_SPARES_EXHAUSTED 1)).alarm 1
      (Unit.pkg (k.src / 8)) (Config.alarmCode 1 0).toNat (Config.alarmDetail 1 0).toNat 0
    refine ⟨(s.spareEntered k).setFld Reg.MF_STATUS Fld.MF_STATUS_SPARES_EXHAUSTED 1, ?_, State.setFld_fab _ _ _ _,
      fun i => State.reg_setFld_ne _ _ _ (spareMap_ne_status i)⟩
    rw [State.alarmFree, State.spareStart_of_none (by rw [hlog.fab, State.setFld_fab, hreq])]
    exact hlog
  · refine ⟨s.spareEntered k, ?_, rfl, fun _ => rfl⟩
    rw [State.spareStart_of_none hreq]
    exact Logged.refl _

/-- MF_SPARE_MAP of the spare that is entered. -/
theorem State.spareEntered_map (s : State) (k : SpareCopy) :
    (s.spareEntered k).flag (Reg.MF_SPARE_MAP (k.dst - 264)) Fld.MF_SPARE_MAP_VALID = true
      ∧ (s.spareEntered k).fld (Reg.MF_SPARE_MAP (k.dst - 264)) Fld.MF_SPARE_MAP_REPLACED = k.src % 2 ^ 9 := by
  unfold State.spareEntered
  dsimp only
  rw [State.flag_setFld_ne _ _ _ _ (spareMap_ne_status _), State.fld_setFld_ne _ _ _ _ (spareMap_ne_status _)]
  refine ⟨State.flag_setFld_one _ _ _ (by decide) (by decide), ?_⟩
  rw [State.fld_setFld_other _ _ _ _ _ (by decide) (by decide)]
  exact State.fld_setFld_same _ _ _ _ (by decide)

/-- The spare of an ended copy is in service for the channel that it replaces (R105). -/
theorem State.spareSwitch_of_ended {s : State} {k : SpareCopy} (hk : s.fab.spareCopy = some k) (he : k.ended = true)
    (hr : s.fab.spareReq = []) (hdst : k.dst < 280) :
    s.spareSwitch.fab.spareCopy = none
      ∧ s.spareSwitch.flag (Reg.MF_SPARE_MAP (k.dst - 264)) Fld.MF_SPARE_MAP_VALID = true
      ∧ s.spareSwitch.fld (Reg.MF_SPARE_MAP (k.dst - 264)) Fld.MF_SPARE_MAP_REPLACED = k.src % 2 ^ 9 := by
  obtain ⟨w, hlog, hfab, hmap⟩ := State.spareSwitch_logged hk he hr
  obtain ⟨hvalid, hsrc⟩ := s.spareEntered_map k
  have hbook : bookKey (Reg.MF_SPARE_MAP (k.dst - 264)) = false :=
    bookKey_fabric (by simp only [Reg.MF_SPARE_MAP]; omega) (by simp only [Reg.MF_SPARE_MAP]; omega)
  have hfld (f : Fld) : s.spareSwitch.fld (Reg.MF_SPARE_MAP (k.dst - 264)) f
      = (s.spareEntered k).fld (Reg.MF_SPARE_MAP (k.dst - 264)) f := (hlog.fld hbook f).trans (congrArg f.get (hmap _))
  refine ⟨?_, ?_, (hfld _).trans hsrc⟩
  · rw [hlog.fab, hfab, State.spareEntered_spareCopy]
  · rw [State.flag, hfld]
    exact hvalid

/-- Settles O35, a row at a time: the remapper's two, the scrubber's, and the three of spare service. -/
theorem fabricUpkeep : Obligations.FabricUpkeep := by
  intro s src p c ch hs chs l hot
  refine ⟨fun hen => leaves_self (exec_remapSwapStart hs p c) (State.swapStart_of_disabled hen p c),
    fun f d hen hc hhot hswap hfew hroom hf hd => completes_of_answer (exec_remapSwapStart hs p c)
      (State.swapStart_of_hot hen hc hhot hswap hfew hroom hf hd),
    fun e hl hu hm => completes_of_answer (exec_swapGroupCopy hs p 0) ?_,
    fun hen => leaves_self (exec_scrubGroup hs ch) (State.scrubGroup_of_disabled hen ch),
    fun hen hch hdue => completes_of_answer (exec_scrubGroup hs ch) (State.scrubGroup_of_due hen hch hdue),
    fun v h => leaves_of_answer (exec_mfSpareCmd hs src v) ?_ rfl ⟨rfl, rfl⟩,
    fun v i hv h hc hr hf => completes_of_answer (exec_mfSpareCmd hs src v) ?_,
    fun k hk he ho hr => completes_of_answer (exec_spareCopyPage hs) ?_,
    fun k hk he hsrc _ hdst hr => completes_of_answer (exec_spareSwitch hs) ?_⟩
  · exact State.swapCopy_exchanges hl hu hm
  · exact State.spareCmd_of_refused h src ▸ (Logged.refl s).journal _ _ _ _ _ _
  · obtain ⟨hcopy, hbusy⟩ := State.spareRequest_starts h hc hr hf
    have hlog := (Logged.refl (s.spareRequest (v.toNat % 512))).journal src Reg.MF_SPARE_CMD 0 v false s.orbitN
    rw [← State.spareCmd_of_taken hv h src] at hlog
    exact ⟨(congrArg FabSt.spareCopy hlog.fab).trans hcopy, (hlog.flag (by decide) _).trans hbusy⟩
  · exact State.spareCopyPage_copies hk he ho hr
  · obtain ⟨hcopy, hvalid, hmap⟩ := State.spareSwitch_of_ended hk he hr hdst
    exact ⟨hcopy, hvalid, hmap.trans (Nat.mod_eq_of_lt (by omega))⟩

end Sys2Proof.Machine
end

section
/-! Requests that a scratch bank serves (R113, R121–R125): what the word code and the bank wait leave, and each kind of
request. -/

namespace Sys2Proof.Machine

/-! Words of scratch. -/

@[simp] theorem le_length (k n : Nat) : (le k n).length = k := by
  induction k generalizing n with
  | zero => rfl
  | succ k ih => rw [le, List.length_cons, ih]

theorem ScrSt.bytes_append (m : ScrSt) (a n k : Nat) : m.bytes a (n + k) = m.bytes a n ++ m.bytes (a + n) k := by
  simp only [ScrSt.bytes, List.range_add, List.map_append, List.map_map, Nat.add_assoc, Function.comp_def]

/-- Two strings stored one after the other read back. -/
theorem ScrSt.bytes_store_append (m : ScrSt) (a : Nat) (x y : Bytes) :
    (m.store a (x ++ y)).bytes a x.length = x ∧ (m.store a (x ++ y)).bytes (a + x.length) y.length = y := by
  refine List.append_inj ?_ (Tab.bytesAt_length _ _ _ _)
  rw [← ScrSt.bytes_append, ← List.length_append]
  exact m.bytes_store_same a (x ++ y)

/-- The check symbols of a word follow its data. -/
theorem scrKey_check (c w : Nat) : scrKey c w 64 = scrKey c w 0 + 64 := by
  simp only [scrKey, Nat.add_zero]

@[simp] theorem State.scrData_length (s : State) (c w : Nat) : (s.scrData c w).length = 64 := Tab.bytesAt_length _ _ _ _

/-- A word that decodes clean is returned as it is stored. -/
theorem State.scrGet_of_clean {s : State} {c w : Nat} (h : s.scrClean c w) : s.scrGet c w = (s, .ok, s.scrData c w) := by
  have hdec : lineDecode (s.scrCheck c w) (s.scrData c w) (s.scrTag c).1 (s.scrTag c).2 = (.clean, s.scrData c w) :=
    Prod.ext h (lineDecode_clean (Prod.ext h rfl))
  unfold State.scrGet
  dsimp only
  rw [← State.scrData, ← State.scrCheck, hdec]

/-- A word written: encoded afresh, and taken off the list of corrected words (R121, R125). -/
def State.scrWrite (s : State) (c w : Nat) (data : Bytes) : State := (s.scrPut c w data).scrOvertake c w

/-- The scratch of `t` holds new data in a word, encoded under the owner and epoch that `s` has for the cluster, and in
the other words the data of `s`. -/
structure State.ScrWritten (s t : State) (c w : Nat) (new : Bytes) : Prop where
  data : t.scrData c w = new
  check : t.scrCheck c w = lineCheck new (s.scrTag c).1 (s.scrTag c).2
  others : ∀ v, v ≠ w → t.scrData c v = s.scrData c v

theorem State.scrWrite_written (s : State) (c w : Nat) {new : Bytes} (hn : new.length = 64) :
    s.ScrWritten (s.scrWrite c w new) c w new := by
  obtain ⟨hdata, hcheck⟩ :=
    s.scr.bytes_store_append (scrKey c w 0) new (lineCheck new (s.scrTag c).1 (s.scrTag c).2)
  rw [hn] at hdata hcheck
  rw [← scrKey_check, lineCheck_length] at hcheck
  refine ⟨hdata, hcheck, fun v hv => s.scr.bytes_store_apart ?_⟩
  rw [List.length_append, hn, lineCheck_length]
  simp only [scrKey]
  omega

/-! The wait for the bank (R118). -/

/-- The owner and epoch symbols of a cluster come from the partition controller's registers. -/
theorem State.scrTag_of_regs {s t : State} {c : Nat} (hc : c < 16) (h : ∀ k, k < 0x800000 → t.reg k = s.reg k) :
    t.scrTag c = s.scrTag c := by
  have howner : t.clOwner c = s.clOwner c := by
    rw [State.clOwner, State.mapEntry, h _ (by simp only [Reg.PT_MAP_ACT]; omega), ← State.mapEntry, ← State.clOwner]
  unfold State.scrTag
  rw [howner]
  cases hp : s.clOwner c with
  | none => rfl
  | some p =>
    have hlt : p < 16 := asPart_lt hp
    have hepoch : t.epoch p = s.epoch p :=
      congrArg Fld.PT_EPOCH_EPOCH.get (h (Reg.PT_EPOCH p) (by simp only [Reg.PT_EPOCH]; omega))
    simp only [hepoch]

theorem State.bankWait_reg (s : State) (c b : Nat) {k : Nat} (hk : k < 0x800000) : (s.bankWait c b).reg k = s.reg k := by
  have hne : k ≠ Reg.SCR_CONFLICT c b := by
    simp only [Reg.SCR_CONFLICT]
    omega
  unfold State.bankWait
  dsimp only
  split
  · exact State.reg_bumpBy_ne _ _ _ hne
  · rfl

theorem State.bankWait_scrTag (s : State) {c : Nat} (hc : c < 16) (b : Nat) : (s.bankWait c b).scrTag c = s.scrTag c :=
  State.scrTag_of_regs hc (fun _ => s.bankWait_reg c b)

/-- Of scratch, the wait changes only the cycles from which banks are free. -/
theorem State.bankWait_scr (s : State) (c b : Nat) : ∃ l, (s.bankWait c b).scr = { s.scr with busyUntil := l } := by
  unfold State.bankWait
  dsimp only
  split <;> exact ⟨_, rfl⟩

theorem State.bankWait_cells (s : State) (c b : Nat) : (s.bankWait c b).scr.cells = s.scr.cells := by
  obtain ⟨l, hl⟩ := s.bankWait_scr c b
  rw [hl]

theorem State.bankWait_bytes (s : State) (c b a n : Nat) : (s.bankWait c b).scr.bytes a n = s.scr.bytes a n := by
  obtain ⟨l, hl⟩ := s.bankWait_scr c b
  rw [hl]
  rfl

theorem State.bankWait_scrData (s : State) (c b d w : Nat) : (s.bankWait c b).scrData d w = s.scrData d w :=
  s.bankWait_bytes _ _ _ _

theorem State.scrClean.bankWait {s : State} {c w : Nat} (h : s.scrClean c w) (hc : c < 16) (b : Nat) :
    (s.bankWait c b).scrClean c w := by
  unfold State.scrClean State.scrCheck State.scrData at h ⊢
  rw [State.bankWait_bytes, State.bankWait_bytes, State.bankWait_scrTag _ hc]
  exact h

/-- A word written once the bank is free. -/
theorem State.scrWrite_bankWait_written (s : State) {c : Nat} (hc : c < 16) (b w : Nat) {new : Bytes} (hn : new.length = 64) :
    s.ScrWritten ((s.bankWait c b).scrWrite c w new) c w new := by
  obtain ⟨hdata, hcheck, hothers⟩ := (s.bankWait c b).scrWrite_written c w hn
  refine ⟨hdata, ?_, fun v hv => (hothers v hv).trans (s.bankWait_scrData c b c v)⟩
  rw [hcheck, State.bankWait_scrTag _ hc]

/-! The kinds of request (R121–R123), each at a word that decodes clean. -/

theorem State.scrServe_full (s : State) (c a : Nat) (d : Bytes) :
    s.scrServe c a (.full d) = (s.scrWrite c (a / 64) d, .ok, []) := rfl

theorem State.scrServe_read {s : State} {c a : Nat} (h : s.scrClean c (a / 64)) (len : Nat) :
    s.scrServe c a (.read len) = (s, .ok, slice (s.scrData c (a / 64)) (a % 64) len) := by
  simp [State.scrServe, State.scrGet_of_clean h, MemStatus.good]

theorem State.scrServe_part {s : State} {c a : Nat} (h : s.scrClean c (a / 64)) (d : Bytes) :
    s.scrServe c a (.part d) = (s.scrWrite c (a / 64) (overlay (s.scrData c (a / 64)) (a % 64) d), .ok, []) := by
  simp [State.scrServe, State.scrMerge, State.scrGet_of_clean h, MemStatus.good, State.scrWrite]

/-- An atomic that is aligned returns the old value and writes the new one. -/
theorem State.scrAtomic_of_aligned {s : State} {c a : Nat} {wide : Bool} (h : s.scrClean c (a / 64))
    (ha : a % (if wide then 8 else 4) = 0) (f : Nat → Nat) :
    s.scrAtomic c a wide f =
      let n := if wide then 8 else 4
      let x := leAt (s.scrData c (a / 64)) (a % 64) n
      (s.scrWrite c (a / 64) (overlay (s.scrData c (a / 64)) (a % 64) (le n (f x % 2 ^ (8 * n)))), .ok, le n x) := by
  unfold State.scrAtomic
  dsimp only
  rw [if_neg (not_not_intro ha), State.scrGet_of_clean h]
  rfl

/-- An aligned atomic lies within its word. -/
theorem atomic_within_word {a : Nat} {wide : Bool} (ha : a % (if wide then 8 else 4) = 0) :
    a % 64 + (if wide then 8 else 4) ≤ 64 := by
  cases wide
  · simp only [Bool.false_eq_true, if_false] at ha ⊢
    omega
  · simp only [if_true] at ha ⊢
    omega

/-! A request of the owner's port at a settled bank. -/

theorem State.scrRequest_of_serves {s : State} {c a : Nat} {port : ScrPort} (h : ScrServes s c port a) (op : ScrOp) :
    s.scrRequest ⟨c, port, a, op⟩ =
      (((s.bankWait c (a / 2 ^ 19)).scrServe c a op).1, .done ((s.bankWait c (a / 2 ^ 19)).scrServe c a op).2.1
        ((s.bankWait c (a / 2 ^ 19)).scrServe c a op).2.2) := by
  obtain ⟨hinside, hready, hsettled, howned⟩ := h
  unfold State.scrRequest
  dsimp only
  rw [if_neg (Nat.not_le.mpr hinside), hready, hsettled, howned]
  rfl

section Served

variable {i : Instr} {s : State} {c : Fin 16} {a : Nat} {port : ScrPort} {op : ScrOp} (hs : s.Live)
  (hv : ScrServes s c port a) (hi : exec i s = s.answer (s.unitAct (fun s => s.scrCommand ⟨c, port, a, op⟩)))
include hs hv hi

/-- What a request that is served leaves: its completion beside the scratch that serving it leaves. -/
theorem completes_of_serve {t : State} {st : MemStatus} {r : Bytes}
    (hrun : (s.bankWait c (a / 2 ^ 19)).scrServe c a op = (t, st, r)) {P : State → Prop}
    (hP : ∀ u : State, u.scr = { t.scr with cpl := [⟨⟨c, port, a, op⟩, st, r⟩] } → P u) : Completes i s P := by
  refine completes_of_answer (hi.trans (congrArg s.answer (hs.unit _))) (hP _ ?_)
  rw [State.scrCommand, State.scrRequest_of_serves hv, hrun]

/-- A request that is served by writing its word. -/
theorem completes_of_scrWrite {r new : Bytes}
    (hrun : (s.bankWait c (a / 2 ^ 19)).scrServe c a op = ((s.bankWait c (a / 2 ^ 19)).scrWrite c (a / 64) new, .ok, r))
    (hn : new.length = 64) :
    Completes i s (fun t => t.scr.cpl = [⟨⟨c, port, a, op⟩, .ok, r⟩] ∧ s.ScrWritten t c (a / 64) new) := by
  refine completes_of_serve hs hv hi hrun (fun u hu => ?_)
  obtain ⟨hdata, hcheck, hothers⟩ := s.scrWrite_bankWait_written c.isLt (a / 2 ^ 19) (a / 64) hn
  have hbytes (k n : Nat) : u.scr.bytes k n = ((s.bankWait c (a / 2 ^ 19)).scrWrite c (a / 64) new).scr.bytes k n := by
    rw [hu]
    rfl
  exact ⟨by rw [hu], (hbytes _ _).trans hdata, (hbytes _ _).trans hcheck, fun v hv => (hbytes _ _).trans (hothers v hv)⟩

/-- A request that is served by laying bytes over its word. -/
theorem completes_of_overlay {r d : Bytes}
    (hrun : (s.bankWait c (a / 2 ^ 19)).scrServe c a op
      = ((s.bankWait c (a / 2 ^ 19)).scrWrite c (a / 64) (overlay (s.scrData c (a / 64)) (a % 64) d), .ok, r))
    (hd : a % 64 + d.length ≤ 64) :
    Completes i s (fun t => t.scr.cpl = [⟨⟨c, port, a, op⟩, .ok, r⟩] ∧ s.ScrWritten t c (a / 64)
      ((s.scrData c (a / 64)).take (a % 64) ++ d ++ (s.scrData c (a / 64)).drop (a % 64 + d.length))) := by
  have hfits : a % 64 + d.length ≤ (s.scrData c (a / 64)).length := (s.scrData_length c (a / 64)).symm ▸ hd
  rw [← overlay_eq hfits]
  exact completes_of_scrWrite hs hv hi hrun ((overlay_length hfits).trans (s.scrData_length c (a / 64)))

/-- An atomic that is aligned, of either kind. -/
theorem completes_of_atomic {wide : Bool} {f : Nat → Nat} (hclean : s.scrClean c (a / 64))
    (hop : ∀ t : State, t.scrServe c a op = t.scrAtomic c a wide f) (ha : a % (if wide then 8 else 4) = 0) :
    let n := if wide then 8 else 4
    let old := s.scrData c (a / 64)
    Completes i s (fun t => t.scr.cpl = [⟨⟨c, port, a, op⟩, .ok, le n (leAt old (a % 64) n)⟩] ∧ s.ScrWritten t c (a / 64)
      (old.take (a % 64) ++ le n (f (leAt old (a % 64) n) % 2 ^ (8 * n)) ++ old.drop (a % 64 + n))) := by
  intro n old
  have hrun := (hop _).trans (State.scrAtomic_of_aligned (hclean.bankWait c.isLt (a / 2 ^ 19)) ha f)
  rw [State.bankWait_scrData] at hrun
  have hlen : (le n (f (leAt old (a % 64) n) % 2 ^ (8 * n))).length = n := le_length _ _
  have hwrite := completes_of_overlay hs hv hi hrun (hlen.symm ▸ atomic_within_word ha)
  rwa [hlen] at hwrite

end Served

/-- Settles O29, a kind of request at a time: each is served by one write of its word, and a read by none. -/
theorem scratchRequests : Obligations.ScratchRequests := by
  intro s c port a len d wide x hs hv w off old n done
  have written {i : Instr} {op : ScrOp} {r new : Bytes}
      (h : Completes i s (fun t => t.scr.cpl = [⟨⟨c, port, a.toNat, op⟩, .ok, r⟩] ∧ s.ScrWritten t c w new)) :
      Completes i s (fun t => done t op r new) := by
    obtain ⟨t, ht, hcpl, hdata, hcheck, hothers⟩ := h
    exact ⟨t, ht, hcpl, hdata, hcheck, hothers⟩
  refine ⟨fun hd => written (completes_of_scrWrite hs hv rfl (State.scrServe_full _ _ _ _) hd), fun hclean => ?_⟩
  have hfree := hclean.bankWait c.isLt (a.toNat / 2 ^ 19)
  refine ⟨completes_of_serve hs hv rfl (State.scrServe_read hfree len) (fun u hu => ?_), fun hd => written ?_,
    fun ha => ⟨written (completes_of_atomic (f := (· + x.toNat)) hs hv rfl hclean (fun _ => rfl) ha),
      written (completes_of_atomic (f := fun _ => x.toNat) hs hv rfl hclean (fun _ => rfl) ha)⟩⟩
  · rw [hu, State.bankWait_scrData, State.bankWait_cells]
    exact ⟨rfl, rfl⟩
  · have hrun := State.scrServe_part hfree d
    rw [State.bankWait_scrData] at hrun
    exact completes_of_overlay hs hv rfl hrun hd

end Sys2Proof.Machine
end

section
/-! Writes of SCR_OWN (R115, R116) at a bank without a handover pending. -/

namespace Sys2Proof.Machine

theorem exec_scrOwnWrite {s : State} (hs : s.Live) (w : ClWriter) (c : Fin 16) (b : Fin 24) (v : Word) :
    exec (.scrOwnWrite w c b v) s = s.answer (s.scrOwnWrite c b v) := congrArg s.answer (hs.cl _ _ _ _)

/-- The owner code that a write of SCR_OWN names. -/
theorem scrOwn_code (v : Word) : (v &&& 0xF).toNat = v.toNat % 16 := by
  rw [BitVec.toNat_and]
  exact Nat.and_two_pow_sub_one_eq_mod v.toNat 4

/-- The state with a bank's owner set and its handover pending (R116). -/
def State.scrHandOver (s : State) (c b code : Nat) : State :=
  let k := Reg.SCR_OWN c b
  let t := (s.setFld k Fld.SCR_OWN_OWNER code).setFld k Fld.SCR_OWN_PENDING 1
  { t with scr := { t.scr with
    handover := Tab.set (fun _ => 0) s.scr.handover (bankKey c b) (s.now * 16 + s.fld k Fld.SCR_OWN_OWNER) } }

/-- A write of SCR_OWN with no handover pending, by the code written. -/
theorem State.scrOwnWrite_of_settled {s : State} {c b : Nat} (h : s.flag (Reg.SCR_OWN c b) Fld.SCR_OWN_PENDING = false)
    (v : Word) :
    s.scrOwnWrite c b v =
      if 6 ≤ v.toNat % 16 then s.setFld (Reg.SCR_STATUS c) Fld.SCR_STATUS_BAD_OWNER 1
      else if v.toNat % 16 = s.fld (Reg.SCR_OWN c b) Fld.SCR_OWN_OWNER then s
      else s.scrHandOver c b (v.toNat % 16) := by
  rw [State.scrOwnWrite, scrOwn_code, h]
  rfl

theorem State.scrHandOver_reg (s : State) (c b code k : Nat) : (s.scrHandOver c b code).reg k
    = ((s.setFld (Reg.SCR_OWN c b) Fld.SCR_OWN_OWNER code).setFld (Reg.SCR_OWN c b) Fld.SCR_OWN_PENDING 1).reg k := rfl

theorem State.scrHandOver_owner (s : State) (c b : Nat) {code : Nat} (h : code < 16) :
    (s.scrHandOver c b code).fld (Reg.SCR_OWN c b) Fld.SCR_OWN_OWNER = code := by
  rw [State.fld, State.scrHandOver_reg, ← State.fld, State.fld_setFld_other _ _ _ _ _ (by decide) (by decide),
    State.fld_setFld_same _ _ _ _ (by decide)]
  exact Nat.mod_eq_of_lt h

theorem State.scrHandOver_pending (s : State) (c b code : Nat) :
    (s.scrHandOver c b code).flag (Reg.SCR_OWN c b) Fld.SCR_OWN_PENDING = true := by
  rw [State.flag, State.fld, State.scrHandOver_reg, ← State.fld, ← State.flag]
  exact State.flag_setFld_one _ _ _ (by decide) (by decide)

theorem State.scrHandOver_reg_ne (s : State) (c b code : Nat) {k : Nat} (h : k ≠ Reg.SCR_OWN c b) :
    (s.scrHandOver c b code).reg k = s.reg k := by
  rw [State.scrHandOver_reg, State.reg_setFld_ne _ _ _ h, State.reg_setFld_ne _ _ _ h]

/-- Settles O30, by the code written: reserved, held, or another. -/
theorem scratchOwnership : Obligations.ScratchOwnership := by
  intro s w c b v hs hpend code
  have hwrite := State.scrOwnWrite_of_settled hpend v
  refine ⟨fun hres => leaves_of_answer (exec_scrOwnWrite hs w c b v) ?_ rfl ⟨rfl, rfl⟩,
    fun hheld hlt => leaves_self (exec_scrOwnWrite hs w c b v) ?_,
    fun hother hlt => completes_of_answer (exec_scrOwnWrite hs w c b v) ?_⟩
  · rw [hwrite, if_pos hres]
    exact Logged.refl _
  · rw [hwrite, if_neg (Nat.not_le.mpr hlt), if_pos hheld]
  · rw [hwrite, if_neg (Nat.not_le.mpr hlt), if_neg hother]
    exact ⟨s.scrHandOver_owner c b (Nat.mod_lt _ (by decide)), s.scrHandOver_pending c b _,
      fun k hk => s.scrHandOver_reg_ne c b _ hk⟩

end Sys2Proof.Machine
end

section
/-! The matrix engines' state under the operations that a command's end is made of (R140–R145, R161, R168): setting an engine,
a command's completion, and the registers that neither touches. -/

namespace Sys2Proof.Machine

/-! What leaves the engines as they are. -/

theorem State.engine_of_eng {s t : State} (h : t.eng = s.eng) (e : Nat) : t.engine e = s.engine e := by
  rw [State.engine, h, State.engine]

/-- The registers of the clusters in which an engine's completion counters and its LFSR stand (R168). -/
def engHeld (k : Nat) : Prop := 0x1000000 ≤ k ∧ k < 0x2000000 ∧ 0x80 ≤ k % 0x1000 ∧ k % 0x1000 < 0xC8

/-- The state `t` holds the engines of `s`, with their completion counters and LFSRs. -/
structure EngKept (s t : State) : Prop where
  eng : t.eng = s.eng
  regs : ∀ k, engHeld k → t.reg k = s.reg k

theorem EngKept.refl (s : State) : EngKept s s := ⟨rfl, fun _ _ => rfl⟩

theorem EngKept.trans {s t u : State} (h1 : EngKept s t) (h2 : EngKept t u) : EngKept s u :=
  ⟨h2.eng.trans h1.eng, fun k hk => (h2.regs k hk).trans (h1.regs k hk)⟩

theorem EngKept.engine {s t : State} (h : EngKept s t) (e : Nat) : t.engine e = s.engine e := State.engine_of_eng h.eng e

theorem EngKept.setReg {s t : State} (h : EngKept s t) {k : Nat} (hk : ¬ engHeld k) (v : Word) : EngKept s (t.setReg k v) :=
  ⟨h.eng, fun j hj => (State.reg_setReg_ne _ _ (by rintro rfl; exact hk hj)).trans (h.regs j hj)⟩

theorem EngKept.setFld {s t : State} (h : EngKept s t) {k : Nat} (hk : ¬ engHeld k) (f : Fld) (n : Nat) :
    EngKept s (t.setFld k f n) := h.setReg hk _

theorem EngKept.bumpBy {s t : State} (h : EngKept s t) {k : Nat} (hk : ¬ engHeld k) (f : Fld) (n : Nat) :
    EngKept s (t.bumpBy k f n) := h.setReg hk _

theorem EngKept.bump {s t : State} (h : EngKept s t) {k : Nat} (hk : ¬ engHeld k) (f : Fld) : EngKept s (t.bump k f) :=
  h.setReg hk _

theorem EngKept.foldl {s t : State} {k : Nat → Nat} {l : List Nat} (hk : ∀ j ∈ l, ¬ engHeld (k j)) (v : Nat → Word)
    (h : EngKept s t) : EngKept s (l.foldl (fun t j => t.setReg (k j) (v j)) t) := by
  induction l generalizing t with
  | nil => exact h
  | cons j l ih => exact ih (fun i hi => hk i (List.mem_cons_of_mem _ hi)) (h.setReg (hk j List.mem_cons_self) _)

theorem EngKept.ite {s a b : State} {c : Prop} [Decidable c] (ha : EngKept s a) (hb : EngKept s b) :
    EngKept s (if c then a else b) := by
  split
  · exact ha
  · exact hb

/-- What is kept account of does not reach the engines. -/
theorem Logged.engKept {s t : State} (h : Logged s t) : EngKept s t := by
  refine ⟨?_, fun k hk => h.regs k ?_⟩
  · have := congrArg State.eng h.rest
    exact this
  · obtain ⟨hlo, hhi, -, -⟩ := hk
    simp only [bookKey, Bool.or_eq_false_iff, Bool.and_eq_false_iff, decide_eq_false_iff_not]
    omega

theorem EngKept.tailEvent {s t : State} (h : EngKept s t) (n k c d : Nat) : EngKept s (t.tailEvent n k c d) :=
  h.trans ((Logged.refl t).tailEvent n k c d).engKept

/-- A row whose answer is a state completes with what its engines, counters and LFSRs tell. -/
theorem completes_of_engKept {i : Instr} {s t : State} {P : State → Prop} (hi : exec i s = s.answer t)
    (h : ∀ u, EngKept t u → P u) : Completes i s P :=
  completes_of_answer hi (h _ ⟨rfl, fun _ _ => rfl⟩)

/-! An engine set. -/

/-- The registers that show an engine's state are none of its counters and LFSR. -/
theorem State.engSync_kept (s : State) (e : Nat) : EngKept s (s.engSync e) := by
  have hq : ¬ engHeld (Reg.ENG_QSTAT (e / 4) (e % 4)) := by simp only [engHeld, Reg.ENG_QSTAT]; omega
  have hs : ¬ engHeld (Reg.ENG_STATUS (e / 4) (e % 4)) := by simp only [engHeld, Reg.ENG_STATUS]; omega
  have ht : ¬ engHeld (Reg.TRW_STATUS (e / 4) (e % 4)) := by simp only [engHeld, Reg.TRW_STATUS]; omega
  have hc : ∀ j ∈ List.range 4, ¬ engHeld (Reg.ENG_CPL (e / 4) (e % 4) j) := by
    intro j hj
    have := List.mem_range.mp hj
    simp only [engHeld, Reg.ENG_CPL]
    omega
  exact (EngKept.foldl hc _ (((((((EngKept.refl s).setFld hq _ _).setFld hq _ _).setFld hq _ _).setFld hq _ _).setFld hs
    _ _).setFld hs _ _)).setFld ht _ _

/-- The state with an engine set, its registers as they were. -/
def State.withEngine (s : State) (e : Nat) (g : EngSt) : State := { s with eng := Tab.set (fun _ => engDefault) s.eng e g }

theorem State.setEngine_kept (s : State) (e : Nat) (g : EngSt) : EngKept (s.withEngine e g) (s.setEngine e g) :=
  State.engSync_kept _ e

@[simp] theorem State.engine_setEngine_same (s : State) (e : Nat) (g : EngSt) : (s.setEngine e g).engine e = g :=
  ((s.setEngine_kept e g).engine e).trans (Tab.get_set_same _ _ _ _)

theorem State.reg_setEngine (s : State) (e : Nat) (g : EngSt) {k : Nat} (hk : engHeld k) : (s.setEngine e g).reg k = s.reg k :=
  (s.setEngine_kept e g).regs k hk

/-! A command's completion takes effect. -/

/-- The engine of a command that ends: its record has joined the completion FIFO where one is made (R145, R162). -/
def State.recorded (s : State) (e : Nat) (d : List Word) (x : EngEnd) : EngSt :=
  if dReport d || x.status != 0 then { s.engine e with cpl := (s.engine e).cpl ++ [s.engRecord e d x] } else s.engine e

/-- Beside the record and the completion counter, an end changes counters and what is kept account of. -/
theorem State.engEnd_kept (s : State) (e : Nat) (d : List Word) (x : EngEnd) :
    EngKept ((s.setEngine e (s.recorded e d x)).engCcInc e (dCc d)) (s.engEnd e d x) := by
  have hcmds : ¬ engHeld (Reg.ENG_CNT_CMDS (e / 4) (e % 4)) := by simp only [engHeld, Reg.ENG_CNT_CMDS]; omega
  have hover : ¬ engHeld (Reg.ENG_CNT_OVERRUN (e / 4) (e % 4)) := by simp only [engHeld, Reg.ENG_CNT_OVERRUN]; omega
  have herror : ¬ engHeld (Reg.ENG_CNT_ERROR (e / 4) (e % 4)) := by simp only [engHeld, Reg.ENG_CNT_ERROR]; omega
  have htrw : ¬ engHeld (Reg.TRW_CNT_ERR (e / 4) (e % 4)) := by simp only [engHeld, Reg.TRW_CNT_ERR]; omega
  have hlast : ¬ engHeld (Reg.TRW_STATUS (e / 4) (e % 4)) := by simp only [engHeld, Reg.TRW_STATUS]; omega
  have h0 := (EngKept.refl ((s.setEngine e (s.recorded e d x)).engCcInc e (dCc d))).bump hcmds Fld.ENG_CNT_CMDS_COUNT
  have h1 := EngKept.ite (c := x.status = 0) h0 (.ite (c := x.status = 1) (h0.bump hover Fld.ENG_CNT_OVERRUN_COUNT)
    (h0.bump herror Fld.ENG_CNT_ERROR_COUNT))
  have h2 := EngKept.ite (c := x.status = 7)
    ((h1.bump htrw Fld.TRW_CNT_ERR_COUNT).setFld hlast Fld.TRW_STATUS_LAST_ERR x.detail) h1
  exact EngKept.ite h2 (h2.tailEvent _ _ _ _)

theorem State.engine_engCcInc (s : State) (e i j : Nat) : (s.engCcInc e i).engine j = s.engine j :=
  State.engine_of_eng (State.bump_eng _ _ _) j

theorem State.engEnd_engine (s : State) (e : Nat) (d : List Word) (x : EngEnd) :
    (s.engEnd e d x).engine e = s.recorded e d x :=
  ((s.engEnd_kept e d x).engine e).trans ((State.engine_engCcInc _ _ _ _).trans (State.engine_setEngine_same s e _))

/-- Of its engine, a command that ends changes only the completion FIFO. -/
theorem State.engEnd_engine_cpl (s : State) (e : Nat) (d : List Word) (x : EngEnd) :
    ∃ l, (s.engEnd e d x).engine e = { s.engine e with cpl := l } := by
  rw [State.engEnd_engine, State.recorded]
  split
  · exact ⟨_, rfl⟩
  · exact ⟨_, rfl⟩

/-- The low byte of a record is the status (R161). -/
theorem State.engRecord_status (s : State) (e : Nat) (d : List Word) (x : EngEnd) :
    dw (s.engRecord e d x) 0 % 256 = x.status % 256 := by
  simp only [State.engRecord, dw, List.getD_cons_zero, BitVec.toNat_ofNat]
  have flagByte (b : Bool) {n : Nat} (hn : 2 ^ n % 256 = 0) : (if b then 2 ^ n else 0) % 256 = 0 := by
    rw [apply_ite (· % 256), hn, ite_self]
  have late := flagByte x.late (n := 24) rfl
  have nan := flagByte (x.status == 0 && x.nan) (n := 26) rfl
  have inf := flagByte (x.status == 0 && x.inf) (n := 27) rfl
  have ovf := flagByte (x.status == 0 && x.ovf) (n := 28) rfl
  omega

end Sys2Proof.Machine
end

section
/-! Command queues and completion counters (R140, R141, R144, R145, R164, R165). -/

namespace Sys2Proof.Machine

/-! The rows in a live die. -/

theorem exec_engEnqueue {s : State} (hs : s.Live) (e : Fin 64) (w : EngWrite) :
    exec (.engEnqueue e w) s = s.answer (s.engEnqueue e w) := congrArg s.answer (hs.unit _)

theorem exec_engCplPop {s : State} (hs : s.Live) (w : ClWriter) (e : Fin 64) :
    exec (.engCplPop w e) s = s.answer (s.engPop e) := congrArg s.answer (hs.cl _ _ _ _)

theorem exec_engFlush {s : State} (hs : s.Live) (w : ClWriter) (e : Fin 64) :
    exec (.engFlush w e) s = s.answer (s.engFlush e) := congrArg s.answer (hs.cl _ _ _ _)

theorem exec_engHeadCompleteDeferred {s : State} (hs : s.Live) (e : Fin 64) :
    exec (.engHeadCompleteDeferred e) s = s.answer (s.engDeferred e) := congrArg s.answer (hs.unit _)

theorem exec_engCcWrite {s : State} (hs : s.Live) (w : ClWriter) (e : Fin 64) (i : Fin 16) (v : Word) (inc : Bool) :
    exec (.engCcWrite w e i v inc) s
      = s.answer (s.setReg (Reg.ENG_CC (e.val / 4) (e.val % 4) i) (if inc then v + 1 else v)) :=
  congrArg s.answer (hs.cl _ _ _ _)

/-- A row that answers the state with one register set leaves that state. -/
theorem leaves_setReg {i : Instr} {s t : State} {k : Nat} {v : Word} (hi : exec i s = s.answer t) (h : t = s.setReg k v) :
    Leaves i s (s.setReg k v) :=
  leaves_of_answer hi (h ▸ Logged.refl _) (State.setReg_pending s k v) ⟨rfl, rfl⟩

/-- Settles O37: the row sets the one register, to the value written or to that value plus 1. -/
theorem completionCounterWrites : Obligations.CompletionCounterWrites := by
  intro s w e i v hs k
  exact ⟨leaves_setReg (exec_engCcWrite hs w e i v false) rfl, leaves_setReg (exec_engCcWrite hs w e i v true) rfl⟩

/-! A write of the command window (R140, R141). -/

theorem State.engWindow_of_room {s : State} {e : Nat} {b : Bytes} (hb : b.length = 64) (hq : (s.engine e).queue.length < 32) :
    (s.engWindow e b).1 = s.setEngine e { s.engine e with
      queue := (s.engine e).queue ++ [wordsOf b]
      headAt := if (s.engine e).queue.isEmpty then s.now else (s.engine e).headAt } := by
  rw [State.engWindow, if_pos hb, State.engPush]
  exact congrArg Prod.fst (if_neg (Nat.not_le.mpr hq))

theorem State.engWindow_of_full {s : State} {e : Nat} {b : Bytes} (hb : b.length = 64)
    (hq : 32 ≤ (s.engine e).queue.length) :
    (s.engWindow e b).1 = s.setFld (Reg.ENG_STATUS (e / 4) (e % 4)) Fld.ENG_STATUS_CMDQ_OVERFLOW 1 := by
  rw [State.engWindow, if_pos hb, State.engPush]
  exact congrArg Prod.fst (if_pos hq)

theorem State.engWindow_of_partial (s : State) (e : Nat) {b : Bytes} (hb : b.length ≠ 64) :
    (s.engWindow e b).1 = s.setFld (Reg.ENG_STATUS (e / 4) (e % 4)) Fld.ENG_STATUS_CMD_PARTIAL 1 := by
  rw [State.engWindow, if_neg hb]

/-! Commands that complete without a start (R145, R164). -/

theorem State.countCplStall_kept (s : State) (e : Nat) : EngKept s (s.countCplStall e) := by
  unfold State.countCplStall
  split
  · exact (EngKept.refl s).bumpBy (by simp only [engHeld, Reg.ENG_CNT_STALL_CPL]; omega) _ _
  · exact .refl s

/-- The head completed with a status other than OK: it leaves the queue, and its record is the newest. -/
theorem State.endHead_engine {s : State} {e : Nat} {d : List Word} {rest : List (List Word)}
    (hq : (s.engine e).queue = d :: rest) {st : Nat} (hst : st ≠ 0) (det : Nat) :
    ∃ (r : List Word) (n : Nat), dw r 0 % 256 = st % 256 ∧ (s.endHead e st det).engine e =
      { (s.engine e).pop n with fetch := none, cpl := (s.engine e).cpl ++ [r] } := by
  unfold State.endHead
  simp only [(s.countCplStall_kept e).engine, hq]
  rw [State.engEnd_engine, State.recorded, if_pos (by simp [EngEnd.plain, hst]), State.engine_setEngine_same]
  exact ⟨_, _, State.engRecord_status _ e d (.plain st det), rfl⟩

/-- An engine's queue flushed (R164): each command has a record of FLUSHED, behind the records that were there. -/
def EngSt.Flushed (g u : EngSt) : Prop :=
  u.queue = [] ∧ ∃ rs, rs.length = g.queue.length ∧ u.cpl = g.cpl ++ rs ∧ ∀ r ∈ rs, dw r 0 % 256 = 0x0A

theorem EngSt.Flushed.of_nil {g : EngSt} (h : g.queue = []) : g.Flushed g :=
  ⟨h, [], by rw [h], (List.append_nil _).symm, fun _ hr => absurd hr List.not_mem_nil⟩

/-- A command flushed before the rest of the queue. -/
theorem EngSt.Flushed.cons {g h u : EngSt} {d r : List Word} (hu : h.Flushed u) (hq : g.queue = d :: h.queue)
    (hc : h.cpl = g.cpl ++ [r]) (hr : dw r 0 % 256 = 0x0A) : g.Flushed u := by
  obtain ⟨hnil, rs, hlen, hcpl, hrs⟩ := hu
  refine ⟨hnil, r :: rs, by rw [hq, List.length_cons, List.length_cons, hlen], ?_, List.forall_mem_cons.mpr ⟨hr, hrs⟩⟩
  rw [hcpl, hc, List.append_assoc, List.singleton_append]

theorem State.engine_withTm (s : State) (x : TimeSt) (e : Nat) : ({ s with tm := x } : State).engine e = s.engine e := rfl

/-- The state in which a flush has completed the head, one cycle later (R164). -/
def State.flushedHead (s : State) (e : Nat) : State :=
  let t := (s.setEngine e { s.engine e with flushing := (s.engine e).flushing - 1 }).endHead e 0x0A 0
  { t with tm := t.tm.next }

theorem State.flushNext_succ {s : State} {e : Nat} {d : List Word} {rest : List (List Word)}
    (hq : (s.engine e).queue = d :: rest) (hf : (s.engine e).flushing ≠ 0) (hfree : (s.engine e).fifoFree = true) (n : Nat) :
    s.flushNext e (n + 1) = (s.flushedHead e).flushNext e n := by
  rw [State.flushNext]
  simp only [hq, hf, hfree, if_false, if_true, List.isEmpty_cons, Bool.false_eq_true, State.flushedHead]

theorem State.flushedHead_engine {s : State} {e : Nat} {d : List Word} {rest : List (List Word)}
    (hq : (s.engine e).queue = d :: rest) :
    ∃ (r : List Word) (now : Nat), dw r 0 % 256 = 0x0A ∧ (s.flushedHead e).engine e =
      { ({ s.engine e with flushing := (s.engine e).flushing - 1 } : EngSt).pop now with
        fetch := none, cpl := (s.engine e).cpl ++ [r] } := by
  have hset := State.engine_setEngine_same s e { s.engine e with flushing := (s.engine e).flushing - 1 }
  obtain ⟨r, now, hr, hend⟩ := State.endHead_engine ((congrArg EngSt.queue hset).trans hq) (by decide : 0x0A ≠ 0) 0
  rw [hset] at hend
  refine ⟨r, now, hr, ?_⟩
  rw [State.flushedHead, State.engine_withTm, hend]

/-- A flush of a queue whose commands all have an entry of the completion FIFO, by the queue. -/
theorem State.flushNext_flushed {e : Nat} : ∀ (q : List (List Word)) (n : Nat) (s : State), (s.engine e).queue = q →
    (s.engine e).flushing = q.length → q.length ≤ n → (s.engine e).cpl.length + (s.engine e).reserved + q.length ≤ 64 →
    (s.engine e).Flushed ((s.flushNext e n).engine e) := by
  intro q
  induction q with
  | nil =>
    intro n s hq hf _ _
    have hstay : s.flushNext e n = s := by
      cases n with
      | zero => rfl
      | succ n =>
        rw [State.flushNext]
        exact if_pos hf
    rw [hstay]
    exact .of_nil hq
  | cons d rest ih =>
    intro n s hq hf hn hroom
    rw [List.length_cons] at hf hn hroom
    obtain ⟨m, rfl⟩ : ∃ m, n = m + 1 := ⟨n - 1, by omega⟩
    rw [State.flushNext_succ hq (by omega) (decide_eq_true (by omega))]
    obtain ⟨r, now, hr, ht⟩ := State.flushedHead_engine hq
    have hrest : ((s.flushedHead e).engine e).queue = rest := by
      rw [ht]
      exact congrArg List.tail hq
    have hcpl : ((s.flushedHead e).engine e).cpl = (s.engine e).cpl ++ [r] := by rw [ht]
    refine EngSt.Flushed.cons (ih m _ hrest ?_ (by omega) ?_) (hrest ▸ hq) hcpl hr
    · rw [ht]
      exact (congrArg (· - 1) hf).trans (Nat.add_sub_cancel _ _)
    · rw [hcpl, ht, List.length_append, List.length_singleton]
      exact (by omega : (s.engine e).cpl.length + 1 + (s.engine e).reserved + rest.length ≤ 64)

/-- A flush set in motion. -/
theorem State.flushSome_flushed (s : State) (e : Nat) {g : EngSt} (hlen : g.queue.length ≤ 32)
    (hroom : g.cpl.length + g.reserved + g.queue.length ≤ 64) :
    g.Flushed (((s.setEngine e { g with flushing := g.queue.length, deferred := none, fetch := none }).flushSome e 33).engine e) := by
  have hg := State.engine_setEngine_same s e { g with flushing := g.queue.length, deferred := none, fetch := none }
  have h := State.flushNext_flushed g.queue 33 _ (by rw [hg]) (by rw [hg]) (by omega)
    (by rw [hg]; exact hroom)
  rw [State.flushSome, State.engine_withTm]
  rwa [hg] at h

/-- A flush of a queue of at most 32 commands that all have an entry (R164). -/
theorem State.engFlush_flushed {s : State} {e : Nat} (hlen : (s.engine e).queue.length ≤ 32)
    (hroom : (s.engine e).cpl.length + (s.engine e).reserved + (s.engine e).queue.length ≤ 64) :
    (s.engine e).Flushed ((s.engFlush e).engine e) := by
  unfold State.engFlush
  dsimp only
  split
  · rename_i hq
    exact .of_nil hq
  · rename_i d rest hq
    exact State.flushSome_flushed _ e hlen hroom

/-- A rejected head that waited for an entry completes once one is free (R145). -/
theorem State.engDeferred_completes {s : State} {e st det : Nat} {d : List Word} {rest : List (List Word)}
    (hq : (s.engine e).queue = d :: rest) (hd : (s.engine e).deferred = some (st, det)) (hf : (s.engine e).flushing = 0)
    (hfree : (s.engine e).fifoFree = true) (hst : st ≠ 0) :
    ((s.engDeferred e).engine e).queue = rest ∧ ((s.engDeferred e).engine e).deferred = none
      ∧ ∃ r, ((s.engDeferred e).engine e).cpl = (s.engine e).cpl ++ [r] ∧ dw r 0 % 256 = st % 256 := by
  have hhead : s.engDeferred e = s.endHead e st det := by
    unfold State.engDeferred
    simp [hfree, hf, hd]
  obtain ⟨r, now, hr, hend⟩ := State.endHead_engine hq hst det
  rw [hhead, hend]
  exact ⟨congrArg List.tail hq, rfl, r, rfl, hr⟩

/-- Settles O36, a row at a time: the window by the bytes and the room, the pop, the flush, the deferred completion. -/
theorem engineQueues : Obligations.EngineQueues := by
  intro s e w b hs g k
  have henq := exec_engEnqueue hs e (.dma b)
  refine ⟨fun hb hq => completes_of_engKept henq (fun u hu => ?_), fun hb hq => leaves_setReg henq ?_,
    fun hb => leaves_setReg henq ?_, completes_of_engKept (exec_engCplPop hs w e) (fun u hu => ?_),
    fun hlen hroom => completes_of_engKept (exec_engFlush hs w e) (fun u hu => ?_),
    fun d rest st det hq hd hf hfree hst => completes_of_engKept (exec_engHeadCompleteDeferred hs e) (fun u hu => ?_)⟩
  · rw [hu.engine, State.engEnqueue, State.engWindow_of_room hb hq, State.engine_setEngine_same]
  · exact State.engWindow_of_full hb hq
  · exact State.engWindow_of_partial s e hb
  · rw [hu.engine, State.engPop, State.engine_setEngine_same]
  · rw [hu.engine]
    exact State.engFlush_flushed hlen hroom
  · rw [hu.engine]
    exact State.engDeferred_completes hq hd hf hfree (by rintro rfl; exact hst rfl)

end Sys2Proof.Machine
end

section
/-! The head of an idle engine's queue starts (R136, R145, R147–R149). -/

namespace Sys2Proof.Machine

/-! The descriptor's regions lie within the cluster's 24 banks (R148). -/

/-- A descriptor that passes every check names no region that reaches beyond scratch. -/
theorem region_inside_of_descFail {d : List Word} (hd : descFail d = none) {r : Nat × Nat × Nat} (hr : r ∈ regions d) :
    r.2.1 + r.2.2 ≤ 12582912 := by
  simp only [descFail, Option.map_eq_none_iff, List.idxOf?_eq_none_iff, List.mem_cons, not_or] at hd
  obtain ⟨-, -, -, -, -, -, -, -, -, -, -, hout, -⟩ := hd
  refine Nat.le_of_not_lt fun hlt => hout (Eq.symm ?_)
  exact List.any_eq_true.mpr ⟨r, hr, decide_eq_true hlt⟩

theorem regionBanks_lt {a len b : Nat} (hin : a + len ≤ 12582912) (hb : b ∈ regionBanks a len) : b < 24 := by
  unfold regionBanks at hb
  split at hb
  · cases hb
  · obtain ⟨i, hi, rfl⟩ := List.mem_map.mp hb
    have := List.mem_range.mp hi
    omega

/-- An engine that owns the banks of a command owns them whatever happens to registers that lie above scratch's. -/
theorem State.unowned_of_regs {s t : State} {e : Nat} {d : List Word} (he : e < 64) (hd : descFail d = none)
    (hregs : ∀ k, k < 0x1000000 → t.reg k = s.reg k) (h : s.unowned e d = none) : t.unowned e d = none := by
  simp only [State.unowned, Option.map_eq_none_iff, List.find?_eq_none, List.any_eq_true, not_exists, not_and] at h ⊢
  intro r hr b hb
  have hlt := regionBanks_lt (region_inside_of_descFail hd hr) hb
  rw [State.fld, hregs _ (by simp only [Reg.SCR_OWN]; omega), ← State.fld]
  exact h r hr b hb

/-! The head of the queue of an idle engine. -/

theorem State.headCheck_of_idle {s : State} {e : Nat} {g : EngSt} {d : List Word} (hrun : g.run = none) (hdrain : g.drain = none)
    (hon : s.flag (Reg.ENG_STATUS (e / 4) (e % 4)) Fld.ENG_STATUS_ENABLED = true) (hd : descFail d = none)
    (htimed : dTimed d = false) (hwait : dWaitEn d = false) (hfree : g.fifoFree = true) :
    s.headCheck e g d = .mayStart false := by
  have hover : overlapsDrain g d = false := by rw [overlapsDrain, hdrain]
  have hmet : s.engWaitMet e d = true := by rw [State.engWaitMet, hwait, Bool.not_false, Bool.true_or]
  rw [State.headCheck, hon, hd]
  simp only [htimed, hrun, hmet, hfree, hover]
  rfl

/-- An engine without a run has no tail that could end. -/
theorem State.engTail_of_idle {s : State} {e : Nat} (h : (s.engine e).run = none) : s.engTail e = s := by
  unfold State.engTail
  dsimp only
  rw [h]

/-- The opcodes of a row reach the start phase of the head that the checks let start. -/
theorem State.engStart_of_mayStart {s : State} {e : Nat} {sel : Nat → Bool} {d : List Word} {rest : List (List Word)} {late : Bool}
    (hq : (s.engine e).queue = d :: rest) (hruns : s.engineRuns e = true) (hsel : sel (dOp d) = true)
    (hdef : (s.engine e).deferred = none) (hflush : (s.engine e).flushing = 0) (hrun : (s.engine e).run = none)
    (hcheck : s.headCheck e (s.engine e) d = .mayStart late) : s.engStart e sel = s.engBegin e d late := by
  unfold State.engStart
  dsimp only
  rw [hq]
  dsimp only
  rw [if_neg (by simp [hruns, hsel, hdef, hflush]), State.engTail_of_idle hrun, State.engHead]
  dsimp only
  rw [hcheck]

/-! The start phase (R136, R149). -/

/-- An engine that has started its head: the command runs from `now`, the next is the head, an entry is reserved. -/
def EngSt.Started (g u : EngSt) (d : List Word) (now : Nat) : Prop :=
  (∃ r, u.run = some r ∧ r.desc = d ∧ r.start = now) ∧ u.queue = g.queue.tail ∧ u.reserved = g.reserved + 1 ∧ u.cpl = g.cpl

/-- The bank that the command takes does not matter to this. -/
theorem EngSt.Started.setBank {g u : EngSt} {d : List Word} {now : Nat} (h : g.Started u d now) (b : Nat) (x : BankSt) :
    g.Started (u.setBank b x) d now := by
  unfold EngSt.setBank
  split <;> exact h

theorem EngSt.Started.ite {g u v : EngSt} {d : List Word} {now : Nat} {c : Prop} [Decidable c] (hu : g.Started u d now)
    (hv : g.Started v d now) : g.Started (if c then u else v) d now := by
  split
  · exact hu
  · exact hv

theorem State.now_bumpBy (s : State) (k : Nat) (f : Fld) (n : Nat) : (s.bumpBy k f n).now = s.now := rfl

/-- A command whose regions the engine owns and whose bank it may read starts. -/
theorem State.engBegin_started {s : State} {e : Nat} {d : List Word} (he : e < 64) (hd : descFail d = none)
    (hwait : dWaitEn d = false) (howned : s.unowned e d = none)
    (hbank : ((dOp d == 1 && !dInit d) || dOp d == 2) = true → (s.engine e).bank (dBank d) ≠ .invalid) (late : Bool) :
    (s.engine e).Started ((s.engBegin e d late).engine e) d s.now := by
  unfold State.engBegin
  extract_lets g stall t t' b acc uses popped fetch g1 g2
  have ht' : t' = t := if_neg (by rw [hwait]; decide)
  have hown : t.unowned e d = none := State.unowned_of_regs he hd
    (fun k hk => State.reg_bumpBy_ne _ _ _ (by simp only [Reg.ENG_CNT_STALL_CPL]; omega)) howned
  rw [ht', hown]
  dsimp only
  rw [if_neg (by simpa [acc, b, g] using hbank), State.engine_of_eng (State.setFld_eng _ _ _ _), State.engine_setEngine_same]
  have h1 : g.Started g1 d t'.now := ⟨⟨_, rfl, rfl, rfl⟩, rfl, rfl, rfl⟩
  rw [ht', State.now_bumpBy] at h1
  exact .ite ((EngSt.Started.ite (h1.setBank _ _) h1).setBank _ _) (.ite (h1.setBank _ _) h1)

/-- Settles O38: the head passes every check, so each row takes it to the start phase. -/
theorem engineStarts : Obligations.EngineStarts := by
  intro s e d rest g hq hruns hrun hdrain hdef hflush hon hd htimed hwait hfree howned starts
  have begins {i : Instr} {sel : Nat → Bool} (hi : exec i s = s.answer (s.engStart e sel)) (hsel : sel (dOp d) = true)
      (hbank : ((dOp d == 1 && !dInit d) || dOp d == 2) = true → g.bank (dBank d) ≠ .invalid) : starts i := by
    rw [State.engStart_of_mayStart hq hruns hsel hdef hflush hrun
      (State.headCheck_of_idle hrun hdrain hon hd htimed hwait hfree)] at hi
    refine completes_of_engKept hi (fun u hu => ?_)
    obtain ⟨hstarted, hqueue, hreserved, hcpl⟩ := State.engBegin_started e.isLt hd hwait howned hbank false
    rw [hu.engine]
    exact ⟨hstarted, hqueue.trans (congrArg List.tail hq), hreserved, hcpl⟩
  refine ⟨fun hop => begins rfl ?_ ?_, fun hop hb => begins rfl ?_ ?_, fun hop hb => begins rfl ?_ (fun _ => hb),
    fun hop => begins rfl ?_ ?_, fun hop => begins rfl ?_ ?_⟩
  · simp [hop]
  · simp [hop]
  · simp [hop]
  · intro h
    have hinit : dInit d = false := by simpa [hop] using h
    exact hb.resolve_left (by simp [hinit])
  all_goals simp [hop]

end Sys2Proof.Machine
end

section
/-! What an engine's reads of scratch leave of the engines (R111–R125): nothing of them changes. -/

namespace Sys2Proof.Machine

theorem EngKept.scr {s t : State} (h : EngKept s t) (m : ScrSt) : EngKept s { t with scr := m } := ⟨h.eng, h.regs⟩

theorem EngKept.scrColumns {s t : State} (h : EngKept s t) (c b i : Nat) (x : Byte) : EngKept s (t.scrColumns c b i x) :=
  ⟨h.eng, h.regs⟩

theorem EngKept.errRecord {s t : State} (h : EngKept s t) (n c d a b : Nat) : EngKept s (t.errRecord n c d a b) :=
  h.trans ((Logged.refl t).errRecord n c d a b).engKept

/-- The registers of scratch lie below those of the clusters. -/
theorem not_engHeld_of_lt {k : Nat} (h : k < 0x1000000) : ¬ engHeld k := fun hk => Nat.not_le.mpr h hk.1

/-- A word decoded, by what the decoding finds (R125). -/
theorem State.scrGet_kept (s : State) {c : Nat} (hc : c < 16) (w : Nat) : EngKept s (s.scrGet c w).1 := by
  have hce : ¬ engHeld (Reg.SCR_CE c) := not_engHeld_of_lt (by simp only [Reg.SCR_CE]; omega)
  have htag : ¬ engHeld (Reg.SCR_TAG c) := not_engHeld_of_lt (by simp only [Reg.SCR_TAG]; omega)
  have hue : ¬ engHeld (Reg.SCR_UE c) := not_engHeld_of_lt (by simp only [Reg.SCR_UE]; omega)
  have hst : ¬ engHeld (Reg.SCR_STATUS c) := not_engHeld_of_lt (by simp only [Reg.SCR_STATUS]; omega)
  have h := EngKept.refl s
  unfold State.scrGet
  dsimp only
  split
  · exact h
  · exact ((h.bump hce _).scrColumns _ _ _ _).scr _
  · dsimp only
    exact (h.bump htag _).errRecord _ _ _ _ _
  · dsimp only
    exact ((h.bump hue _).setFld hst _ _).errRecord _ _ _ _ _

theorem State.bankWait_kept (s : State) {c b : Nat} (hc : c < 16) (hb : b < 24) : EngKept s (s.bankWait c b) := by
  have hk : ¬ engHeld (Reg.SCR_CONFLICT c b) := not_engHeld_of_lt (by simp only [Reg.SCR_CONFLICT]; omega)
  exact .ite (((EngKept.refl s).scr _).bumpBy hk _ _) ((EngKept.refl s).scr _)

theorem State.scrServe_read_kept (s : State) {c : Nat} (hc : c < 16) (a len : Nat) :
    EngKept s (s.scrServe c a (.read len)).1 := s.scrGet_kept hc (a / 64)

/-- A read of scratch, whether it is refused, waits or is served (R114, R116, R118). -/
theorem State.scrRequest_read_kept (s : State) {c : Nat} (hc : c < 16) (port : ScrPort) (a len : Nat) :
    EngKept s (s.scrRequest ⟨c, port, a, .read len⟩).1 := by
  have hk : ¬ engHeld (Reg.SCR_NOT_OWNER c) := not_engHeld_of_lt (by simp only [Reg.SCR_NOT_OWNER]; omega)
  have hrefused := (EngKept.refl s).bump hk Fld.SCR_NOT_OWNER_COUNT
  have hserved (ha : ¬ 12582912 ≤ a) : EngKept s ((s.bankWait c (a / 2 ^ 19)).scrServe c a (.read len)).1 :=
    (s.bankWait_kept hc (by omega)).trans (State.scrServe_read_kept _ hc a len)
  unfold State.scrRequest
  dsimp only
  generalize (s.bankWait c (a / 2 ^ 19)).scrServe c a (.read len) = served at hserved
  obtain ⟨t, st, d⟩ := served
  split
  · exact .refl s
  · rename_i ha
    split
    · exact .refl s
    · split
      · split
        · exact (EngKept.refl s).scr _
        · split
          · exact hserved ha
          · exact hrefused
      · split
        · exact hserved ha
        · exact hrefused

/-- The words of a region read one by one (R132). -/
theorem State.engRead_kept {e : Nat} (he : e < 64) (port : ScrPort) (n : Nat) :
    ∀ (s : State) (a len : Nat), EngKept s (s.engRead e port n a len).1 := by
  induction n with
  | zero => exact fun s _ _ => .refl s
  | succ n ih =>
    intro s a len
    have hword := s.scrRequest_read_kept (c := e / 4) (by omega) port a (min 64 len)
    rw [State.engRead]
    split
    · exact .refl s
    · dsimp only
      split
      · exact hword
      · split
        · exact hword.trans (ih _ _ _)
        · exact hword

/-- The operands of an MMA, read region after region until a read fails. -/
theorem State.mmaOperands_kept {s u : State} {e : Nat} (he : e < 64) {d : List Word} {blocks : List TrwBlock} {st : MemStatus}
    {x : MmaIn} (h : s.mmaOperands e d blocks = (u, st, x)) : EngKept s u := by
  have hu : (s.mmaOperands e d blocks).1 = u := congrArg Prod.fst h
  rw [← hu]
  unfold State.mmaOperands
  extract_lets i find read
  have hread {t : State} {port : ScrPort} {n : Nat} {v : State × MemStatus × Bytes} (hv : read t port n = v) :
      EngKept t v.1 := hv ▸ State.engRead_kept he _ _ t _ _
  clear_value read
  have hnext {t : State} {st : MemStatus} {port : ScrPort} {n : Nat} {v : State × MemStatus × Bytes}
      (hv : (if st = .ok then read t port n else (t, st, [])) = v) : EngKept t v.1 := by
    split at hv
    · exact hread hv
    · exact hv ▸ .refl t
  split
  rename_i h0
  split
  rename_i h1
  split
  rename_i h2
  split
  rename_i h3
  exact (((hread h0).trans (hnext h1)).trans (hnext h2)).trans (hnext h3)

end Sys2Proof.Machine
end

section
/-! Ends of commands (R143, R147, R162, R173, R191). -/

namespace Sys2Proof.Machine

/-! The accumulator banks. -/

@[simp] theorem EngSt.bank_setBank (g : EngSt) (b : Nat) (x : BankSt) : (g.setBank b x).bank b = x := by
  unfold EngSt.setBank EngSt.bank
  split <;> rfl

@[simp] theorem EngSt.acc_setBank (g : EngSt) (b c : Nat) (x : BankSt) : (g.setBank b x).acc c = g.acc c := by
  unfold EngSt.setBank
  split <;> rfl

@[simp] theorem EngSt.acc_setAcc (g : EngSt) (b : Nat) (l : List (Nat × Word)) : (g.setAcc b l).acc b = l := by
  unfold EngSt.setAcc EngSt.acc
  split <;> rfl

theorem EngSt.setAcc_rest (g : EngSt) (b : Nat) (l : List (Nat × Word)) :
    (g.setAcc b l).reserved = g.reserved ∧ (g.setAcc b l).queue = g.queue := by
  unfold EngSt.setAcc
  split <;> exact ⟨rfl, rfl⟩

/-- The engine `u` is `g` after the end of its run: idle, the run's entry released, the queue and the elements as they were, and
bank `b` in the state given, if one is. -/
structure EngSt.RunLeft (g u : EngSt) (b : Nat) (bank : Option BankSt) : Prop where
  idle : u.run = none
  released : u.reserved = g.reserved - 1
  queue : u.queue = g.queue
  acc : ∀ c, u.acc c = g.acc c
  taken : ∀ x, bank = some x → u.bank b = x
  kept : bank = none → u.st0 = g.st0 ∧ u.st1 = g.st1

theorem EngSt.runLeft_none (g : EngSt) (b n : Nat) :
    g.RunLeft { g with run := none, reserved := g.reserved - 1, lastBusy := n } b none :=
  ⟨rfl, rfl, rfl, fun _ => rfl, fun _ h => (nomatch h), fun _ => ⟨rfl, rfl⟩⟩

theorem EngSt.RunLeft.setBank {g u : EngSt} {b : Nat} (h : g.RunLeft u b none) (x : BankSt) :
    g.RunLeft (u.setBank b x) b (some x) := by
  have hrest : (u.setBank b x).run = u.run ∧ (u.setBank b x).reserved = u.reserved ∧ (u.setBank b x).queue = u.queue := by
    unfold EngSt.setBank
    split <;> exact ⟨rfl, rfl, rfl⟩
  obtain ⟨hrun, hreserved, hqueue⟩ := hrest
  exact ⟨hrun.trans h.idle, hreserved.trans h.released, hqueue.trans h.queue, fun c => (u.acc_setBank b c x).trans (h.acc c),
    fun y hy => (u.bank_setBank b x).trans (Option.some.inj hy), fun hn => nomatch hn⟩

theorem EngSt.RunLeft.cpl {g u : EngSt} {b : Nat} {bank : Option BankSt} (h : g.RunLeft u b bank) (l : List (List Word)) :
    g.RunLeft { u with cpl := l } b bank := ⟨h.idle, h.released, h.queue, h.acc, h.taken, h.kept⟩

/-! Completion counters and LFSRs (R143, R190). -/

theorem engHeld_cc {e i : Nat} (he : e < 64) (hi : i < 16) : engHeld (Reg.ENG_CC (e / 4) (e % 4) i) := by
  simp only [engHeld, Reg.ENG_CC]
  omega

theorem dCc_lt (d : List Word) : dCc d < 16 := Nat.mod_lt _ (by decide)

/-- A completion counter takes a whole register, and its increment is that of the word. -/
theorem engCc_put_succ (w : Word) : Fld.ENG_CC_COUNT.put w (Fld.ENG_CC_COUNT.get w + 1) = w + 1 := by
  simp only [Fld.put, Fld.get, Fld.mask, Fld.ENG_CC_COUNT]
  apply BitVec.eq_of_toNat_eq
  simp

theorem State.reg_engCcInc (s : State) (e i : Nat) :
    (s.engCcInc e i).reg (Reg.ENG_CC (e / 4) (e % 4) i) = s.reg (Reg.ENG_CC (e / 4) (e % 4) i) + 1 :=
  (State.reg_setFld_same _ _ _ _).trans (engCc_put_succ _)

theorem State.lfsr_setLfsr (s : State) (e : Nat) (x : DWord) : (s.setLfsr e x).lfsr e = x := by
  have hne : Reg.ENG_LFSR_LO (e / 4) (e % 4) ≠ Reg.ENG_LFSR_HI (e / 4) (e % 4) := by
    simp only [Reg.ENG_LFSR_LO, Reg.ENG_LFSR_HI]
    omega
  rw [State.lfsr, State.reg64, State.setLfsr, State.setReg64, State.reg_setReg_ne _ _ hne, State.reg_setReg_same,
    State.reg_setReg_same]
  simp only [BitVec.toNat_ofNat]
  apply BitVec.eq_of_toNat_eq
  have := x.isLt
  rw [BitVec.toNat_ofNat]
  omega

/-! The end of a run. -/

theorem State.engCycles_kept (s : State) (e : Nat) (r : EngRun) (n : Nat) : EngKept s (s.engCycles e r n) := by
  have hbusy : ¬ engHeld (Reg.ENG_CNT_BUSY (e / 4) (e % 4)) := by simp only [engHeld, Reg.ENG_CNT_BUSY]; omega
  have hcycles : ¬ engHeld (Reg.ENG_CMD_CYCLES (e / 4) (e % 4)) := by simp only [engHeld, Reg.ENG_CMD_CYCLES]; omega
  have hmac : ¬ engHeld (Reg.ENG_CNT_MAC (e / 4) (e % 4)) := by simp only [engHeld, Reg.ENG_CNT_MAC]; omega
  have htrw : ¬ engHeld (Reg.ENG_CNT_STALL_TRW (e / 4) (e % 4)) := by simp only [engHeld, Reg.ENG_CNT_STALL_TRW]; omega
  have hscr : ¬ engHeld (Reg.ENG_CNT_STALL_SCR (e / 4) (e % 4)) := by simp only [engHeld, Reg.ENG_CNT_STALL_SCR]; omega
  have h := ((EngKept.refl s).bumpBy hbusy Fld.ENG_CNT_BUSY_COUNT n).setFld hcycles Fld.ENG_CMD_CYCLES_COUNT n
  exact .ite (.ite ((h.bumpBy hmac _ _).bumpBy htrw _ _) ((h.bumpBy hmac _ _).bumpBy hscr _ _)) h

theorem State.trwEnded_kept (s : State) (e : Nat) (r : EngRun) : EngKept s (s.trwEnded e r) := by
  have hlines : ¬ engHeld (Reg.TRW_LAST_LINES (e / 4) (e % 4)) := by simp only [engHeld, Reg.TRW_LAST_LINES]; omega
  have hline : ¬ engHeld (Reg.TRW_LAST_ERR_LINE (e / 4) (e % 4)) := by simp only [engHeld, Reg.TRW_LAST_ERR_LINE]; omega
  unfold State.trwEnded
  split
  · exact .refl s
  · dsimp only
    split
    · exact ((EngKept.refl s).setFld hlines _ _).setFld hline _ _
    · exact (EngKept.refl s).setFld hlines _ _

/-- The state `t` is one in which the run `r` of an engine of `s` has ended: the run has left the engine, its completion counter
has advanced, and the other counters and the LFSRs stand. -/
structure RunEnded (s t : State) (e : Nat) (r : EngRun) (bank : Option BankSt) : Prop where
  engine : (s.engine e).RunLeft (t.engine e) (dBank r.desc) bank
  counted : t.reg (Reg.ENG_CC (e / 4) (e % 4) (dCc r.desc)) = s.reg (Reg.ENG_CC (e / 4) (e % 4) (dCc r.desc)) + 1
  others : ∀ k, engHeld k → k ≠ Reg.ENG_CC (e / 4) (e % 4) (dCc r.desc) → t.reg k = s.reg k

theorem RunEnded.kept {s t u : State} {e : Nat} {r : EngRun} {bank : Option BankSt} (h : RunEnded s t e r bank) (he : e < 64)
    (hu : EngKept t u) : RunEnded s u e r bank :=
  ⟨(hu.engine e).symm ▸ h.engine, (hu.regs _ (engHeld_cc he (dCc_lt _))).trans h.counted,
    fun k hk hne => (hu.regs k hk).trans (h.others k hk hne)⟩

theorem RunEnded.lfsr {s t : State} {e : Nat} {r : EngRun} {bank : Option BankSt} (h : RunEnded s t e r bank) (he : e < 64) :
    t.lfsr e = s.lfsr e := by
  have hcc := dCc_lt r.desc
  have hlo : t.reg (Reg.ENG_LFSR_LO (e / 4) (e % 4)) = s.reg (Reg.ENG_LFSR_LO (e / 4) (e % 4)) :=
    h.others _ (by simp only [engHeld, Reg.ENG_LFSR_LO]; omega) (by simp only [Reg.ENG_LFSR_LO, Reg.ENG_CC]; omega)
  have hhi : t.reg (Reg.ENG_LFSR_HI (e / 4) (e % 4)) = s.reg (Reg.ENG_LFSR_HI (e / 4) (e % 4)) :=
    h.others _ (by simp only [engHeld, Reg.ENG_LFSR_HI]; omega) (by simp only [Reg.ENG_LFSR_HI, Reg.ENG_CC]; omega)
  rw [State.lfsr, State.reg64, hlo, hhi, ← State.reg64, ← State.lfsr]

theorem State.endRun_ended (s : State) {e : Nat} (he : e < 64) (r : EngRun) (bank : Option BankSt) (x : EngEnd) :
    RunEnded s (s.endRun e r bank x) e r bank := by
  have hcc := engHeld_cc he (dCc_lt r.desc)
  unfold State.endRun
  extract_lets g n idle left
  have hleft : g.RunLeft left (dBank r.desc) bank := by
    cases bank with
    | none => exact g.runLeft_none _ _
    | some b => exact (g.runLeft_none _ _).setBank b
  have hrun := ((s.setEngine e left).engCycles_kept e r n).trans (State.trwEnded_kept _ e r)
  generalize ((s.setEngine e left).engCycles e r n).trwEnded e r = t at hrun ⊢
  generalize ({ x with runCycles := s.now - r.start } : EngEnd) = y
  obtain ⟨l, hl⟩ := t.engEnd_engine_cpl e r.desc y
  rw [hrun.engine, State.engine_setEngine_same] at hl
  have hend := t.engEnd_kept e r.desc y
  have hreg {k : Nat} (hk : engHeld k) (j : EngSt) : (t.setEngine e j).reg k = s.reg k :=
    (t.reg_setEngine e j hk).trans ((hrun.regs k hk).trans (s.reg_setEngine e left hk))
  refine ⟨hl ▸ hleft.cpl l, ?_, fun k hk hne => ?_⟩
  · rw [hend.regs _ hcc, State.reg_engCcInc, hreg hcc]
  · rw [hend.regs _ hk, State.engCcInc, State.reg_bump_ne _ _ hne, hreg hk]

/-! What a command does in its last cycle (R147, R162, R191), by its opcode. -/

theorem exec_engCommandComplete {s : State} (hs : s.Live) (e : Fin 64) :
    exec (.engCommandComplete e) s = s.answer (s.engComplete e) := congrArg s.answer (hs.unit _)

/-- Without a drain in the background, the run completes. -/
theorem State.engComplete_of_run {s : State} {e : Nat} {r : EngRun} (hrun : (s.engine e).run = some r)
    (hdrain : (s.engine e).drain = none) : s.engComplete e = s.completeRun e r := by
  unfold State.engComplete
  dsimp only
  rw [hdrain, hrun]

theorem State.completeRun_nop {r : EngRun} (h : dOp r.desc = 0) (s : State) (e : Nat) :
    ∃ x, s.completeRun e r = s.endRun e r none x := by
  unfold State.completeRun
  simp only [h]
  exact ⟨_, rfl⟩

theorem State.completeRun_clear {r : EngRun} (h : dOp r.desc = 3) (s : State) (e : Nat) :
    ∃ x, s.completeRun e r = (s.setEngine e ((s.engine e).setAcc (dBank r.desc) [])).endRun e r (some .valid) x := by
  unfold State.completeRun
  simp only [h]
  exact ⟨_, rfl⟩

theorem State.completeRun_seed {r : EngRun} (h : dOp r.desc = 4) (s : State) (e : Nat) :
    ∃ x, s.completeRun e r = (s.setLfsr e (BitVec.ofNat 64 (if dw r.desc 2 + 2 ^ 32 * dw r.desc 3 = 0 then 1
      else dw r.desc 2 + 2 ^ 32 * dw r.desc 3))).endRun e r none x := by
  unfold State.completeRun
  simp only [h]
  exact ⟨_, rfl⟩

/-- The sums of an MMA of scratch operands that are all read (R173). -/
theorem State.runMma_of_read {s u : State} {e : Nat} {r : EngRun} {x : MmaIn} (htrowel : dTrowel r.desc = false)
    (hwait : s.handoverWait e r.desc = false) (hread : s.mmaOperands e r.desc [] = (u, .ok, x)) :
    s.runMma e r
      = some (u.setEngine e ((u.engine e).setAcc (dBank r.desc) (mmaResult (u.engine e) r.desc x)), true) := by
  have hstream : r.stream = .ready [] := by
    rw [EngRun.stream, htrowel, if_neg Bool.false_ne_true]
  unfold State.runMma
  dsimp only
  rw [hwait, if_neg Bool.false_ne_true, hstream]
  dsimp only
  rw [hread]
  exact if_pos rfl

/-- An MMA without a drain ends with its sums in a valid bank (R173). -/
theorem State.completeRun_mma {s v : State} {e : Nat} {r : EngRun} (hop : dOp r.desc = 1) (hafter : dDrainAfter r.desc = false)
    (hmma : s.runMma e r = some (v, true)) : ∃ x, s.completeRun e r = v.endRun e r (some .valid) x := by
  unfold State.completeRun
  simp only [hop, hmma, hafter, Bool.false_eq_true, if_false]
  exact ⟨_, rfl⟩

/-- Settles O39, by the opcode: what the last cycle does to the bank, the register or the sums, and then the end of the run. -/
theorem engineCompletes : Obligations.EngineCompletes := by
  intro s e r hs g d hrun hdrain k ends
  have hi := exec_engCommandComplete hs e
  rw [State.engComplete_of_run hrun hdrain] at hi
  have ended {v : State} {bank : Option BankSt} {P : State → Prop} (hv : ∃ x, s.completeRun e r = v.endRun e r bank x)
      (hrest : (v.engine e).reserved = g.reserved ∧ (v.engine e).queue = g.queue) (hcc : v.reg k = s.reg k)
      (hP : ∀ t, RunEnded v t e r bank → P t) : ends P := by
    obtain ⟨x, hx⟩ := hv
    rw [hx] at hi
    refine completes_of_engKept hi (fun t ht => ?_)
    have h := (v.endRun_ended e.isLt r bank x).kept e.isLt ht
    exact ⟨h.engine.idle, h.engine.released.trans (congrArg (· - 1) hrest.1), h.engine.queue.trans hrest.2,
      h.counted.trans (congrArg (· + 1) hcc), hP t h⟩
  have hk : engHeld k := engHeld_cc e.isLt (dCc_lt d)
  refine ⟨fun hop => ended (s.completeRun_nop hop e) ⟨rfl, rfl⟩ rfl (fun t h => h.engine.kept rfl),
    fun hop => ended (s.completeRun_clear hop e) ?_ (s.reg_setEngine _ _ hk) (fun t h => ?_),
    fun hop => ended (s.completeRun_seed hop e) ⟨rfl, rfl⟩ ?_ (fun t h => ?_),
    fun u x hop htrowel hafter hwait hread =>
      ended (State.completeRun_mma hop hafter (State.runMma_of_read htrowel hwait hread)) ?_ ?_ (fun t h => ?_)⟩
  · rw [State.engine_setEngine_same]
    exact g.setAcc_rest _ _
  · refine ⟨h.engine.taken _ rfl, fun n => ?_⟩
    rw [EngSt.elem, h.engine.acc, State.engine_setEngine_same, EngSt.acc_setAcc, Tab.get_nil]
  · have hcc := dCc_lt d
    exact State.reg_setReg64_ne _ _ (by simp only [k, Reg.ENG_CC, Reg.ENG_LFSR_LO]; omega)
      (by simp only [k, Reg.ENG_CC, Reg.ENG_LFSR_HI]; omega)
  · exact (h.lfsr e.isLt).trans (State.lfsr_setLfsr _ _ _)
  · have hu : EngKept s u := State.mmaOperands_kept e.isLt hread
    rw [State.engine_setEngine_same, hu.engine]
    exact g.setAcc_rest _ _
  · have hu : EngKept s u := State.mmaOperands_kept e.isLt hread
    exact (State.reg_setEngine _ _ _ hk).trans (hu.regs k hk)
  · refine ⟨h.engine.taken _ rfl, ?_⟩
    rw [h.engine.acc, State.engine_setEngine_same, EngSt.acc_setAcc]

end Sys2Proof.Machine
end

section
/-! Operations of a core alone that write one register: products and moves (R228, R271, R272, R277). -/

namespace Sys2Proof.Machine

/-- A row that answers a state in which one core differs completes with it. -/
theorem OneCore.completes {i : Instr} {s t : State} {x : Nat} {c : CoreSt} (h : OneCore s t x c)
    (hi : exec i s = s.answer t) : Completes i s (fun t => OneCore s t x c) :=
  ⟨t, hi.trans h.answer, h⟩

section
variable {i : Instr} {h : OpHdr} {slot : Nat} {mk : State → CoreSt → Plan}
  (hi : ∀ s, exec i s = s.answer (s.present h slot (mk s)))
include hi

/-- A row whose plan is one write at latency 1. -/
theorem does_of_write {d : Dst} {v : State → CoreSt → BitVec 512}
    (hm : ∀ s c, mk s c = { planNone slot with writes := [(d, 1, v s c)] }) :
    Does i h slot (fun s c => c.wrote d (v s c)) :=
  fun s L => (State.present_write L (hm s _)).completes (hi s)

/-- A row whose plan is one write at a longer latency. -/
theorem does_of_fly {d : Dst} {lat : Nat} {v : State → CoreSt → BitVec 512}
    (hm : ∀ s c, mk s c = { planNone slot with writes := [(d, lat, v s c)] }) (hl : lat ≠ 1) :
    Does i h slot (fun s c => c.flying slot lat d (v s c)) :=
  fun s L => (State.present_fly L (hm s _) hl).completes (hi s)

/-- A row whose plan is a read of a special register in the cycle of issue. -/
theorem does_of_timed {gd n : Nat} (hm : ∀ s c, mk s c = { planNone slot with timed := some (gd, n) }) :
    Does i h slot (fun s c => c.flying slot 2 (.g gd) (BitVec.ofNat 512 (s.timedSpecial h.core n))) :=
  fun s L => (State.present_timed L (hm s _)).completes (hi s)

end

/-- Settles O3: each product is one write of latency 3. -/
theorem products : Obligations.Products := by
  intro h gd ga gb
  exact ⟨does_of_fly (fun _ => rfl) (fun _ _ => rfl) (by decide), does_of_fly (fun _ => rfl) (fun _ _ => rfl) (by decide),
    does_of_fly (fun _ => rfl) (fun _ _ => rfl) (by decide)⟩

/-- The special registers that MTS may write (R222). -/
theorem spWritable_of {n : Nat} (h : n = 4 ∨ n = 6 ∨ n = 8 ∨ n = 9 ∨ n = 10) : spWritable n = true := by
  rcases h with rfl | rfl | rfl | rfl | rfl <;> rfl

/-- Settles O5: each move is one write, of latency 1 or 2, or a read of a special register in the cycle of issue. -/
theorem moves : Obligations.Moves := by
  intro h g x y imm
  refine ⟨does_of_write (fun _ => rfl) (fun _ _ => rfl), does_of_write (fun _ => rfl) (fun _ _ => rfl), fun h1 h2 h3 => ?_,
    fun hx => ?_, fun hx => ?_, fun hcore => ⟨?_, ?_⟩, does_of_write (fun _ => rfl) (fun _ _ => rfl),
    does_of_write (fun _ => rfl) (fun _ _ => rfl)⟩
  · exact does_of_fly (fun _ => rfl) (fun _ _ => if_neg (by simp [h1, h2, h3])) (by decide)
  · exact does_of_timed (fun _ => rfl) (fun _ _ => if_pos hx)
  · exact does_of_fly (fun _ => rfl) (fun _ _ => if_pos (spWritable_of hx)) (by decide)
  · exact does_of_fly (fun _ => rfl) (fun _ _ => if_pos hcore) (by decide)
  · exact does_of_fly (fun _ => rfl) (fun _ _ => if_pos hcore) (by decide)

end Sys2Proof.Machine
end

section
/-! Operations of slot B alone in their bundle (R233, R254, R290): the end of the issue, the action, the next bundle. -/

namespace Sys2Proof.Machine

/-! A core between two bundles. -/

/-- A core that waits for nothing: no bundle is being presented, no stall, no write in flight, no pending branch. -/
structure CoreSt.Rests (c : CoreSt) : Prop where
  free : c.stall = .none
  empty : c.bundle = []
  flight : c.pend = []
  straight : c.branch = none

theorem Lone.rests {s : State} {h : OpHdr} {slot : Nat} (L : Lone s h slot) : (s.core h.core).Rests :=
  ⟨L.free, L.empty, L.flight, L.straight⟩

/-- A core with at most one register written. -/
def CoreSt.updated (c : CoreSt) : Option (Dst × BitVec 512) → CoreSt
  | some (d, v) => c.put d v
  | none => c

theorem CoreSt.with_pend {c : CoreSt} {l : List PendWrite} (h : c.pend = l) : { c with pend := l } = c := by
  rw [← h]

/-- At most one register write of a plan, at latency 1. -/
def nextWrite (u : Option (Dst × BitVec 512)) : List (Dst × Nat × BitVec 512) := (u.map (fun w => (w.1, 1, w.2))).toList

/-- The same write in flight. -/
def nextPend (adv slot : Nat) (u : Option (Dst × BitVec 512)) : List PendWrite :=
  (u.map (fun w => ⟨adv + 1, slot, w.1, w.2⟩)).toList

theorem OneCore.nextWrite {s t : State} {x : Nat} {c : CoreSt} (h : OneCore s t x c) (hp : c.pend = []) (slot : Nat)
    (u : Option (Dst × BitVec 512)) :
    OneCore s ((nextWrite u).foldl (fun t w => t.pendWrite x slot w.2.1 w.1 w.2.2) t) x
      { c with pend := nextPend c.adv slot u } := by
  cases u with
  | none =>
    rw [← CoreSt.with_pend hp] at h
    exact h
  | some w =>
    have := h.pendWrite slot 1 w.1 w.2
    rwa [hp] at this

/-- The end of an issue makes the write of latency 1. -/
theorem OneCore.advance_updated {s t : State} {x slot : Nat} {c : CoreSt} {u : Option (Dst × BitVec 512)} (h : OneCore s t x c)
    (hp : c.pend = nextPend c.adv slot u) :
    OneCore s (t.advance x) x (({ c with bundle := [], adv := c.adv + 1, pend := [] } : CoreSt).updated u) := by
  cases u with
  | none =>
    rw [← CoreSt.with_pend hp] at h
    exact h.advance (CoreSt.settle_none _ _ rfl)
  | some w => exact h.advance (CoreSt.settle_due _ _ slot w.1 w.2 hp)

/-! The action of an issued bundle. -/

/-- A core after the action of its bundle: `now` is the cycle of issue, `after` the next offset in line, `tgt` where a return
goes (R233, R250, R254). -/
def CoreSt.acts (c : CoreSt) (now after tgt : Nat) : BAct → CoreSt
  | .branch t => { c with pc := after, branch := some (t, 2) }
  | .call t => { c with pc := after, branch := some (t, 2) }
  | .ret => { c with pc := after, branch := some (tgt, 2) }
  | .tret => c.trapReturn
  | .wait w pd l => { c.nextPc after with stall := .wait w pd l, since := now }
  | _ => c.nextPc after

theorem OneCore.coreStall {s t : State} {x : Nat} {c : CoreSt} (h : OneCore s t x c) (w : Stall) :
    OneCore s (t.coreStall x w) x { c with stall := w, since := s.now } := by
  unfold State.coreStall
  rw [h.core, h.now]
  exact h.setCore _

theorem OneCore.acts {s t : State} {x : Nat} {c : CoreSt} (h : OneCore s t x c) (after tgt : Nat) (act : BAct) :
    OneCore s (t.issueAct x after tgt act) x (c.acts s.now after tgt act) := by
  cases act
  case wait w pd l =>
    have h1 := h.setCore (c.nextPc after)
    rw [← h.core] at h1 ⊢
    exact h1.coreStall _
  all_goals
    unfold State.issueAct
    rw [h.core]
    exact h.setCore _

/-- The action does not see the bundle and the writes in flight. -/
theorem CoreSt.acts_issued {c : CoreSt} (hc : c.Rests) (b : List Plan) (l : List PendWrite) (now after tgt : Nat) (act : BAct) :
    let c1 := ({ c with bundle := b, stall := .none, pend := l } : CoreSt).acts now after tgt act
    c1.pend = l ∧ c1.adv = c.adv
      ∧ ({ c1 with bundle := [], adv := c1.adv + 1, pend := [] } : CoreSt)
        = { c.acts now after tgt act with adv := c.adv + 1 } := by
  obtain ⟨⟩ := c
  obtain ⟨hfree, hempty, hflight, hstraight⟩ := hc
  simp only at hfree hempty hflight hstraight
  subst hfree hempty hflight hstraight
  cases act
  case tret =>
    simp only [CoreSt.acts, CoreSt.trapReturn]
    split
    · split <;> exact ⟨rfl, rfl, rfl⟩
    · exact ⟨rfl, rfl, rfl⟩
  all_goals exact ⟨rfl, rfl, rfl⟩

/-! An operation of slot B presented alone. -/

/-- A plan of slot B with at most one register write. -/
def actPlan (u : Option (Dst × BitVec 512)) (act : BAct) : Plan := { planB act with writes := nextWrite u }

/-- The bundle of an operation of slot B whose stack operation succeeds. The stack operation leaves the core as `c1`; its action
and its write follow, and then a HALT. -/
theorem State.present_act {s s1 : State} {h : OpHdr} {mk : CoreSt → Plan} {act : BAct} {u : Option (Dst × BitVec 512)} {tgt : Nat}
    {c1 : CoreSt} (L : Lone s h 5) (hm : mk (s.core h.core) = actPlan u act)
    (hst : (s.setCore h.core { s.core h.core with bundle := [mk (s.core h.core)] }).stackAct h.core ((s.core h.core).pc + 4) act
      = .inl (s1, tgt))
    (h1 : OneCore s s1 h.core { c1 with bundle := [mk (s.core h.core)] }) (hr : c1.Rests) :
    ∃ r, OneCore s r h.core
        (({ c1.acts s.now ((s.core h.core).pc + 4) tgt act with adv := c1.adv + 1 } : CoreSt).updated u)
      ∧ s.present h 5 mk = if act = .halt then r.coreHalt h.core else r := by
  rw [State.present_lone L, hm] at *
  have h0 := L.one (actPlan u act)
  obtain ⟨t, ht, he⟩ := State.issue_single (tgt := tgt) h0 rfl rfl (by simp [State.planFault, actPlan, planB, planNone, L.straight])
    (by simp [State.bundleWaits, actPlan, planB, planNone]) nofun (fun hne => absurd rfl hne) hst h1
  refine ⟨_, ?_, he⟩
  have hw := (ht.nextWrite (by exact hr.flight) 5 u).acts ((s.core h.core).pc + 4) tgt act
  obtain ⟨hpend, hadv, hend⟩ := CoreSt.acts_issued hr [actPlan u act] (nextPend c1.adv 5 u) s.now
    ((s.core h.core).pc + 4) tgt act
  have ha := hw.advance_updated (slot := 5) (u := u) (by rw [hpend, hadv])
  rwa [hend] at ha

/-- The same without a stack operation and a halt. -/
theorem State.present_plainAct {s : State} {h : OpHdr} {mk : CoreSt → Plan} {act : BAct} {u : Option (Dst × BitVec 512)}
    (L : Lone s h 5) (hm : mk (s.core h.core) = actPlan u act)
    (hst : ∀ t : State, t.stackAct h.core ((s.core h.core).pc + 4) act = .inl (t, 0)) (hh : act ≠ .halt) :
    OneCore s (s.present h 5 mk) h.core
      (({ (s.core h.core).acts s.now ((s.core h.core).pc + 4) 0 act with adv := (s.core h.core).adv + 1 } : CoreSt).updated u) := by
  obtain ⟨r, hr, he⟩ := State.present_act L hm (hst _) (L.one _) L.rests
  rw [he, if_neg hh]
  exact hr

theorem CoreSt.nextPc_of_straight {c : CoreSt} (h : c.branch = none) (after : Nat) : c.nextPc after = { c with pc := after } := by
  unfold CoreSt.nextPc
  split
  · rename_i hb
    cases h.symm.trans hb
  · rfl

/-- A core after a bundle that is no taken branch. -/
theorem CoreSt.Rests.nextPc {c : CoreSt} (hc : c.Rests) : { c.nextPc (c.pc + 4) with adv := c.adv + 1 } = c.stepped := by
  rw [CoreSt.nextPc_of_straight hc.straight]
  rfl

/-! Branches. -/

/-- A core in which a branch is pending for two delay bundles (R233). -/
def CoreSt.branching (c : CoreSt) (n : Nat) : CoreSt := { c with branch := some (n, 2) }

section
variable {i : Instr} {s : State} {h : OpHdr} {mk : CoreSt → Plan} {u : Option (Dst × BitVec 512)} (L : Lone s h 5)
  (hi : exec i s = s.answer (s.present h 5 mk))
include L hi

/-- A taken branch. -/
theorem Lone.taken {n : Nat} (hm : mk (s.core h.core) = actPlan u (.branch n)) :
    Completes i s (fun t => OneCore s t h.core (((s.core h.core).stepped.branching n).updated u)) :=
  (State.present_plainAct L hm (fun _ => rfl) (by simp)).completes hi

/-- A branch that is not taken, and NOP. -/
theorem Lone.passes {act : BAct} (hm : mk (s.core h.core) = actPlan u act) (ha : act = .notTaken ∨ act = .none) :
    Completes i s (fun t => OneCore s t h.core ((s.core h.core).stepped.updated u)) := by
  rw [← L.rests.nextPc]
  rcases ha with rfl | rfl
  · exact (State.present_plainAct L hm (fun _ => rfl) (by simp)).completes hi
  · exact (State.present_plainAct L hm (fun _ => rfl) (by simp)).completes hi

end

/-- The operation's own offset is the core's, where nothing else of its bundle is presented. -/
theorem CoreSt.Rests.dispTarget {c : CoreSt} (hc : c.Rests) (n : Int) : dispTarget c n = trunc 17 (c.pc + 4 * n) := by
  simp [Machine.dispTarget, hc.empty]

/-- Settles O11: each operation is a plan with its branch, and a taken one leaves the branch pending. -/
theorem branches : Obligations.Branches := by
  intro h tgt pc disp ga d12 goes near
  refine ⟨fun s L => L.passes (u := none) rfl rfl (.inr rfl), fun s L => L.taken (u := none) rfl rfl, fun s L => ?_,
    fun s L => ?_, fun s L => L.taken (u := none) rfl rfl, fun s L => ?_⟩
  · have htgt := congrArg BAct.branch (L.rests.dispTarget disp.toInt)
    dsimp only
    split
    case isTrue hp => exact L.taken (u := none) rfl (congrArg (actPlan none) ((if_pos hp).trans htgt))
    case isFalse hp => exact L.passes (u := none) rfl (congrArg (actPlan none) (if_neg hp)) (.inl rfl)
  · have htgt := congrArg BAct.branch (L.rests.dispTarget disp.toInt)
    dsimp only
    split
    case isTrue hp => exact L.passes (u := none) rfl (congrArg (actPlan none) (if_pos hp)) (.inl rfl)
    case isFalse hp => exact L.taken (u := none) rfl (congrArg (actPlan none) ((if_neg hp).trans htgt))
  · have htgt := congrArg BAct.branch (L.rests.dispTarget d12.toInt)
    have hzero : (s.core h.core).gr ga - 1 = 0 ↔ (s.core h.core).gr ga = 1 := sub_eq_zero
    let u : Option (Dst × BitVec 512) := some (.g ga, ((s.core h.core).gr ga - 1).setWidth 512)
    dsimp only
    split
    case isTrue hg => exact L.passes (u := u) rfl (congrArg (actPlan u) (if_pos (hzero.mpr hg))) (.inl rfl)
    case isFalse hg => exact L.taken (u := u) rfl (congrArg (actPlan u) ((if_neg (hzero.not.mpr hg)).trans htgt))

end Sys2Proof.Machine
end

section
/-! Traps and halts of a core alone (R244, R252–R258): what they leave of it and of the other cores. -/

namespace Sys2Proof.Machine

/-- The cores of `t` are those of `s`, but for core `x`, which is `c`. -/
structure CoreSet (s t : State) (x : Nat) (c : CoreSt) : Prop where
  core : t.core x = c
  others : ∀ y, y ≠ x → t.core y = s.core y

theorem OneCore.coreSet {s t : State} {x : Nat} {c : CoreSt} (h : OneCore s t x c) : CoreSet s t x c := ⟨h.core, h.others⟩

theorem CoreSet.of_cores {s t u : State} {x : Nat} {c : CoreSt} (h : CoreSet s t x c) (e : u.cores = t.cores) :
    CoreSet s u x c :=
  ⟨(State.core_of_cores e x).trans h.core, fun y hy => (State.core_of_cores e y).trans (h.others y hy)⟩

theorem CoreSet.setCore {s t : State} {x : Nat} {c : CoreSt} (h : CoreSet s t x c) (c' : CoreSt) :
    CoreSet s (t.setCore x c') x c' :=
  ⟨State.core_setCore_same _ _ _, fun y hy => (State.core_setCore_ne _ _ hy).trans (h.others y hy)⟩

/-- A row that answers a state with one core set completes with it. -/
theorem CoreSet.completes {i : Instr} {s t : State} {x : Nat} {c : CoreSt} (h : CoreSet s t x c) (hi : exec i s = s.answer t) :
    Completes i s (fun t => CoreSet s t x c) :=
  completes_of_answer hi (h.of_cores rfl)

theorem Completes.imp {i : Instr} {s : State} {P Q : State → Prop} (h : Completes i s P) (hPQ : ∀ t, P t → Q t) : Completes i s Q := by
  obtain ⟨t, ht, hP⟩ := h
  exact ⟨t, ht, hPQ t hP⟩

/-! What keeps the cores. -/

@[simp] theorem State.tailEvent_cores (s : State) (n k c d : Nat) : (s.tailEvent n k c d).cores = s.cores := by
  unfold State.tailEvent
  split <;> rfl

@[simp] theorem State.tailEvent_reg (s : State) (n k c d j : Nat) : (s.tailEvent n k c d).reg j = s.reg j := by
  unfold State.tailEvent
  split <;> rfl

@[simp] theorem State.setPxState_cores (s : State) (x n : Nat) : (s.setPxState x n).cores = s.cores :=
  (State.tailEvent_cores _ _ _ _ _).trans (State.setFld_cores _ _ _ _)

theorem State.setPxState_pxState (s : State) (x : Nat) {n : Nat} (hn : n < 8) : (s.setPxState x n).pxState x = n := by
  unfold State.setPxState State.pxState State.fld
  rw [State.tailEvent_reg]
  exact (State.fld_setFld_same _ _ _ _ (by decide)).trans (Nat.mod_eq_of_lt hn)

@[simp] theorem State.raiseEvent_cores (s : State) (n p : Nat) (d : Bytes) : (s.raiseEvent n p d).cores = s.cores := rfl
@[simp] theorem State.raiseEvent_pxState (s : State) (n p : Nat) (d : Bytes) (x : Nat) :
    (s.raiseEvent n p d).pxState x = s.pxState x := rfl

theorem State.trapCopy_cores (s : State) (x : Nat) : (s.trapCopy x).cores = s.cores := by
  unfold State.trapCopy
  split
  · rw [State.setReg_cores, State.setReg_cores, State.setFld_cores, State.setFld_cores]
  · rfl

/-- A core without writes in flight. -/
theorem CoreSet.coreDrain {s t : State} {x : Nat} {c : CoreSt} (h : CoreSet s t x c) (hp : c.pend = []) :
    CoreSet s (t.coreDrain x) x c := by
  unfold State.coreDrain
  simp only [h.core, hp, List.length_nil, CoreSt.drainWrites, State.countLost_zero]
  exact h.setCore _

/-! Traps. -/

/-- The core's owner is told (R253). -/
theorem State.coreFaulted_cores (s : State) {x : Nat} (hx : x < 32) : (s.coreFaulted x).cores = s.cores := by
  unfold State.coreFaulted
  rw [if_pos hx]
  dsimp only
  split
  · rw [State.raiseEvent_cores, State.setFld_cores, State.setPxState_cores]
  · rw [State.setFld_cores, State.setPxState_cores]

theorem State.coreFaulted_pxState (s : State) {x : Nat} (hx : x < 32) : (s.coreFaulted x).pxState x = 5 := by
  have hne : Reg.PX_STATE (pxc x) (pxi x) ≠ Reg.PX_EVENT (pxc x) (pxi x) := by
    simp only [Reg.PX_STATE, Reg.PX_EVENT]
    omega
  have hset : ((s.setPxState x 5).setFld (Reg.PX_EVENT (pxc x) (pxi x)) Fld.PX_EVENT_FAULTED 1).pxState x = 5 :=
    (State.fld_setFld_ne _ _ _ _ hne).trans (s.setPxState_pxState x (by decide))
  unfold State.coreFaulted
  rw [if_pos hx]
  dsimp only
  split
  · rw [State.raiseEvent_pxState, hset]
  · rw [hset]

/-- The state with the writes in flight of a core made, and its trap counted. -/
def State.trapCounted (s : State) (x : Nat) : State :=
  if x < 32 then (s.coreDrain x).bump (Reg.PX_CNT_TRAP (pxc x) (pxi x)) Fld.PX_CNT_TRAP_COUNT else s.coreDrain x

theorem CoreSet.trapCounted {s t : State} {x : Nat} {c : CoreSt} (h : CoreSet s t x c) (hp : c.pend = []) :
    CoreSet s (t.trapCounted x) x c := by
  unfold State.trapCounted
  split
  · exact (h.coreDrain hp).of_cores (State.bump_cores _ _ _)
  · exact h.coreDrain hp

/-- A core that has trapped: the trap registers hold the fault and the place (R252, R255). -/
def CoreSt.trapped (c : CoreSt) (f : OpFault) (slot : Nat) (late : Bool) (tfpc : Nat) : CoreSt :=
  { c with
    bundle := [], stall := .none, branch := none
    tcause := BitVec.ofNat 64 (tcauseOf f slot late), tpc := BitVec.ofNat 64 c.pc, tfpc := BitVec.ofNat 64 tfpc
    taddr := BitVec.ofNat 64 f.addr, tbr := tbrOf c.branch }

/-- A core that enters its handler (R253). -/
def CoreSt.entered (c : CoreSt) : CoreSt := { c with inHandler := true, pc := c.tvec.toNat / 4 * 4 % 2 ^ 17 }

section
variable {s t : State} {x : Nat} {c : CoreSt} (h : CoreSet s t x c) (hp : c.pend = []) (hi : c.inHandler = false)
include h hp hi

/-- A trap of a core that has a handler and is not in it. -/
theorem CoreSet.coreTrap_entered (hv : c.tvec.getLsbD 0 = true) (f : OpFault) (slot : Nat) (late : Bool) (tfpc : Nat) :
    CoreSet s (t.coreTrap x f slot late tfpc) x (c.trapped f slot late tfpc).entered := by
  have hv' := h.trapCounted hp
  unfold State.trapCounted at hv'
  unfold State.coreTrap
  simp only [hv'.core, hi, hv, if_true, Bool.false_eq_true, if_false]
  exact (hv'.setCore _).of_cores (State.trapCopy_cores _ _)

/-- A trap of a prep core without a handler: it is FAULTED. -/
theorem CoreSet.coreTrap_faulted (hx : x < 32) (hv : c.tvec.getLsbD 0 = false) (f : OpFault) (slot : Nat) (late : Bool)
    (tfpc : Nat) :
    CoreSet s (t.coreTrap x f slot late tfpc) x (c.trapped f slot late tfpc) ∧ (t.coreTrap x f slot late tfpc).pxState x = 5 := by
  have hv' := h.trapCounted hp
  unfold State.trapCounted at hv'
  unfold State.coreTrap
  simp only [hv'.core]
  rw [if_neg (by simp only [hi]; decide), if_neg (by simp only [hv]; decide)]
  have hc := (hv'.setCore (c.trapped f slot late tfpc)).of_cores (State.trapCopy_cores _ x)
  exact ⟨hc.of_cores (State.coreFaulted_cores _ hx), State.coreFaulted_pxState _ hx⟩

end

/-! A bundle of one operation that traps at its issue. -/

section
variable {s : State} {x : Nat} {p : Plan} (hb : (s.core x).bundle = [p]) (hu : p.badUnit = false)
include hb hu

/-- An operation of slot B with a fault. -/
theorem State.issue_of_fault {f : OpFault} (h5 : p.slot = 5) (hf : s.planFault x p = some f) :
    s.issue x = s.coreTrap x f 5 false (s.core x).pc := by
  have hbf : s.bundleFault x [p] = some (f, 5) := by
    simp [State.bundleFault, h5, hf, List.range_succ]
  unfold State.issue
  simp only [hb, dupSlot_single, List.find?_singleton, hu, hbf, Bool.false_eq_true, if_false]

variable (hf : s.planFault x p = none) (hw : s.bundleWaits x [p] = false)
include hf hw

/-- An operation of slot B whose stack operation faults (R244). -/
theorem State.issue_of_stackFault {f : OpFault} (h5 : p.slot = 5) (hn : p.fence = false)
    (hst : s.stackAct x ((s.core x).pc + 4) p.act = .inr f) : s.issue x = s.coreTrap x f 5 false (s.core x).pc := by
  unfold State.issue
  simp only [hb, dupSlot_single, List.find?_singleton, hu, State.bundleFault_single hf, hw, hn, List.any_cons, List.any_nil,
    Bool.or_false, Bool.false_eq_true, if_false, h5, beq_self_eq_true, if_true, Option.map_some, Option.getD_some,
    List.length_singleton, Nat.mul_one, hst]

/-- A fence after a failed store (R240). -/
theorem State.issue_of_storeErr {u code : Nat} (hn : p.fence = true) (he : (s.core x).storeErr = some (u, code)) :
    s.issue x
      = (s.setCore x { s.core x with storeErr := none }).coreTrap x ⟨0x0B, code, u⟩ 2 false (s.core x).pc := by
  unfold State.issue
  simp only [hb, dupSlot_single, List.find?_singleton, hu, State.bundleFault_single hf, hw, hn, he, List.any_cons,
    Bool.true_or, Bool.false_eq_true, if_false, if_true]

end

/-- A bundle that waits to issue stalls its core (R229, R240). -/
theorem State.issue_of_waits {s : State} {x : Nat} {p : Plan} (hb : (s.core x).bundle = [p]) (hu : p.badUnit = false)
    (hf : s.planFault x p = none) (hw : s.bundleWaits x [p] = true) (hs : (s.core x).stall = .none) :
    s.issue x = s.coreStall x .bundle := by
  unfold State.issue
  simp only [hb, dupSlot_single, List.find?_singleton, hu, State.bundleFault_single hf, hw, hs, Bool.false_eq_true, if_false,
    if_true, reduceCtorEq]

/-! Halts. -/

/-- A core that halts (R258). -/
def CoreSt.halted (c : CoreSt) : CoreSt := { c with halting := false, tbr := if c.inHandler then c.tbr else tbrOf c.branch }

theorem CoreSet.coreHalt {s t : State} {x : Nat} {c : CoreSt} (h : CoreSet s t x c) (hp : c.pend = []) :
    CoreSet s (t.coreHalt x) x c.halted := by
  have hd := h.coreDrain hp
  have hset := hd.setCore c.halted
  unfold State.coreHalt
  simp only [hd.core]
  split
  · exact hset.of_cores (State.setPxState_cores _ _ _)
  · exact hset.of_cores (State.setFld_cores _ _ _ _)

theorem State.coreHalt_pxState (s : State) {x : Nat} (hx : x < 32) : (s.coreHalt x).pxState x = 4 := by
  unfold State.coreHalt
  simp only [if_pos hx]
  exact State.setPxState_pxState _ _ (by decide)

theorem State.coreHalt_svStatus (s : State) {x : Nat} (hx : 32 ≤ x) :
    (s.coreHalt x).fld (Reg.SV_STATUS (x - 32)) Fld.SV_STATUS_STATE = 2 := by
  unfold State.coreHalt
  simp only [if_neg (Nat.not_lt.mpr hx)]
  exact State.fld_setFld_same _ _ _ _ (by decide)

end Sys2Proof.Machine
end

section
/-! Calls, returns, waits, traps, halts and fences (R240, R242–R244, R250, R252–R258, R290, R291). -/

namespace Sys2Proof.Machine

/-! Instruction memory. -/

theorem OneCore.codeWord {s t : State} {x : Nat} {c : CoreSt} (h : OneCore s t x c) (hc : c.img = (s.core x).img) (off : Nat) :
    t.codeWord x off = s.codeWord x off := by
  simp only [State.codeWord, h.core, hc, h.fw]

theorem State.bundleEnd_congr {s t : State} {x : Nat} (h : ∀ off, t.codeWord x off = s.codeWord x off) (n off : Nat) :
    t.bundleEnd x n off = s.bundleEnd x n off := by
  induction n generalizing off with
  | zero => rfl
  | succ n ih => simp only [State.bundleEnd, h, ih]

/-! Stack operations (R242, R243). -/

/-- The offset after the two delay bundles of a call whose bundle ends at `after`. -/
def State.linkAfter (s : State) (x after : Nat) : Nat := s.bundleEnd x 64 (s.bundleEnd x 64 after) % 2 ^ 17

theorem OneCore.linkAfter {s t : State} {x : Nat} {c : CoreSt} (h : OneCore s t x c) (hc : c.img = (s.core x).img) (after : Nat) :
    t.linkAfter x after = s.linkAfter x after := by
  simp only [State.linkAfter, State.bundleEnd_congr (h.codeWord hc)]

theorem State.stackAct_call_of_room {s : State} {x : Nat} (h : (s.core x).rstack.length < 32) (after n : Nat) :
    s.stackAct x after (.call n)
      = .inl (s.setCore x { s.core x with rstack := s.linkAfter x after :: (s.core x).rstack }, 0) := by
  simp only [State.stackAct, State.pushLink, if_pos h, State.linkAfter]

theorem State.stackAct_call_of_full {s : State} {x : Nat} (h : 32 ≤ (s.core x).rstack.length)
    (hroom : (s.core x).rsLimit ≤ (s.core x).rsBase + 64 * (s.core x).spilled) (after n : Nat) :
    s.stackAct x after (.call n) = .inr ⟨0x0F, 0, 0⟩ := by
  simp only [State.stackAct, State.pushLink, if_neg (Nat.not_lt.mpr h), if_pos hroom]

theorem State.stackAct_ret_of_held {s : State} {x r : Nat} {rest : List Nat} (h : (s.core x).rstack = r :: rest)
    (hrest : rest ≠ [] ∨ (s.core x).spilled = 0) (after : Nat) :
    s.stackAct x after .ret = .inl (s.setCore x { s.core x with rstack := rest }, r) := by
  have hno : ¬ (rest.isEmpty && (s.core x).spilled != 0) = true := by
    rcases hrest with hr | hr <;> simp [hr]
  simp only [State.stackAct, State.popLink, h, if_neg hno]

theorem State.stackAct_ret_of_empty {s : State} {x : Nat} (h : (s.core x).rstack = []) (after : Nat) :
    s.stackAct x after .ret = .inr ⟨0x10, 0, 0⟩ := by
  simp only [State.stackAct, State.popLink, h]

/-! Operations of slot B alone that change the stack or trap. -/

/-- A trap of a core without a pending branch. -/
theorem CoreSt.trapped_of_straight {c : CoreSt} (h : c.branch = none) (f : OpFault) (slot : Nat) (late : Bool) (tfpc : Nat) :
    c.trapped f slot late tfpc = { c with
      bundle := [], stall := .none, branch := none
      tcause := BitVec.ofNat 64 (tcauseOf f slot late), tpc := BitVec.ofNat 64 c.pc, tfpc := BitVec.ofNat 64 tfpc
      taddr := BitVec.ofNat 64 f.addr, tbr := 0 } := by
  rw [CoreSt.trapped, h]
  rfl

section
variable {i : Instr} {s : State} {h : OpHdr} {mk : CoreSt → Plan} (L : Lone s h 5) (hi : exec i s = s.answer (s.present h 5 mk))
include L hi

/-- A call with room on the hardware stack (R242). -/
theorem Lone.calls {n : Nat} (hm : mk (s.core h.core) = planB (.call n)) (hlen : (s.core h.core).rstack.length < 32) :
    Completes i s (fun t => OneCore s t h.core { (s.core h.core).stepped with
      rstack := s.linkAfter h.core ((s.core h.core).pc + 4) :: (s.core h.core).rstack, branch := some (n, 2) }) := by
  have h0 := L.one (mk (s.core h.core))
  have hst := State.stackAct_call_of_room (x := h.core) (by rw [h0.core]; exact hlen) ((s.core h.core).pc + 4) n
  rw [h0.linkAfter rfl, h0.core] at hst
  obtain ⟨r, hr, he⟩ := State.present_act (u := none)
    (c1 := { s.core h.core with rstack := s.linkAfter h.core ((s.core h.core).pc + 4) :: (s.core h.core).rstack })
    L hm hst (h0.setCore _) ⟨L.free, L.empty, L.flight, L.straight⟩
  exact hr.completes (hi.trans (congrArg s.answer he))

/-- A return that finds its offset in hardware (R243). -/
theorem Lone.returns (hm : mk (s.core h.core) = planB .ret) {r : Nat} {rest : List Nat}
    (hheld : (s.core h.core).rstack = r :: rest) (hrest : rest ≠ [] ∨ (s.core h.core).spilled = 0) :
    Completes i s (fun t => OneCore s t h.core { (s.core h.core).stepped with rstack := rest, branch := some (r, 2) }) := by
  have h0 := L.one (mk (s.core h.core))
  have hst := State.stackAct_ret_of_held (x := h.core) (by rw [h0.core]; exact hheld) (by rw [h0.core]; exact hrest)
    ((s.core h.core).pc + 4)
  rw [h0.core] at hst
  obtain ⟨t, ht, he⟩ := State.present_act (u := none) (c1 := { s.core h.core with rstack := rest })
    L hm hst (h0.setCore _) ⟨L.free, L.empty, L.flight, L.straight⟩
  exact ht.completes (hi.trans (congrArg s.answer he))

/-- A call or return whose stack operation faults enters the handler. -/
theorem Lone.stackTraps {act : BAct} {f : OpFault} (hm : mk (s.core h.core) = planB act)
    (hst : (s.setCore h.core { s.core h.core with bundle := [planB act] }).stackAct h.core ((s.core h.core).pc + 4) act = .inr f)
    (hin : (s.core h.core).inHandler = false) (hv : (s.core h.core).tvec.getLsbD 0 = true) :
    Completes i s (fun t => CoreSet s t h.core ((s.core h.core).trapped f 5 false (s.core h.core).pc).entered) := by
  have h0 := L.one (planB act)
  have hp := State.present_lone L mk
  rw [hm, State.issue_of_stackFault (p := planB act) (by rw [h0.core]) rfl
    (by simp [State.planFault, planB, planNone, L.straight]) (by simp [State.bundleWaits, planB, planNone]) rfl rfl
    (by rw [h0.core]; exact hst), h0.core] at hp
  exact (h0.coreSet.coreTrap_entered L.flight hin hv f 5 false _).completes (hi.trans (congrArg s.answer hp))

end

/-- Settles O12, by whether the stack operation succeeds. -/
theorem callsAndReturns : Obligations.CallsAndReturns := by
  intro h tgt ga s L x c link call trap
  have htrap {i : Instr} {cause : Nat} (hi : Completes i s (fun t => CoreSet s t h.core (c.trapped ⟨cause, 0, 0⟩ 5 false c.pc).entered))
      (hcause : cause < 256) : Completes i s (fun t => trap t cause) := by
    refine hi.imp (fun t ht => ?_)
    have htc : tcauseOf ⟨cause, 0, 0⟩ 5 false = cause + 5 * 2 ^ 16 := by simp [tcauseOf]; omega
    have hcore := ht.core
    rw [CoreSt.trapped_of_straight L.straight, htc] at hcore
    exact hcore
  have hgiven (p : Plan) := (L.one p).core
  refine ⟨fun hlen => ⟨L.calls rfl rfl hlen, L.calls rfl rfl hlen⟩, fun r rest hr hrest => L.returns rfl rfl hr hrest,
    fun hin hv => ⟨fun hlen hroom => ⟨?_, ?_⟩, fun hr => ?_⟩⟩
  · exact htrap (L.stackTraps rfl rfl
      (State.stackAct_call_of_full (by rw [hgiven]; exact hlen) (by rw [hgiven]; exact hroom) _ _) hin hv) (by decide)
  · exact htrap (L.stackTraps rfl rfl
      (State.stackAct_call_of_full (by rw [hgiven]; exact hlen) (by rw [hgiven]; exact hroom) _ _) hin hv) (by decide)
  · exact htrap (L.stackTraps rfl rfl (State.stackAct_ret_of_empty (by rw [hgiven]; exact hr) _) hin hv) (by decide)

end Sys2Proof.Machine
end

section
/-! Waits, TRAP, TRET, HALT and FENCE (R240, R250, R252–R255, R258, R290, R291). -/

namespace Sys2Proof.Machine

theorem bitsOf_zero (n w : Nat) : bitsOf n 0 w = n % 2 ^ w := by
  simp [bitsOf]

/-- A row that answers a state with one core set, and with a field of a register, completes with both. -/
theorem CoreSet.completes_fld {i : Instr} {s t : State} {x : Nat} {c : CoreSt} (h : CoreSet s t x c) {k n : Nat} {f : Fld}
    (hf : t.fld k f = n) (hi : exec i s = s.answer t) : Completes i s (fun t => CoreSet s t x c ∧ t.fld k f = n) :=
  completes_of_answer hi ⟨h.of_cores rfl, hf⟩

/-- An operation of slot B alone with a fault traps. -/
theorem Lone.present_fault {s : State} {h : OpHdr} (L : Lone s h 5) {mk : CoreSt → Plan} {f : OpFault}
    (hm : mk (s.core h.core) = { planNone 5 with fault := some f }) :
    s.present h 5 mk = (s.setCore h.core { s.core h.core with bundle := [mk (s.core h.core)] }).coreTrap h.core f 5 false
      (s.core h.core).pc := by
  have h0 := L.one (mk (s.core h.core))
  rw [State.present_lone L mk, State.issue_of_fault (f := f) (by rw [h0.core]) (by rw [hm]; rfl) (by rw [hm]; rfl)
    (by rw [hm]; rfl), h0.core]

section
variable {i : Instr} {s : State} {h : OpHdr} {mk : CoreSt → Plan} (L : Lone s h 5) (hi : exec i s = s.answer (s.present h 5 mk))
include L hi

/-- A wait stalls its core from the cycle of issue (R250). -/
theorem Lone.waits {w : WaitCond} {pd l : Nat} (hm : mk (s.core h.core) = planB (.wait w pd l)) :
    Completes i s (fun t =>
      OneCore s t h.core { (s.core h.core).stepped with stall := .wait w pd l, since := s.now }) := by
  have h1 := State.present_plainAct (u := none) (act := .wait w pd l) L hm (fun _ => rfl) (by simp)
  rw [CoreSt.acts, CoreSt.nextPc_of_straight L.straight] at h1
  exact h1.completes hi

/-- HALT stops its core after its bundle (R258). -/
theorem Lone.halts (hm : mk (s.core h.core) = planB .halt) :
    Completes i s (fun t => CoreSet s t h.core (s.core h.core).stepped.halted
      ∧ (h.core.val < 32 → t.pxState h.core = 4)
      ∧ (32 ≤ h.core.val → t.fld (Reg.SV_STATUS (h.core - 32)) Fld.SV_STATUS_STATE = 2)) := by
  obtain ⟨r, hr, he⟩ := State.present_act (u := none) (act := .halt) L hm rfl (L.one _) L.rests
  rw [if_pos rfl] at he
  have hcore : OneCore s r h.core (s.core h.core).stepped := L.rests.nextPc ▸ hr
  exact completes_of_answer (hi.trans (congrArg s.answer he))
    ⟨(hcore.coreSet.coreHalt L.flight).of_cores rfl, fun hx => r.coreHalt_pxState hx, fun hx => r.coreHalt_svStatus hx⟩

end

/-- The trap cause of TRAP (R255, R290). -/
theorem tcauseOf_trap (imm : Byte) : tcauseOf ⟨0x13, imm.toNat, 0⟩ 5 false = 0x13 + 2 ^ 8 * imm.toNat + 5 * 2 ^ 16 := by
  have := imm.isLt
  simp only [tcauseOf, Bool.false_eq_true, if_false]
  omega

/-- Settles O13: the plan of each operation, and what its action leaves of the core. -/
theorem waitsAndTraps : Obligations.WaitsAndTraps := by
  intro h a imm s L x c v waits trapped
  let p : Plan := { planNone 5 with fault := some ⟨0x13, imm.toNat, 0⟩ }
  have hi : exec (.trap h imm) s = s.answer ((s.setCore x { c with bundle := [p] }).coreTrap x ⟨0x13, imm.toNat, 0⟩ 5 false c.pc) :=
    congrArg s.answer (L.present_fault (mk := fun _ => p) rfl)
  have htrapped : c.trapped ⟨0x13, imm.toNat, 0⟩ 5 false c.pc = trapped := by
    rw [CoreSt.trapped_of_straight L.straight, tcauseOf_trap]
    rfl
  refine ⟨fun hx => L.waits rfl ((if_pos (.inl hx)).trans ?_), L.waits rfl ((if_pos (.inr rfl)).trans ?_),
    fun hx => L.waits rfl ((if_pos (.inl hx)).trans ?_), fun hin hv => ?_, fun hx hin hv => ?_, ?_, ?_⟩
  · exact congrArg (fun n => planB (.wait (.counter (bitsOf v 36 2) (bitsOf v 32 4) n) _ _)) (bitsOf_zero v 32)
  · exact congrArg (fun n => planB (.wait (.orbitSlot n (bitsOf v 48 6)) _ _)) (bitsOf_zero v 48)
  · exact congrArg (fun n => planB (.wait (.doorbell n) _ _)) (bitsOf_zero v 3)
  · have hcore := (L.one p).coreSet.coreTrap_entered L.flight hin hv ⟨0x13, imm.toNat, 0⟩ 5 false c.pc
    refine (hcore.completes hi).imp (fun t ht => ⟨?_, ht.others⟩)
    rw [ht.core]
    exact congrArg CoreSt.entered htrapped
  · have hcore := (L.one p).coreSet.coreTrap_faulted L.flight hin hx hv ⟨0x13, imm.toNat, 0⟩ 5 false c.pc
    refine (hcore.1.completes_fld hcore.2 hi).imp (fun t ht => ⟨?_, ht.2⟩)
    rw [ht.1.core]
    exact htrapped
  · exact (State.present_plainAct (u := none) (act := .tret) L rfl (fun _ => rfl) (by decide)).completes rfl
  · refine (L.halts rfl rfl).imp (fun t ht => ⟨?_, ht.2.1, ht.2.2, ht.1.others⟩)
    have hbranch : tbrOf c.branch = 0 := congrArg tbrOf L.straight
    rw [ht.1.core, ← hbranch]
    rfl

/-! Operations of slot L alone. -/

/-- What an issued operation of slot L does beside its register writes. -/
def State.issueAccess? (s : State) (x tfpc : Nat) : Option Access → State
  | some a => s.issueAccess x tfpc a
  | none => s

/-- A plan of slot L with at most one register write. -/
def lPlan (u : Option (Dst × BitVec 512)) (a : Option Access) (fence : Bool) : Plan :=
  { planNone 2 with writes := nextWrite u, access := a, fence := fence }

/-- The bundle of an operation of slot L that neither faults nor waits: its write is in flight, its access follows, and the next
bundle is the next in line. -/
theorem State.present_slotL {s : State} {h : OpHdr} {mk : CoreSt → Plan} {u : Option (Dst × BitVec 512)} {a : Option Access}
    {fence : Bool} (L : Lone s h 2) (hm : mk (s.core h.core) = lPlan u a fence)
    (hf : (s.setCore h.core { s.core h.core with bundle := [lPlan u a fence] }).planFault h.core (lPlan u a fence) = none)
    (hw : (s.setCore h.core { s.core h.core with bundle := [lPlan u a fence] }).bundleWaits h.core [lPlan u a fence] = false)
    (hn : fence = true → (s.core h.core).storeErr = none) :
    ∃ t, OneCore s t h.core { s.core h.core with
        bundle := [lPlan u a fence], stall := .none, pend := nextPend (s.core h.core).adv 2 u }
      ∧ s.present h 2 mk
        = ((t.issueAccess? h.core (s.core h.core).pc a).issueAct h.core ((s.core h.core).pc + 4) 0 .none).advance h.core := by
  rw [State.present_lone L, hm]
  have h0 := L.one (lPlan u a fence)
  obtain ⟨t, ht, he⟩ := State.issue_single h0 rfl rfl hf hw hn (fun _ => rfl) rfl h0
  refine ⟨_, ht.nextWrite (by exact L.flight) 2 u, ?_⟩
  rw [he, if_neg (by simp [lPlan, planNone])]
  cases a <;> rfl

/-- The end of such a bundle. -/
theorem OneCore.lEnd {s t : State} {x slot : Nat} {c : CoreSt} {u : Option (Dst × BitVec 512)} (h : OneCore s t x c)
    (hb : c.branch = none) (hp : c.pend = nextPend c.adv slot u) (after : Nat) :
    OneCore s ((t.issueAct x after 0 .none).advance x) x
      (({ c with pc := after, bundle := [], adv := c.adv + 1, pend := [] } : CoreSt).updated u) := by
  have h1 := h.nextPc after 0
  rw [CoreSt.nextPc_of_straight hb] at h1
  exact h1.advance_updated hp

/-- A core that rests, stepped. -/
theorem CoreSt.Rests.stepped_eq {c : CoreSt} (hc : c.Rests) : c.stepped
    = { c with pc := c.pc + 4, bundle := [], stall := .none, adv := c.adv + 1, pend := [] } := by
  obtain ⟨hfree, hempty, hflight, -⟩ := hc
  rw [CoreSt.stepped, ← hfree, ← hempty, ← hflight]

/-! FENCE. -/

/-- The plan of FENCE breaks no address rule. -/
theorem State.planFault_fence (s : State) (x : Nat) : s.planFault x (lPlan none none true) = none := rfl

theorem State.bundleWaits_fence (s : State) (x : Nat) :
    s.bundleWaits x [lPlan none none true] = !(s.core x).posted.isEmpty := by
  simp [State.bundleWaits, lPlan, planNone]

/-- The trap cause of a failed store (R240, R255). -/
theorem tcauseOf_storeErr (code u : Nat) : tcauseOf ⟨0x0B, code, u⟩ 2 false = 0x0B + 2 ^ 8 * (code % 256) + 2 * 2 ^ 16 := by
  simp [tcauseOf]

/-- Settles O14: no store outstanding, one outstanding, or a failed one. -/
theorem fences : Obligations.Fences := by
  intro h s L x c
  have h0 := L.one (lPlan none none true)
  have hwaits := State.bundleWaits_fence (s.setCore x { c with bundle := [lPlan none none true] }) x
  rw [h0.core] at hwaits
  have hpres := State.present_lone L (fun _ => lPlan none none true)
  have hi : exec (.fence h) s = s.answer (s.present h 2 (fun _ => lPlan none none true)) := rfl
  refine ⟨fun hposted herr => ?_, fun hposted => ?_, fun hposted u code herr hin hv => ?_⟩
  · obtain ⟨t, ht, he⟩ := State.present_slotL (mk := fun _ => lPlan none none true) L rfl (State.planFault_fence _ _)
      (hwaits.trans (by simp [c, x, hposted])) (fun _ => herr)
    have hend := ht.lEnd (slot := 2) (u := none) L.straight rfl (c.pc + 4)
    have hstep : OneCore s _ x c.stepped := L.rests.stepped_eq ▸ hend
    exact hstep.completes (hi.trans (congrArg s.answer he))
  · rw [State.issue_of_waits (by rw [h0.core]) rfl (State.planFault_fence _ _) (hwaits.trans (by simpa [c, x] using hposted))
      (by rw [h0.core]; exact L.free)] at hpres
    refine ((h0.coreStall .bundle).completes (hi.trans (congrArg s.answer hpres))).imp (fun t ht => ?_)
    rw [ht.core]
    exact ⟨rfl, rfl, rfl⟩
  · rw [State.issue_of_storeErr (u := u) (code := code) (by rw [h0.core]) rfl (State.planFault_fence _ _)
      (hwaits.trans (by simp [c, x, hposted])) rfl (by rw [h0.core]; exact herr), h0.core] at hpres
    have htrap := (h0.setCore _).coreSet.coreTrap_entered (x := x)
      (c := { c with bundle := [lPlan none none true], storeErr := none }) L.flight hin hv ⟨0x0B, code, u⟩ 2 false c.pc
    refine (htrap.completes (hi.trans (congrArg s.answer hpres))).imp (fun t ht => ?_)
    have hcore := ht.core
    rw [CoreSt.trapped_of_straight (by exact L.straight), tcauseOf_storeErr] at hcore
    rw [hcore]
    exact ⟨rfl, rfl, rfl, rfl, rfl⟩

end Sys2Proof.Machine
end

section
/-! Loads and stores of slot L (R229, R238, R240, R245, R274, R275): the address rules, the address forms, and what an access
leaves of its core. -/

namespace Sys2Proof.Machine

/-! What the address rules read does not change while a bundle is presented. -/

section
variable {s t : State} {x : Nat} {c : CoreSt} (h : OneCore s t x c)
include h

/-- Registers below those of the clusters. -/
theorem OneCore.reg_of_lt {k : Nat} (hk : k < 0x1060000) : t.reg k = s.reg k := by
  refine h.regs k ?_ ?_ <;> simp only [Reg.PX_PC, Reg.PX_CNT_BUNDLES] <;> omega

theorem OneCore.spaceSize (p : Nat) : t.spaceSize (.part p) = s.spaceSize (.part p) := by
  have hown : t.pkgsOf p = s.pkgsOf p := by
    refine List.filter_congr (fun k hk => ?_)
    have hk32 := List.mem_range.mp hk
    have hreg : t.reg (Reg.PT_MAP_ACT (k / 4)) = s.reg (Reg.PT_MAP_ACT (k / 4)) :=
      h.reg_of_lt (by simp only [Reg.PT_MAP_ACT]; omega)
    simp only [State.pkgOwner, State.mapEntry, hreg]
  simp only [State.spaceSize, State.numChan, hown]

theorem OneCore.regionSize (r : Nat) : t.regionSize x r = s.regionSize x r := by
  simp only [State.regionSize, h.coreOwner, h.spaceSize]

theorem OneCore.mpuAllows (hx : x < 40) (i u size right : Nat) : t.mpuAllows i u size right = s.mpuAllows i u size right := by
  have hreg {k : Nat} (hk : 0x3E00000 ≤ k) : t.reg k = s.reg k := by
    refine h.regs k ?_ ?_ <;> simp only [Reg.PX_PC, Reg.PX_CNT_BUNDLES, pxc, pxi] <;> omega
  have hattr (r : Nat) := hreg (k := Reg.SV_MPU_ATTR i r) (by simp only [Reg.SV_MPU_ATTR]; omega)
  have hbase (r : Nat) := hreg (k := Reg.SV_MPU_BASE i r) (by simp only [Reg.SV_MPU_BASE]; omega)
  have hlimit (r : Nat) := hreg (k := Reg.SV_MPU_LIMIT i r) (by simp only [Reg.SV_MPU_LIMIT]; omega)
  simp only [State.mpuAllows, hattr, hbase, hlimit]

end

/-- The first address rule that an access breaks is the same while its bundle is presented. -/
theorem OneCore.accessFault {s t : State} {x : Nat} {b : List Plan} (h : OneCore s t x { s.core x with bundle := b }) (hx : x < 40)
    (a : Access) : t.accessFault x a = s.accessFault x a := by
  unfold State.accessFault
  simp only [h.core, h.regionSize, h.mpuAllows hx]
  rfl

/-! The address forms (R274). -/

/-- The access that an operation of form LS makes. -/
def lsAccess (c : CoreSt) (a : LsArg) (size : Nat) (k : AccKind) : Access := ⟨(lsAddr c a size).1.toNat, size, a.aa, k⟩

/-- The write of an address register. -/
def aaWrite (n : Nat) (upd : Option DWord) : Option (Dst × BitVec 512) := upd.map (fun v => (.a n, v.setWidth 512))

/-- A stepped core with its address register updated. -/
def CoreSt.lsAfter (c : CoreSt) (a : LsArg) (size : Nat) : CoreSt := c.stepped.updated (aaWrite a.aa (lsAddr c a size).2)

theorem planAccess_eq (c : CoreSt) (a : LsArg) (size : Nat) (k : AccKind) :
    planAccess c a size k = lPlan (aaWrite a.aa (lsAddr c a size).2) (some (lsAccess c a size k)) false := by
  unfold planAccess lsAccess
  rcases lsAddr c a size with ⟨addr, _ | v⟩ <;> rfl

/-! An access of a core at issue. -/

/-- Whether an address lies in the memory that its core reaches: its partition's, or the service region (R239, R557). -/
def memoryAt (x u : Nat) : Prop := uReg u = if x < 32 then 0 else 1

/-- An access that is left to stall for its answer. -/
theorem OneCore.issueAccess_stall {s t : State} {x : Nat} {c : CoreSt} (h : OneCore s t x c) (tfpc : Nat) {a : Access}
    (ha : uReg (c.unified a) = 8 ∨ memoryAt x (c.unified a) ∧ ∀ d, a.kind ≠ .store d) :
    OneCore s (t.issueAccess x tfpc a) x { c with stall := .access a tfpc, since := s.now } := by
  unfold State.issueAccess
  rw [h.core]
  rcases ha with h8 | ⟨hmem, hkind⟩
  · rw [if_pos h8]
    exact h.coreStall _
  · unfold memoryAt at hmem
    rw [if_neg (by split at hmem <;> omega), if_pos (by split at hmem <;> omega)]
    split
    · rename_i d hd
      exact absurd hd (hkind d)
    · exact h.coreStall _

/-- A store to memory is posted (R240). -/
theorem OneCore.issueAccess_post {s t : State} {x : Nat} {c : CoreSt} (h : OneCore s t x c) (tfpc : Nat) {a : Access} {d : Bytes}
    (hmem : memoryAt x (c.unified a)) (hkind : a.kind = .store d) :
    OneCore s (t.issueAccess x tfpc a) x { c with posted := c.posted ++ [(c.unified a, d)] } := by
  unfold State.issueAccess
  unfold memoryAt at hmem
  rw [h.core, if_neg (by split at hmem <;> omega), if_pos (by split at hmem <;> omega), hkind]
  exact h.setCore _

/-- A request to scratch alone can wait for its bank (R229). -/
theorem State.bundleWaits_access {s : State} {x : Nat} {u : Option (Dst × BitVec 512)} {a : Access}
    (h : x < 32 → uReg ((s.core x).unified a) ≠ 4) : s.bundleWaits x [lPlan u (some a) false] = false := by
  by_cases hx : x < 32
  · simp [State.bundleWaits, lPlan, planNone, h hx]
  · simp [State.bundleWaits, lPlan, planNone, hx]

/-- The bundle of an operation of slot L alone that breaks no address rule and waits for no bank, up to its access. -/
theorem Lone.present_access {s : State} {h : OpHdr} (L : Lone s h 2) {mk : CoreSt → Plan} {u : Option (Dst × BitVec 512)}
    {a : Access} (hm : mk (s.core h.core) = lPlan u (some a) false) (hf : s.accessFault h.core a = none)
    (hw : h.core.val < 32 → uReg ((s.core h.core).unified a) ≠ 4) :
    ∃ t, OneCore s t h.core { s.core h.core with
        bundle := [lPlan u (some a) false], stall := .none, pend := nextPend (s.core h.core).adv 2 u }
      ∧ s.present h 2 mk = ((t.issueAccess h.core (s.core h.core).pc a).issueAct h.core ((s.core h.core).pc + 4) 0 .none).advance
          h.core := by
  have h0 := L.one (lPlan u (some a) false)
  exact State.present_slotL L hm ((h0.accessFault h.core.isLt a).trans hf)
    (State.bundleWaits_access (fun hx => by rw [h0.core]; exact hw hx)) nofun

section
variable {i : Instr} {s : State} {h : OpHdr} {mk : CoreSt → Plan} (L : Lone s h 2) (hi : exec i s = s.answer (s.present h 2 mk))
  {n : Nat} {upd : Option DWord} {a : Access} (hm : mk (s.core h.core) = lPlan (aaWrite n upd) (some a) false)
  (hf : s.accessFault h.core a = none)
include L hi hm hf

/-- An access that stalls its core until it is answered. -/
theorem Lone.stalls (ha : uReg ((s.core h.core).unified a) = 8
      ∨ memoryAt h.core ((s.core h.core).unified a) ∧ ∀ d, a.kind ≠ .store d) :
    Completes i s (fun t => OneCore s t h.core
      { (s.core h.core).stepped.updated (aaWrite n upd) with stall := .access a (s.core h.core).pc, since := s.now }) := by
  have hw : uReg ((s.core h.core).unified a) ≠ 4 := by
    unfold memoryAt at ha
    rcases ha with h8 | ⟨hmem, -⟩
    · omega
    · split at hmem <;> omega
  obtain ⟨t, ht, he⟩ := L.present_access hm hf (fun _ => hw)
  have hend := (ht.issueAccess_stall (s.core h.core).pc ha).lEnd (slot := 2) (u := aaWrite n upd) L.straight rfl
    ((s.core h.core).pc + 4)
  rw [L.rests.stepped_eq]
  cases upd <;> exact hend.completes (hi.trans (congrArg s.answer he))

/-- A store to memory, which is posted. -/
theorem Lone.posts {d : Bytes} (hmem : memoryAt h.core ((s.core h.core).unified a)) (hkind : a.kind = .store d) :
    Completes i s (fun t => OneCore s t h.core { (s.core h.core).stepped.updated (aaWrite n upd) with
      posted := (s.core h.core).posted ++ [((s.core h.core).unified a, d)] }) := by
  have hw : uReg ((s.core h.core).unified a) ≠ 4 := by
    unfold memoryAt at hmem
    split at hmem <;> omega
  obtain ⟨t, ht, he⟩ := L.present_access hm hf (fun _ => hw)
  have hend := (ht.issueAccess_post (s.core h.core).pc hmem hkind).lEnd (slot := 2) (u := aaWrite n upd) L.straight rfl
    ((s.core h.core).pc + 4)
  rw [L.rests.stepped_eq]
  cases upd <;> exact hend.completes (hi.trans (congrArg s.answer he))

end

/-- Settles O15: each operation is the access of its address form, which stalls its core or is posted. -/
theorem loadsAndStores : Obligations.LoadsAndStores := by
  intro h a s L x c sz addr after acc legal load store
  have haddr (n : Nat) : addr n = (lsAddr c a n).1 := by
    simp only [addr]
    unfold lsAddr
    split <;> rename_i hmode <;> rw [hmode] <;> rfl
  have hafter (n : Nat) : after n = c.lsAfter a n := by
    simp only [after]
    unfold CoreSt.lsAfter lsAddr
    split <;> rename_i hmode <;> rw [hmode] <;> rfl
  have hacc (n : Nat) (k : AccKind) : acc n k = lsAccess c a n k := by
    simp only [acc, haddr]
    rfl
  have hlegal {n : Nat} {k : AccKind} (hl : legal n k) :
      s.accessFault x (lsAccess c a n k) = none ∧ memoryAt x (c.unified (lsAccess c a n k)) := hacc n k ▸ hl
  have loads {i : Instr} {n : Nat} {k : AccKind} {mk : CoreSt → Plan} (hi : exec i s = s.answer (s.present h 2 mk))
      (hm : mk c = planAccess c a n k) (hk : ∀ d, k ≠ .store d) : load i n k := by
    intro hl
    rw [hacc, hafter]
    obtain ⟨hf, hmem⟩ := hlegal hl
    exact L.stalls hi (hm.trans (planAccess_eq c a n k)) hf (.inr ⟨hmem, hk⟩)
  have stores {i : Instr} {n : Nat} {d : Bytes} {mk : CoreSt → Plan} (hi : exec i s = s.answer (s.present h 2 mk))
      (hm : mk c = planAccess c a n (.store d)) : store i n d := by
    intro hl
    rw [hacc, hafter]
    obtain ⟨hf, hmem⟩ := hlegal hl
    exact L.posts hi (hm.trans (planAccess_eq c a n (.store d))) hf hmem rfl
  exact ⟨loads rfl rfl nofun, loads rfl rfl nofun, loads rfl rfl nofun, loads rfl rfl nofun, loads rfl rfl nofun,
    loads rfl rfl nofun, loads rfl rfl nofun, stores rfl rfl, stores rfl rfl, stores rfl rfl, stores rfl rfl,
    fun hx hd => ⟨loads rfl (if_pos ⟨hx, hd⟩) nofun, stores rfl (if_pos ⟨hx, hd⟩)⟩⟩

end Sys2Proof.Machine
end

section
/-! Atomics of a service core on shared SRAM (R276, R557), and ENQ of a prep core (R249, R276). -/

namespace Sys2Proof.Machine

/-! ENQ. -/

/-- A check that is passed, and those after it. -/
theorem passed_of_ite_none {α : Type} {p : Prop} [Decidable p] {a : α} {b : Option α} (h : (if p then some a else b) = none) :
    ¬ p ∧ b = none := by
  split at h
  · cases h
  · exact ⟨‹_›, h⟩

/-- An enqueue that breaks no address rule is to the control window (R276). -/
theorem State.uReg_of_enq {s : State} {x pd : Nat} {a : Access} {d : Bytes} (hk : a.kind = .enq d pd)
    (hf : s.accessFault x a = none) : uReg ((s.core x).unified a) = 8 := by
  unfold State.accessFault at hf
  rw [hk] at hf
  obtain ⟨-, hf⟩ := passed_of_ite_none hf
  cases hr : s.regionSize x (uReg ((s.core x).unified a)) with
  | none =>
    rw [hr] at hf
    cases hf
  | some size =>
    rw [hr] at hf
    obtain ⟨-, hf⟩ := passed_of_ite_none hf
    obtain ⟨henq, -⟩ := passed_of_ite_none hf
    by_contra h8
    exact henq (by simp [h8])

/-! A service core leaves the registers as they are. -/

section
variable (s : State) {x : Nat} (hx : 32 ≤ x)
include hx

theorem State.setCore_rf (c : CoreSt) : (s.setCore x c).rf = s.rf := by
  unfold State.setCore
  rw [if_neg (Nat.not_lt.mpr hx)]

theorem State.countLost_service (n : Nat) : s.countLost x n = s := by
  unfold State.countLost
  rw [if_neg (fun h => Nat.not_lt.mpr hx h.1)]

theorem State.advance_rf : (s.advance x).rf = s.rf := by
  unfold State.advance
  simp only [State.countLost_service _ hx]
  exact State.setCore_rf _ hx _

theorem State.pendWrite_rf (slot lat : Nat) (d : Dst) (v : BitVec 512) : (s.pendWrite x slot lat d v).rf = s.rf :=
  State.setCore_rf _ hx _

theorem State.issueAct_none_rf (after tgt : Nat) : (s.issueAct x after tgt .none).rf = s.rf := State.setCore_rf _ hx _

/-- A bundle of one operation of slot L on a service core that neither faults nor waits. -/
theorem State.issue_service {a : Access} (hb : (s.core x).bundle = [lPlan none (some a) false])
    (hf : s.planFault x (lPlan none (some a) false) = none) :
    s.issue x = (((s.setCore x { s.core x with stall := .none }).issueAccess x (s.core x).pc a).issueAct x ((s.core x).pc + 4) 0
      .none).advance x := by
  have hw := State.bundleWaits_access (s := s) (u := none) (a := a) (fun h => absurd h (Nat.not_lt.mpr hx))
  have hu : (lPlan none (some a) false).badUnit = false := rfl
  have hn : (lPlan none (some a) false).fence = false := rfl
  have hslot : ((lPlan none (some a) false).slot == 5) = false := rfl
  unfold State.issue
  simp only [hb, dupSlot_single, List.find?_singleton, hu, hn, hslot, State.bundleFault_single hf, hw, List.any_cons, List.any_nil,
    Bool.or_false, Bool.false_eq_true, if_false, Option.map_none, Option.getD_none, State.stackAct, if_neg (Nat.not_lt.mpr hx),
    List.foldl_cons, List.foldl_nil, List.length_singleton, Nat.mul_one, reduceCtorEq]
  rfl

end

/-! Atomics. -/

/-- The state with other bytes in shared SRAM. -/
def State.withSram (s : State) (l : List Host.Cell) : State := { s with fw := { s.fw with sram := l } }

theorem OneCore.withSram {s t : State} {x : Nat} {c : CoreSt} (h : OneCore s t x c) (l : List Host.Cell) :
    OneCore (s.withSram l) (t.withSram l) x c :=
  ⟨h.core, h.others, h.regs, by
    have := congrArg (fun u => State.withSram u l) h.rest
    exact this⟩

/-- An atomic on shared SRAM: the new value stored, the old one in flight (R276, R557). -/
theorem State.sramAccess_atomic (s : State) {x u gd : Nat} {a : Access} {wide swap : Bool} {v : DWord}
    (hk : a.kind = .atom wide swap v gd) (hu : uReg u = 2) :
    let old := leVal (sramBytes s.fw.sram (uOff u) a.size)
    s.sramAccess x a u
      = (s.withSram (sramStore s.fw.sram (uOff u) (le a.size (if swap then v.toNat else old + v.toNat)))).pendWrite x 2 6 (.g gd)
          (BitVec.ofNat 512 old) := by
  unfold State.sramAccess State.accessResult
  simp only [hk, hu, beq_self_eq_true, if_true]
  rfl

/-- An access of a service core to shared SRAM is made at issue. -/
theorem OneCore.issueAccess_atomic {s t : State} {x gd : Nat} {c : CoreSt} (h : OneCore s t x c) (hx : 32 ≤ x) (tfpc : Nat)
    {a : Access} {wide swap : Bool} {v : DWord} (hk : a.kind = .atom wide swap v gd) (hu : uReg (c.unified a) = 2) :
    let k := uOff (c.unified a)
    let old := leVal (sramBytes s.fw.sram k a.size)
    t.issueAccess x tfpc a
      = (t.withSram (sramStore s.fw.sram k (le a.size (if swap then v.toNat else old + v.toNat)))).pendWrite x 2 6 (.g gd)
          (BitVec.ofNat 512 old) := by
  have haccess := t.sramAccess_atomic (x := x) hk hu
  rw [h.fw] at haccess
  unfold State.issueAccess
  rw [h.core, if_neg (by omega), if_neg (by omega), if_neg (by omega)]
  exact haccess

/-- What an atomic of a service core alone leaves: its core with the old value in flight, and the word in shared SRAM. -/
theorem Lone.atomic {i : Instr} {s : State} {h : OpHdr} {mk : CoreSt → Plan} {gd : Nat} {a : Access} {wide swap : Bool} {v : DWord}
    (L : Lone s h 2) (hi : exec i s = s.answer (s.present h 2 mk)) (hm : mk (s.core h.core) = lPlan none (some a) false)
    (hx : 32 ≤ h.core.val) (hk : a.kind = .atom wide swap v gd) (hf : s.accessFault h.core a = none)
    (hu : uReg ((s.core h.core).unified a) = 2) :
    let k := uOff ((s.core h.core).unified a)
    let old := leVal (sramBytes s.fw.sram k a.size)
    let sram := sramStore s.fw.sram k (le a.size (if swap then v.toNat else old + v.toNat))
    Completes i s (fun t =>
      OneCore (s.withSram sram) t h.core ((s.core h.core).flying 2 6 (.g gd) (BitVec.ofNat 512 old)) ∧ t.rf = s.rf) := by
  intro k old sram
  have h0 := L.one (lPlan none (some a) false)
  have h1 := h0.setCore { s.core h.core with bundle := [lPlan none (some a) false], stall := .none }
  have hpres := State.present_lone L mk
  rw [hm, State.issue_service _ hx (by rw [h0.core]) ((h0.accessFault h.core.isLt a).trans hf), h0.core,
    h1.issueAccess_atomic hx _ hk hu] at hpres
  have hend := (((h1.withSram sram).pendWrite 2 6 (.g gd) (BitVec.ofNat 512 old)).nextPc ((s.core h.core).pc + 4) 0).advance
    (CoreSt.end_fly _ _ _ _ _ _ L.free L.empty L.flight L.straight (by decide))
  refine ⟨_, (hi.trans (congrArg s.answer hpres)).trans hend.answer, hend, ?_⟩
  rw [State.advance_rf _ hx, State.issueAct_none_rf _ hx, State.pendWrite_rf _ hx]
  exact (State.setCore_rf _ hx _).trans (State.setCore_rf _ hx _)

/-- The access that an atomic makes (R276). -/
def atomAccess (c : CoreSt) (gd aa : Nat) (ofs : BitVec 7) (wide swap : Bool) : Access :=
  ⟨(c.ar aa + ofs.signExtend 64 * BitVec.ofNat 64 (if wide then 8 else 4)).toNat, if wide then 8 else 4, aa,
    .atom wide swap (c.gr gd) gd⟩

theorem State.atomOp_eq (s : State) (h : OpHdr) (gd : Fin 64) (aa : Fin 16) (ofs : BitVec 7) (wide swap : Bool) :
    s.atomOp h gd aa ofs wide swap
      = s.present h 2 (fun c => lPlan none (some (atomAccess c gd aa ofs wide swap)) false) := rfl

/-- Settles O16: the atomics by what they store, and ENQ by the address rule that it is to a command port. -/
theorem atomicsAndEnqueues : Obligations.AtomicsAndEnqueues := by
  intro h gd aa pd vs ofs s L x c A
  have atomic (i : Instr) (wide swap : Bool) (hi : exec i s = s.answer (s.atomOp h gd aa ofs wide swap)) :
      A i (if wide then 8 else 4) wide swap (if swap then fun _ v => v else fun o v => o + v) := by
    intro hx hf hcompat hu
    rw [State.atomOp_eq] at hi
    have hua : c.unified (atomAccess c gd aa ofs wide swap) = (atomAccess c gd aa ofs wide swap).addr := by
      rw [CoreSt.unified, hcompat, if_neg Bool.false_ne_true]
    refine (L.atomic hi rfl hx rfl hf (by rw [hua]; exact hu)).imp (fun t ht => ?_)
    obtain ⟨hone, hrf⟩ := ht
    rw [hua] at hone
    refine ⟨hone.core, ?_, hone.others, fun k => ?_⟩
    · rw [hone.fw]
      cases swap <;> rfl
    · rw [State.reg, hrf, State.reg]
  refine ⟨atomic _ false false rfl, atomic _ true false rfl, atomic _ false true rfl, atomic _ true true rfl, fun hx hf => ?_⟩
  exact L.stalls (n := 0) (upd := none) rfl (if_pos hx) hf (.inl (State.uReg_of_enq rfl hf))

end Sys2Proof.Machine
end

section
/-! Reads and writes of memory leave the cores as they are (R90–R96, R535, R542, R602). -/

namespace Sys2Proof.Machine

/-- The cores of `t` are those of `s`. -/
def CoresKept (s t : State) : Prop := t.cores = s.cores

theorem CoresKept.refl (s : State) : CoresKept s s := rfl

theorem CoresKept.trans {s t u : State} (h1 : CoresKept s t) (h2 : CoresKept t u) : CoresKept s u := Eq.trans h2 h1

section
variable {s t : State} (h : CoresKept s t)
include h

theorem CoresKept.setReg64 (a b n : Nat) : CoresKept s (t.setReg64 a b n) := h
theorem CoresKept.setFld (k : Nat) (f : Fld) (n : Nat) : CoresKept s (t.setFld k f n) := h
theorem CoresKept.setBit (k : Nat) (f : Fld) (i : Nat) (b : Bool) : CoresKept s (t.setBit k f i b) := h
theorem CoresKept.bump (k : Nat) (f : Fld) : CoresKept s (t.bump k f) := h
theorem CoresKept.fab (m : FabSt) : CoresKept s { t with fab := m } := h
theorem CoresKept.setChan (ch : Nat) (c : ChanSt) : CoresKept s (t.setChan ch c) := h
theorem CoresKept.setCkpt (p : Nat) (c : CkSt) : CoresKept s (t.setCkpt p c) := h
theorem CoresKept.pair (m : PairSt) : CoresKept s { t with pair := m } := h
theorem CoresKept.raiseEvent (n p : Nat) (d : Bytes) : CoresKept s (t.raiseEvent n p d) := h
theorem CoresKept.logged {u : State} (hu : Logged t u) : CoresKept s u := by
  have := congrArg State.cores hu.rest
  exact Eq.trans this h

end

theorem CoresKept.ite {s a b : State} {c : Prop} [Decidable c] (ha : CoresKept s a) (hb : CoresKept s b) :
    CoresKept s (if c then a else b) := by
  split
  · exact ha
  · exact hb

/-! Reports and the retirement list (R95, R96). -/

theorem State.lastErr_coresKept (s : State) (o : Byte) (n : Nat) (st : MemStatus) : CoresKept s (s.lastErr o n st) :=
  (((CoresKept.refl s).setReg64 _ _ _).setFld _ _ _).setFld _ _ _

theorem State.memReport_coresKept (s : State) (o : Byte) (a : Place) (st : MemStatus) : CoresKept s (s.memReport o a st) := by
  unfold State.memReport
  cases st with
  | corrected =>
    have h := ((CoresKept.refl s).bump (Reg.MF_CH_CE a.ch) Fld.MF_CH_CE_COUNT).setChan a.ch
    exact .ite ((h _).bump _ _) (h _)
  | uncorrectable | tagMismatch =>
    have h := s.lastErr_coresKept o a.dpa
    exact (CoresKept.ite (((h _).bump _ _).setBit _ _ _ _) (h _)).logged ((Logged.refl _).errRecord _ _ _ _ _)
  | _ => exact .refl s

theorem State.setRetired_coresKept (s : State) (l : List (Nat × Bool)) : CoresKept s (s.setRetired l) :=
  ((CoresKept.refl s).fab _).setFld _ _ _

theorem State.retireOverflow_coresKept (s : State) (a : Nat) : CoresKept s (s.retireOverflow a) :=
  ((CoresKept.refl s).setFld _ _ _).logged ((Logged.refl _).alarm _ _ _ _ _)

theorem State.retire_coresKept (s : State) (n a : Nat) : CoresKept s (s.retire n a) :=
  .ite (.refl s) (.ite (s.setRetired_coresKept _) (s.retireOverflow_coresKept a))

/-! Lines at a place. -/

theorem State.readPlace_coresKept (s : State) (a : Place) (o e : Byte) : CoresKept s (s.readPlace a o e).1 := by
  unfold State.readPlace
  split
  · exact .refl s
  · split
    · exact s.memReport_coresKept _ _ _
    · split
      · exact s.memReport_coresKept _ _ _
      · have h := s.memReport_coresKept o a (s.fab.decode a o e).1
        exact .ite (h.trans (State.retire_coresKept _ _ _)) h

theorem State.storeLine_coresKept (s : State) (a : Place) (d cl : Bytes) : CoresKept s (s.storeLine a d cl) :=
  (CoresKept.refl s).fab _

theorem State.countHard_coresKept (s : State) (ch : Nat) : CoresKept s (s.countHard ch) :=
  .ite ((CoresKept.refl s).setFld _ _ _) (.refl s)

theorem State.readBack_coresKept (s : State) (a : Place) (o e : Byte) : CoresKept s (s.readBack a o e) := by
  have h := s.setRetired_coresKept
  exact .ite (.refl s) (.ite (h _) (.ite ((h _).trans (State.countHard_coresKept _ _)) (h _)))

theorem State.writePlace_coresKept (s : State) (a : Place) (o e : Byte) (d : Bytes) : CoresKept s (s.writePlace a o e d).1 := by
  have hstored (t : State) (b : Bytes) : CoresKept t ((t.storeLine a d b).readBack a o e) :=
    (t.storeLine_coresKept a d b).trans (State.readBack_coresKept _ _ _ _)
  unfold State.writePlace
  split
  · exact .refl s
  · split
    · exact s.memReport_coresKept _ _ _
    · dsimp only
      split
      · split
        · exact (s.retireOverflow_coresKept _).trans (State.memReport_coresKept _ _ _ _)
        · exact (s.setRetired_coresKept _).trans (hstored _ _)
      · exact hstored s _
      · exact hstored s _

theorem State.mergePlace_coresKept (s : State) (a : Place) (o e : Byte) (off : Nat) (d : Bytes) :
    CoresKept s (s.mergePlace a o e off d).1 := by
  have h := s.readPlace_coresKept a o e
  unfold State.mergePlace
  dsimp only
  split
  · exact h.trans (State.writePlace_coresKept _ _ _ _ _)
  · exact h

/-! Lines of a space. -/

theorem State.countFrame_coresKept (s : State) (sp : Space) (a : Place) : CoresKept s (s.countFrame sp a) := by
  cases sp with
  | part => exact (CoresKept.refl s).setChan _ _
  | svc => exact .refl s

/-! The kernel would evaluate an address translation, or a line's read, where a result is taken apart: they stand under
a variable's name there. -/

theorem State.readLine_coresKept (s : State) (sp : Space) (a : Nat) : CoresKept s (s.readLine sp a).1 := by
  have hdef : @State.readLine = @State.readLine := rfl
  conv at hdef => rhs; delta State.readLine
  rw [hdef]
  obtain ⟨translate, ht⟩ : ∃ f, f = @State.translate := ⟨_, rfl⟩
  rw [← ht]
  dsimp only
  split
  · exact .refl s
  · exact (s.countFrame_coresKept sp _).trans (State.readPlace_coresKept _ _ _ _)

theorem State.writeLine_coresKept (s : State) (sp : Space) (a : Nat) (d : Bytes) : CoresKept s (s.writeLine sp a d).1 := by
  have hdef : @State.writeLine = @State.writeLine := rfl
  conv at hdef => rhs; delta State.writeLine
  rw [hdef]
  obtain ⟨translate, ht⟩ : ∃ f, f = @State.translate := ⟨_, rfl⟩
  rw [← ht]
  dsimp only
  split
  · exact .refl s
  · split
    · exact (s.countFrame_coresKept sp _).trans (State.writePlace_coresKept _ _ _ _ _)
    · exact (s.countFrame_coresKept sp _).trans (State.mergePlace_coresKept _ _ _ _ _ _)

theorem State.readSpan_coresKept (sp : Space) (fuel : Nat) (s : State) (a n : Nat) : CoresKept s (s.readSpan sp fuel a n).1 := by
  have hline := State.readLine_coresKept
  delta State.readSpan State.readSpan._f
  obtain ⟨readLine, hread⟩ : ∃ f, f = @State.readLine := ⟨_, rfl⟩
  rw [← hread] at hline ⊢
  induction fuel generalizing s a n with
  | zero => exact .refl s
  | succ fuel ih =>
    dsimp only
    split
    · exact .refl s
    · split
      · exact hline s sp a
      · exact (hline s sp a).trans (ih _ _ _)

/-! What a completed write of a partition causes. -/

theorem State.copyLines_coresKept (p n : Nat) (s : State) (src dst : Nat) : CoresKept s (s.copyLines p src dst n).1 := by
  have hr := State.readLine_coresKept
  have hw := State.writeLine_coresKept
  delta State.copyLines State.copyLines._f
  obtain ⟨readLine, hread⟩ : ∃ f, f = @State.readLine := ⟨_, rfl⟩
  obtain ⟨writeLine, hwrite⟩ : ∃ f, f = @State.writeLine := ⟨_, rfl⟩
  rw [← hread] at hr ⊢
  rw [← hwrite] at hw ⊢
  induction n generalizing s src dst with
  | zero => exact .refl s
  | succ n ih =>
    have h := (hr s (.part p) src).trans (hw _ (.part p) dst (readLine s (.part p) src).2.2)
    dsimp only
    split
    · exact hr s (.part p) src
    · split
      · exact h.trans (ih _ _ _)
      · exact h

theorem State.ckFail_coresKept (s : State) (p r : Nat) : CoresKept s (s.ckFail p r) := by
  unfold State.ckFail State.ckDirty
  exact (((((((CoresKept.refl s).setCkpt _ _).setFld _ _ _).setFld _ _ _).setFld _ _ _).raiseEvent _ _ _).setFld _ _ _).bump _ _

theorem State.granCopy_coresKept (s : State) (p g : Nat) : CoresKept s (s.granCopy p g) := by
  have hcopy := State.copyLines_coresKept
  delta State.granCopy
  obtain ⟨copyLines, hc⟩ : ∃ f, f = @State.copyLines := ⟨_, rfl⟩
  rw [← hc] at hcopy ⊢
  dsimp only
  split
  · exact .refl s
  · have h := hcopy p 1024 s (g * 65536) (s.skimBase p + 65536 * (s.ckpt p).slotOf g)
    split
    · exact (h.setCkpt _ _).bump _ _
    · exact h.trans (State.ckFail_coresKept _ _ _)

theorem State.copyBefore_coresKept (s : State) (p g : Nat) : CoresKept s (s.copyBefore p g) :=
  .ite (((CoresKept.refl s).bump _ _).trans (State.granCopy_coresKept _ _ _)) (.refl s)

theorem State.granWritten_coresKept (s : State) (p g : Nat) : CoresKept s (s.granWritten p g) := by
  have h := (CoresKept.refl s).setCkpt p ((s.ckpt p).mark g .dirty)
  exact .ite (.refl s) (.ite (h.setFld _ _ _) h)

theorem State.mirQueue_coresKept (s : State) (p : Nat) (m : MirMsg) : CoresKept s (s.mirQueue p m) :=
  .ite ((CoresKept.refl s).pair _) (((CoresKept.refl s).pair _).bump _ _)

theorem State.mirForward_coresKept (s : State) (p a : Nat) (d : Bytes) : CoresKept s (s.mirForward p a d) :=
  .ite (s.mirQueue_coresKept _ _) (.refl s)

theorem State.partWrite_coresKept (s : State) (p a : Nat) (d : Bytes) : CoresKept s (s.partWrite p a d).1 := by
  have hw := State.writeLine_coresKept
  have hdef : @State.partWrite = @State.partWrite := rfl
  conv at hdef => rhs; delta State.partWrite
  rw [hdef]
  obtain ⟨writeLine, hwrite⟩ : ∃ f, f = @State.writeLine := ⟨_, rfl⟩
  rw [← hwrite] at hw ⊢
  have h := (s.copyBefore_coresKept p (a / 65536)).trans (hw _ (.part p) a d)
  dsimp only
  split
  · exact (h.trans (State.granWritten_coresKept _ _ _)).trans (State.mirForward_coresKept _ _ _ _)
  · exact h

end Sys2Proof.Machine
end

section
/-! What ends a core's stalls (R229, R230, R240, R250, R252). -/

namespace Sys2Proof.Machine

/-! Cores set by the ends of stalls. -/

theorem CoreSet.refl (s : State) (x : Nat) : CoreSet s s x (s.core x) := ⟨rfl, fun _ _ => rfl⟩

theorem CoresKept.coreSet {s t : State} (h : CoresKept s t) (x : Nat) : CoreSet s t x (s.core x) :=
  (CoreSet.refl s x).of_cores h

section
variable {s t : State} {x : Nat} {c : CoreSt} (h : CoreSet s t x c)
include h

theorem CoreSet.countStall (n : Nat) : CoreSet s (t.countStall x n) x c := by
  unfold State.countStall
  split
  · exact h.of_cores (State.setFld_cores _ _ _ _)
  · exact h

theorem CoreSet.pendWrite (slot lat : Nat) (d : Dst) (v : BitVec 512) :
    CoreSet s (t.pendWrite x slot lat d v) x { c with pend := c.pend ++ [⟨c.adv + lat, slot, d, v⟩] } := by
  unfold State.pendWrite
  rw [h.core]
  exact h.setCore _

/-- A stall ends where no HALT awaits it. -/
theorem CoreSet.unstall (hh : c.halting = false) : CoreSet s (t.unstall x) x { c with stall := .none } := by
  unfold State.unstall
  simp only [h.core, hh, Bool.false_eq_true, if_false]
  exact h.setCore _

theorem CoreSet.accessEnd (hh : c.halting = false) : CoreSet s (t.accessEnd x) x { c with stall := .none } :=
  (h.countStall _).unstall hh

/-- No bundle waits to issue. -/
theorem CoreSet.bundleRetry (hs : c.stall ≠ .bundle) : t.bundleRetry x = t := by
  unfold State.bundleRetry
  simp only [h.core, hs, false_and, if_false]

end

/-! Answers (R230). -/

theorem State.loadMem_coresKept (s : State) (x u n : Nat) : CoresKept s (s.loadMem x u n).1 := by
  have hr := State.readSpan_coresKept
  have hdef : @State.loadMem = @State.loadMem := rfl
  conv at hdef => rhs; delta State.loadMem State.readBytes
  rw [hdef]
  obtain ⟨readSpan, hread⟩ : ∃ f, f = @State.readSpan := ⟨_, rfl⟩
  obtain ⟨coreSpace, hspace⟩ : ∃ f, f = @State.coreSpace := ⟨_, rfl⟩
  rw [← hread] at hr ⊢
  rw [← hspace]
  dsimp only
  split
  · exact hr _ _ s _ _
  · exact .refl s

/-- A load from memory that succeeds: its result takes five advancing cycles. -/
theorem CoreSet.accessAnswer {s s' : State} {x : Nat} {a : Access} {sg : Bool} {dst : Dst} {st : MemStatus} {d : Bytes}
    (hopen : s.wrDrops = false) (hh : (s.core x).halting = false) (hposted : (s.core x).posted = [])
    (hkind : a.kind = .load sg dst) (hreg : uReg ((s.core x).unified a) ≠ 8)
    (hload : s.loadMem x ((s.core x).unified a) a.size = (s', st, d)) (hgood : st.good = true) (tfpc : Nat) :
    CoreSet s (s.accessAnswer x a tfpc) x
      { s.core x with
        stall := .none, pend := (s.core x).pend ++ [⟨(s.core x).adv + 5, 2, dst, loadValue sg d⟩] } := by
  have hkept : CoresKept s s' := by
    have h := s.loadMem_coresKept x ((s.core x).unified a) a.size
    rw [hload] at h
    exact h
  have hdef : @State.accessAnswer = @State.accessAnswer := rfl
  conv at hdef => rhs; delta State.accessAnswer
  rw [hdef]
  obtain ⟨loadMem, hmem⟩ : ∃ f, f = @State.loadMem := ⟨_, rfl⟩
  rw [← hmem] at hload ⊢
  have hbusy : (s.core x).lineBusy ((s.core x).unified a) = false := by rw [CoreSt.lineBusy, hposted, List.any_nil]
  simp only [hopen, hreg, hbusy, hload, hgood, Bool.false_eq_true, if_false, if_true, State.loadReply, hkind]
  exact ((hkept.coreSet x).accessEnd hh).pendWrite 2 5 dst _

/-! Posted stores (R240). -/

/-- What a posted store's status leaves: a failure is counted and kept for the next fence. -/
def State.storeStatus (s : State) (x u : Nat) (st : MemStatus) : State :=
  if st.good then s
  else
    let c := s.core x
    let s := s.setCore x { c with storeErr := some (c.storeErr.getD (u, st.code)) }
    if x < 32 then s.bump (Reg.PX_CNT_STORE_ERR (pxc x) (pxi x)) Fld.PX_CNT_STORE_ERR_COUNT else s

/-- Once a posted store has its status, only the note of a failure changes in the core. -/
theorem CoreSet.storeStatus {s t : State} {x : Nat} {c : CoreSt} (h : CoreSet s t x c) (hs : c.stall ≠ .bundle) (u : Nat)
    (st : MemStatus) : ∃ e, CoreSet s ((t.storeStatus x u st).bundleRetry x) x { c with storeErr := e } := by
  unfold State.storeStatus
  split
  · rw [h.bundleRetry hs]
    exact ⟨c.storeErr, h⟩
  · have hset := h.setCore { c with storeErr := some (c.storeErr.getD (u, st.code)) }
    refine ⟨some (c.storeErr.getD (u, st.code)), ?_⟩
    simp only [h.core]
    split
    · have hb := hset.of_cores (State.bump_cores _ (Reg.PX_CNT_STORE_ERR (pxc x) (pxi x)) Fld.PX_CNT_STORE_ERR_COUNT)
      rw [hb.bundleRetry hs]
      exact hb
    · rw [hset.bundleRetry hs]
      exact hset

/-- The oldest posted store completes: only its entry and the note of a failure change in the core. -/
theorem CoreSet.postedDone {s : State} {x u : Nat} {d : Bytes} {r : List (Nat × Bytes)} (hopen : s.wrDrops = false)
    (hposted : (s.core x).posted = (u, d) :: r) (hs : (s.core x).stall ≠ .bundle) :
    ∃ e, CoreSet s (s.postedDone x) x { s.core x with posted := r, storeErr := e } := by
  have hset := (CoreSet.refl s x).setCore { s.core x with posted := r }
  have hpart := State.partWrite_coresKept
  have hline := State.writeLine_coresKept
  have hdef : @State.postedDone = @State.postedDone := rfl
  conv at hdef => rhs; delta State.postedDone
  rw [hdef]
  obtain ⟨coreSpace, hspace⟩ : ∃ f, f = @State.coreSpace := ⟨_, rfl⟩
  obtain ⟨partWrite, hpw⟩ : ∃ f, f = @State.partWrite := ⟨_, rfl⟩
  obtain ⟨writeLine, hwl⟩ : ∃ f, f = @State.writeLine := ⟨_, rfl⟩
  rw [← hpw] at hpart
  rw [← hwl] at hline
  simp only [hposted, hopen, Bool.false_eq_true, if_false, ← hspace, ← hpw, ← hwl]
  cases coreSpace (s.setCore x { s.core x with posted := r }) x with
  | none => exact hset.storeStatus hs u .outOfRange
  | some sp =>
    cases sp with
    | part p =>
      dsimp only
      split
      · exact hset.storeStatus hs u .outOfRange
      · exact (hset.of_cores (hpart _ p (uOff u) d)).storeStatus hs u _
    | svc => exact (hset.of_cores (hline _ .svc (uOff u) d)).storeStatus hs u _

/-! Deferred traps (R252). -/

theorem tcauseOf_late (f : OpFault) (slot : Nat) :
    tcauseOf f slot true = f.cause % 256 + 2 ^ 8 * (f.detail % 256) + 2 ^ 16 * (slot % 8) + 2 ^ 19 := rfl

theorem CoreSet.deferred {s : State} {x : Nat} {f : LateFault} {r : List LateFault} (hopen : s.wrDrops = false)
    (hlate : (s.core x).late = f :: r) (hp : (s.core x).pend = []) (hi : (s.core x).inHandler = false)
    (hv : (s.core x).tvec.getLsbD 0 = true) :
    CoreSet s (s.deferred x) x ({ s.core x with late := r }.trapped f.fault f.slot true f.tfpc).entered := by
  unfold State.deferred
  simp only [hopen, hlate, Bool.false_eq_true, if_false]
  have hset := (CoreSet.refl s x).setCore { s.core x with late := r }
  exact hset.coreTrap_entered hp hi hv _ _ _ _

/-! Waits (R250). -/

theorem State.capPush_cores (s : State) (p n : Nat) (r : Bytes) : (s.capPush p n r).cores = s.cores := by
  unfold State.capPush
  split
  · rfl
  · dsimp only
    split
    · exact State.bump_cores _ _ _
    · rfl

theorem State.waitTrace_coresKept (s : State) (w o k g v n b : Nat) (p : Option Nat) :
    CoresKept s (s.waitTrace w o k g v n b p) := by
  have h : CoresKept s (s.tailEvent w 4 o (g % 65536)) := State.tailEvent_cores _ _ _ _ _
  cases p with
  | some p => exact .ite (h.trans (State.capPush_cores _ _ _ _)) h
  | none => exact .ite (h.logged ((Logged.refl _).logWrite _)) h

section
variable {s : State} {x : Nat} {w : WaitCond} {pd limit : Nat} (hst : (s.core x).stall = .wait w pd limit)
include hst

/-- A wait whose condition does not hold and whose limit has not run out goes on. -/
theorem State.waitEnd_of_not {e : Bool} (h : ((s.waitCond x w).1 || (e && limit != 0)) = false) : s.waitEnd x e = s := by
  unfold State.waitEnd
  simp only [hst, h, Bool.not_false, Bool.or_true, if_true]

theorem CoreSet.waitEnd {e : Bool} (h : ((s.waitCond x w).1 || (e && limit != 0)) = true) (hr : s.coreRuns x = true)
    (hh : (s.core x).halting = false) :
    CoreSet s (s.waitEnd x e) x { (s.core x).put (.p pd) (if (s.waitCond x w).1 then 1 else 0) with stall := .none } := by
  have hput := (CoreSet.refl s x).setCore ((s.core x).put (.p pd) (if (s.waitCond x w).1 then 1 else 0))
  have hhalt : ((s.core x).put (.p pd) (if (s.waitCond x w).1 then 1 else 0)).halting = false := by
    unfold CoreSt.put
    dsimp only
    split <;> exact hh
  unfold State.waitEnd
  simp only [hst, h, hr, Bool.not_true, Bool.or_false, Bool.false_eq_true, if_false]
  refine CoreSet.unstall (CoreSet.of_cores ?_ (State.waitTrace_coresKept _ _ _ _ _ _ _ _ _)) hhalt
  split
  · exact hput.of_cores (State.setFld_cores _ _ _ _)
  · exact hput

end

/-- Settles O17: what each row leaves of the core. -/
theorem stallsEnd : Obligations.StallsEnd := by
  intro s x hs c
  refine ⟨?_, ?_, ?_, ?_⟩
  · intro a tfpc sg dst st d s' hst hkind hreg hh hposted hload hgood
    have hanswer : s.coreAnswer x = s.accessAnswer x a tfpc := by
      unfold State.coreAnswer
      rw [hst]
    have h := CoreSet.accessAnswer hs.open_ hh hposted hkind hreg hload hgood tfpc
    exact ((hanswer ▸ h).completes (i := .pxAccessAnswer x) rfl).imp fun t ht => ⟨ht.core, ht.others⟩
  · intro u d r hposted hst
    obtain ⟨e, h⟩ := CoreSet.postedDone hs.open_ hposted hst
    refine (h.completes (i := .postedStoreComplete x) rfl).imp fun t ht => ?_
    rw [ht.core]
    exact ⟨rfl, rfl, rfl, ht.others⟩
  · intro f r hlate hp hi hv
    refine ((CoreSet.deferred hs.open_ hlate hp hi hv).completes (i := .deferredTrap x) rfl).imp fun t ht => ht.core.trans ?_
    rw [CoreSt.trapped, tcauseOf_late]
    rfl
  · intro i pd limit hst hh hr seen
    have hrow (e : Bool) : exec (.waitEnd x e) s = s.answer (s.waitEnd x e) := congrArg s.answer (hs.unit _)
    have hholds : (s.waitCond x (.doorbell i)).1 = (seen.toNat != 0) := rfl
    refine ⟨fun hseen e => ?_, fun hseen hlimit => ?_, fun hseen => ?_⟩
    · have h1 : (s.waitCond x (.doorbell i)).1 = true := by
        rw [hholds]
        simpa [← BitVec.toNat_inj] using hseen
      have h := CoreSet.waitEnd hst (e := e) (by rw [h1, Bool.true_or]) hr hh
      rw [h1] at h
      exact (h.completes (hrow e)).imp fun t ht => ht.core
    · have h0 : (s.waitCond x (.doorbell i)).1 = false := by rw [hholds, hseen]; rfl
      have h := CoreSet.waitEnd hst (e := true) (by rw [h0]; simpa using hlimit) hr hh
      rw [h0] at h
      exact (h.completes (hrow true)).imp fun t ht => ht.core
    · have h0 : (s.waitCond x (.doorbell i)).1 = false := by rw [hholds, hseen]; rfl
      have h := State.waitEnd_of_not hst (e := false) (by rw [h0]; rfl)
      exact completes_of_answer ((hrow false).trans (congrArg s.answer h)) (funext fun y => State.core_of_cores rfl y)

end Sys2Proof.Machine
end

section
/-! Lanes of a vector (R278): a lane is a digit of the number that the vector holds. -/

namespace Sys2Proof.Machine

/-- The lanes of a vector fill it. -/
theorem laneBits_mul_laneCount (lw : Fin 4) : laneBits lw * laneCount lw = 512 := by
  revert lw
  decide

theorem lanes_zipWith_getD {lw i : Nat} (f : Nat → Nat → Nat) (x y : BitVec 512) (hi : i < laneCount lw) :
    (List.zipWith f (lanes lw x) (lanes lw y)).getD i 0 = f (lane lw x i) (lane lw y i) := by
  simp [lanes, hi]

/-- A digit of the number that digits spell, each cut to the base. -/
theorem foldr_digit {b : Nat} (hb : 0 < b) (l : List Nat) (i : Nat) :
    l.foldr (fun x acc => x % b + b * acc) 0 / b ^ i % b = l.getD i 0 % b := by
  induction l generalizing i with
  | nil => simp
  | cons x l ih =>
    cases i with
    | zero => simp
    | succ i =>
      have hdrop (n : Nat) : (x % b + b * n) / b ^ (i + 1) = n / b ^ i := by
        rw [pow_succ', ← Nat.div_div_eq_div_mul, Nat.add_mul_div_left _ _ hb, Nat.div_eq_of_lt (Nat.mod_lt _ hb),
          Nat.zero_add]
      simpa [hdrop] using ih i

/-- Bits of a number cut to a width that holds them. -/
theorem toNat_extractLsb'_ofNat {w k m : Nat} (h : k + m ≤ w) (n : Nat) :
    ((BitVec.ofNat w n).extractLsb' k m).toNat = n / 2 ^ k % 2 ^ m := by
  have hsplit : 2 ^ w = 2 ^ k * 2 ^ (w - k) := by rw [← pow_add, Nat.add_sub_cancel' (by omega)]
  have hkeep : 2 ^ m ∣ 2 ^ (w - k) := pow_dvd_pow 2 (by omega)
  rw [BitVec.extractLsb'_toNat, BitVec.toNat_ofNat, Nat.shiftRight_eq_div_pow, hsplit, Nat.mod_mul_right_div_self,
    Nat.mod_mod_of_dvd _ hkeep]

theorem lane_inside {lw : Fin 4} {i : Nat} (hi : i < laneCount lw) : laneBits lw * i + laneBits lw ≤ 512 := by
  rw [← laneBits_mul_laneCount lw, ← Nat.mul_succ]
  exact Nat.mul_le_mul_left _ hi

theorem lane_ofLanes {lw : Fin 4} {i : Nat} (hi : i < laneCount lw) (l : List Nat) :
    lane lw (ofLanes lw l) i = l.getD i 0 % 2 ^ laneBits lw :=
  calc lane lw (ofLanes lw l) i
      = l.foldr (fun x acc => x % 2 ^ laneBits lw + 2 ^ laneBits lw * acc) 0 / 2 ^ (laneBits lw * i) % 2 ^ laneBits lw :=
        toNat_extractLsb'_ofNat (lane_inside hi) _
    _ = l.getD i 0 % 2 ^ laneBits lw := by rw [pow_mul, foldr_digit (Nat.two_pow_pos _)]

theorem lane_lanes2 {lw : Fin 4} {i : Nat} (hi : i < laneCount lw) (f : Nat → Nat → Nat) (x y : BitVec 512) :
    lane lw (lanes2 lw f x y) i = f (lane lw x i) (lane lw y i) % 2 ^ laneBits lw := by
  rw [lanes2, lane_ofLanes hi, lanes_zipWith_getD f x y hi]

/-- Settles O6: a lane is a digit of its vector's number. -/
theorem lanesReadBack : Obligations.LanesReadBack :=
  fun _ _ hi => ⟨lane_ofLanes hi, lane_lanes2 hi⟩

end Sys2Proof.Machine
end

section
/-! Scalar arithmetic, compares and predicate logic alone in their bundle (R271). -/

namespace Sys2Proof.Machine

theorem ite_sLt {α : Type} (a b : DWord) (x y : α) : (if sLt a b then x else y) = if a.toInt < b.toInt then x else y := by
  simp [sLt]

theorem not_sLt (a b : DWord) : (!sLt b a) = decide (a.toInt ≤ b.toInt) := by
  simp [sLt, ← decide_not]

/-- A compare whose condition is `f'` of its core. -/
theorem does_of_cmpOp {i : Instr} {h : OpHdr} {pd : Fin 16} {f f' : CoreSt → Bool}
    (hi : ∀ s, exec i s = s.answer (s.cmpOp h pd f)) (hf : ∀ c, f c = f' c) :
    Does i h (sSlot h) (fun _ c => c.wrote (.p pd) (if f' c then 1 else 0)) :=
  does_of_write hi (fun _ c => congrArg (planP (sSlot h) pd 1) (hf c))

/-- Settles O2: each operation is one write at latency 1; MIN and MAX compare signed. -/
theorem scalarArithmetic : Obligations.ScalarArithmetic := by
  intro h gd ga gb W
  and_intros
  iterate 9 exact does_of_write (fun _ => rfl) (fun _ _ => rfl)
  · exact does_of_write (fun _ => rfl) (fun _ _ => congrArg (planG (sSlot h) gd 1) (ite_sLt _ _ _ _))
  · exact does_of_write (fun _ => rfl) (fun _ _ => congrArg (planG (sSlot h) gd 1) (ite_sLt _ _ _ _))
  iterate 4 exact does_of_write (fun _ => rfl) (fun _ _ => rfl)

/-- Settles O4: each immediate is one write of gd, and each compare one of pd, by its condition. -/
theorem immediatesAndCompares : Obligations.ImmediatesAndCompares := by
  intro h gd ga gb pd pa pb k imm im6 W P
  and_intros
  iterate 4 exact does_of_write (fun _ => rfl) (fun _ _ => rfl)
  · refine does_of_cmpOp (fun _ => rfl) (fun c => ?_)
    match k with
    | 0 | 1 | 2 => rfl
    | 3 => exact not_sLt _ _
  all_goals
    refine does_of_cmpOp (fun _ => rfl) (fun c => ?_)
    match k with
    | 0 | 1 | 2 | 3 => rfl

end Sys2Proof.Machine
end

section
/-! Operations of slots V and F alone in their bundle (R278–R288): each is one write in flight, where its operands are those
that its form allows. -/

namespace Sys2Proof.Machine

/-- Settles O7: each operation is one write in flight at its latency; VEXT names a lane that is there. -/
theorem vectorIntegers : Obligations.VectorIntegers := by
  intro h a v g ln lw F s2 mask
  and_intros
  iterate 19 exact does_of_fly (fun _ => rfl) (fun _ _ => rfl) (by decide)
  exact fun hln => does_of_fly (fun _ => rfl) (fun _ _ => if_pos hln) (by decide)

/-- Settles O8: with LW 2 each operation is one write in flight at latency 4. -/
theorem vectorFp32 : Obligations.VectorFp32 := by
  intro h a ha F mask
  and_intros
  all_goals exact does_of_fly (fun _ => rfl) (fun _ _ => if_pos ha) (by decide)

/-- Settles O9, by what each form requires: a zero vb, LW 2 with a zero vb, LW 2. -/
theorem reductions : Obligations.Reductions := by
  intro h a lw s2 F
  refine ⟨fun hb => ?_, fun ha hb => ?_, fun ha => ?_⟩
  · and_intros
    all_goals exact does_of_fly (fun _ => rfl) (fun _ _ => if_pos hb) (by decide)
  · and_intros
    all_goals exact does_of_fly (fun _ => rfl) (fun _ _ => if_pos ⟨ha, hb⟩) (by decide)
  · and_intros
    all_goals exact does_of_fly (fun _ => rfl) (fun _ _ => if_pos ha) (by decide)

/-- Settles O10: the functions of both forms, and the conversions of the vector form by the group and the format that they
allow. -/
theorem slotF : Obligations.SlotF := by
  intro h vd va gd ga grp fmt V G each low
  refine ⟨⟨?_, ?_⟩, ⟨?_, ?_⟩, ⟨?_, ?_⟩, ⟨?_, ?_⟩, fun f off len hgrp => ⟨?_, ?_⟩, fun hgrp => ?_, ⟨?_, ?_⟩, ⟨?_, ?_⟩⟩
  iterate 4
    exact does_of_fly (fun _ => rfl) (fun _ _ => if_pos ⟨rfl, rfl⟩) (by decide)
    exact does_of_fly (fun _ => rfl) (fun _ _ => rfl) (by decide)
  · exact does_of_fly (fun _ => rfl) (fun _ _ => by simp only [hgrp, planFv]) (by decide)
  · exact does_of_fly (fun _ => rfl) (fun _ _ => by simp only [hgrp]) (by decide)
  · exact does_of_fly (fun _ => rfl) (fun _ _ => if_pos hgrp) (by decide)
  iterate 2
    exact does_of_fly (fun _ => rfl) (fun _ _ => if_pos ⟨rfl, rfl⟩) (by decide)
    exact does_of_fly (fun _ => rfl) (fun _ _ => rfl) (by decide)

end Sys2Proof.Machine
end

section
/-! The block as a whole: a step and its command, and that no command stops the sled (log entries 1 and 11). -/

namespace Sys2Proof.Machine

/-- An answer completes in a next state with the sender's queue. -/
theorem State.Answers.completes {s : State} {r : Host.Outcome State Fault Refusal} (h : s.Answers r) :
    ∃ t, r = .next t ∧ t.pending = s.pending := by
  cases h with
  | ordinary u =>
    obtain ⟨t, ht, hqueue, -, -⟩ := s.answer_spec u
    exact ⟨t, ht, hqueue⟩
  | timed u o n hn =>
    obtain ⟨t, ht, hqueue, -, -⟩ := s.answerAt_spec u o n
    exact ⟨t, ht, hqueue⟩

/-- Settles O21: every command gives an ordinary answer or one that sets the time, and both complete. -/
theorem everyCommandCompletes : Obligations.EveryCommandCompletes :=
  fun c s => (exec_answers c s).completes

/-- Settles O19, by the branch of a step whose queue is not empty. -/
theorem stepRunsFront : Obligations.StepRunsFront :=
  fun _ _ _ hq => step_of_front hq

end Sys2Proof.Machine
end
